-- ==== Sys2Proof/Word.lean ====
section
/-! DEFINITION. The words of the UB6096: bytes, texts, digests, and the numbers that name rooms, signs, lines and positions. -/

namespace Sys2Proof

/-- A byte on a master line or a sign line (R184, R187). -/
abbrev Byte := BitVec 8

/-- A title, presenter, room name or notice text, as bytes the hub stores and does not interpret (R7). -/
abbrev Text := List Byte

/-- A CRC-16 digest (R185). -/
abbrev Digest := BitVec 16

/-- Rooms 0 to 63 (R1). -/
abbrev RoomId := Fin 64

/-- Signs 0 to 95 (R93). -/
abbrev SignId := Fin 96

/-- Sign lines L0 to L5 (R131). -/
abbrev LineId := Fin 6

/-- Positions 0 to 15 on a sign line (R135). -/
abbrev Position := Fin 16

end Sys2Proof
end

