-- ==== Sys2Proof/Syntax.lean ====
section
/-! DEFINITION. The commands of the UB6096, one constructor per row of spec/opcode_table.json. A request carries its
fields as the numbers and texts of the wire (R184), so that a value outside its range can be sent and judged. -/

namespace Sys2Proof

/-- The three master ports (R163). -/
inductive Port where
  | mp0 | mp1 | mp2
  deriving DecidableEq, Repr

/-- The sign size classes (R112). -/
inductive SignClass where
  | small | medium | large
  deriving DecidableEq, Repr

/-- The baud strap (00_scope.md 1.6, R184). -/
inductive Baud where
  | b115200 | b460800
  deriving DecidableEq, Repr

/-- The marks byte: bits 0, 1 and 2; the others are ignored on receipt (R7, R184). -/
structure Marks where
  cancelled : Bool
  hidden : Bool
  closedDoor : Bool
  deriving DecidableEq, Repr

/-- The role set byte: bits 0, 1 and 2; the others are ignored on receipt (R169, R184). -/
structure RoleSet where
  timetable : Bool
  notice : Bool
  setup : Bool
  deriving DecidableEq, Repr

/-- What every request packet carries besides its body: the port it arrives on, the cabinet of its address byte
(R164), and whether its body length fits the layout of the request (R167, check 2). -/
structure Header where
  port : Port
  cabinet : Nat
  bodyFits : Bool
  deriving DecidableEq, Repr

/-- The fields of PUT_ENTRY and STAGE_PUT after the room (R12). An empty presenter stands for an absent one (R184). -/
structure PutFields where
  tag : Nat
  day : Nat
  start : Nat
  stop : Nat
  title : Text
  presenter : Text
  marks : Marks
  supersede : Nat
  deriving DecidableEq, Repr

/-- The fields of POST_NOTICE (R61). An empty target stands for ALL and an expiry of 0 for an absent one (R184). -/
structure PostFields where
  id : Nat
  level : Nat
  target : List Nat
  text : Text
  expiry : Nat
  tied : Nat
  deriving DecidableEq, Repr

/-- The fields of SET_ROOM after the room (R3). -/
structure RoomFields where
  enable : Nat
  lead : Nat
  closing : Nat
  follow : Nat
  name : Text
  deriving DecidableEq, Repr

/-- The fields of the mapping form of MAP_SIGN after the sign (R101). -/
structure PlaceFields where
  line : Nat
  position : Nat
  room : Nat
  role : Nat
  cls : Nat
  deriving DecidableEq, Repr

/-- The fields of SET_LINE after the line (R126). -/
structure LineFields where
  enabled : Nat
  capacity : Nat
  refill : Nat
  limit : Nat
  refreshLimit : Nat
  interval : Nat
  filter : Nat
  grouping : Nat
  deriving DecidableEq, Repr

/-- The fields of SET_FAULT_MODE (R152). -/
structure ModeFields where
  noAnswer : Nat
  slow : Nat
  mismatch : Nat
  absent : Nat
  trip : Nat
  retryTime : Nat
  deriving DecidableEq, Repr

/-- The commands. Each constructor names its row of spec/opcode_table.json and the rule that governs it. -/
inductive Instr where
  /-- READ_STATUS (R171). -/
  | readStatus (h : Header)
  /-- READ_ROOM (R25). -/
  | readRoom (h : Header) (room first : Nat)
  /-- READ_ENTRY (R26). -/
  | readEntry (h : Header) (room tag : Nat)
  /-- READ_SIGN (R109). -/
  | readSign (h : Header) (sign : Nat)
  /-- READ_LINE (R129, R150). -/
  | readLine (h : Header) (line : Nat)
  /-- READ_NOTICE (R72). -/
  | readNotice (h : Header) (id : Nat)
  /-- HEARTBEAT (R172). -/
  | heartbeat (h : Header)
  /-- READ_ATTENTION (R175). -/
  | readAttention (h : Header)
  /-- SET_ATTENTION_MASK (R176): bit n is the source of code n. -/
  | setAttentionMask (h : Header) (mask : BitVec 8)
  /-- PUT_ENTRY (R12). -/
  | putEntry (h : Header) (room : Nat) (f : PutFields)
  /-- DROP_ENTRY (R16). -/
  | dropEntry (h : Header) (room tag : Nat)
  /-- MARK_ENTRY (R17). -/
  | markEntry (h : Header) (room tag : Nat) (setMarks clearMarks : Marks)
  /-- CLEAR_DAY (R19). -/
  | clearDay (h : Header) (room day : Nat)
  /-- SET_CLOCK (R33, R34). -/
  | setClock (h : Header) (day minute second : Nat)
  /-- OPEN_BATCH (R76). -/
  | openBatch (h : Header) (rooms : List Nat)
  /-- STAGE_PUT (R84). -/
  | stagePut (h : Header) (room : Nat) (f : PutFields)
  /-- STAGE_DROP (R84). -/
  | stageDrop (h : Header) (room tag : Nat)
  /-- STAGE_MARK (R84). -/
  | stageMark (h : Header) (room tag : Nat) (setMarks clearMarks : Marks)
  /-- STAGE_CLEAR_DAY (R84). -/
  | stageClearDay (h : Header) (room day : Nat)
  /-- COMMIT_BATCH (R86). -/
  | commitBatch (h : Header)
  /-- ABANDON_BATCH (R90). -/
  | abandonBatch (h : Header)
  /-- POST_NOTICE (R61). -/
  | postNotice (h : Header) (f : PostFields)
  /-- WITHDRAW_NOTICE (R68). -/
  | withdrawNotice (h : Header) (id : Nat)
  /-- SET_ROOM (R3). -/
  | setRoom (h : Header) (room : Nat) (f : RoomFields)
  /-- MAP_SIGN, the form that maps (R101, R102). -/
  | mapSign (h : Header) (sign : Nat) (f : PlaceFields)
  /-- MAP_SIGN with unmap (R101, R103). -/
  | mapSignUnmap (h : Header) (sign : Nat)
  /-- SET_TEST with a pattern (R107): WHITE 0, BLACK 1, CHECKER 2, IDENT 3. -/
  | setTest (h : Header) (signs : List Nat) (pattern : Nat)
  /-- SET_TEST with OFF (R108). -/
  | setTestOff (h : Header) (signs : List Nat)
  /-- SET_LINE (R126). -/
  | setLine (h : Header) (line : Nat) (f : LineFields)
  /-- SET_QUIET (R146). -/
  | setQuiet (h : Header) (enable qEnter qExit : Nat)
  /-- WAKE_LINES (R148). -/
  | wakeLines (h : Header)
  /-- SET_FAULT_MODE (R152). -/
  | setFaultMode (h : Header) (f : ModeFields)
  /-- CLEAR_FAULT of a sign (R160). -/
  | clearFaultSign (h : Header) (sign : Nat)
  /-- CLEAR_FAULT of a line (R161). -/
  | clearFaultLine (h : Header) (line : Nat)
  /-- SET_PORT (R170). -/
  | setPort (h : Header) (target : Nat) (roles : RoleSet) (code : Nat)
  /-- SET_CABINET (R165). -/
  | setCabinet (h : Header) (address : Nat)
  /-- SET_ARBITER (R82). -/
  | setArbiter (h : Header) (code fairness : Nat)
  /-- SAVE_SETUP (R178). -/
  | saveSetup (h : Header)
  /-- LOAD_SETUP (R179). -/
  | loadSetup (h : Header)
  /-- SOFT_CLEAR (R182). -/
  | softClear (h : Header)
  /-- UNKNOWN_REQUEST (R167): a packet whose request code the hub does not know; the code is echoed. -/
  | unknownRequest (h : Header) (code : Nat)
  /-- BROADCAST_DROPPED (R166): a broadcast of a request that is not accepted as one. -/
  | broadcastDropped (p : Port)
  /-- PACKET_DISCARDED (R164, outcome 1). -/
  | packetDiscarded (p : Port)
  /-- PACKET_IGNORED (R164, outcomes 2 and 5). -/
  | packetIgnored (p : Port)
  /-- BODY_LENGTH_OVER_240 (R163). -/
  | bodyLengthOver240 (p : Port)
  /-- RECEIVING_GAP (R163). -/
  | receivingGap (p : Port)
  /-- SKIPPING_GAP (R163). -/
  | skippingGap (p : Port)
  /-- REPLY_SENT (R163, R165). -/
  | replySent (p : Port)
  /-- SECOND_BOUNDARY (R28). -/
  | secondBoundary
  /-- MINUTE_BOUNDARY (R29). -/
  | minuteBoundary
  /-- DAY_BOUNDARY (R30). -/
  | dayBoundary
  /-- DAY_BOUNDARY_OUT_OF_DAY_15 (R31). -/
  | dayBoundaryOutOfDay15
  /-- IDLE_TIMER_EXPIRY (R78). -/
  | idleTimerExpiry
  /-- HEARTBEAT_LAPSE (R173). -/
  | heartbeatLapse (p : Port)
  /-- JOB_CREATION (R113). -/
  | jobCreation (l : LineId)
  /-- JOB_START (R121). -/
  | jobStart (l : LineId)
  /-- ACK (R136): the answer's line and the position it names. -/
  | ack (l : LineId) (pos : Position)
  /-- ACK_WAIT_EXPIRY (R136). -/
  | ackWaitExpiry (l : LineId)
  /-- POLL_TIMER_EXPIRY (R138). -/
  | pollTimerExpiry (l : LineId)
  /-- POLL_EXCHANGE (R138). -/
  | pollExchange (l : LineId)
  /-- BUSY_ANSWER (R139). -/
  | busyAnswer (l : LineId) (pos : Position)
  /-- DONE_OR_IDLE (R139): the answer's line, position and digest. -/
  | doneOrIdle (l : LineId) (pos : Position) (digest : Digest)
  /-- POLL_ANSWER_WAIT_EXPIRY (R139). -/
  | pollAnswerWaitExpiry (l : LineId)
  /-- REFRESH_TIMER_EXPIRY (R139): the line and the sign whose job's refresh timer expires. -/
  | refreshTimerExpiry (l : LineId) (sign : SignId)
  /-- SETTLE_TIMER_EXPIRY (R134). -/
  | settleTimerExpiry (l : LineId)
  /-- ROLL_CALL_INTERVAL_EXPIRY (R140). -/
  | rollCallIntervalExpiry (l : LineId)
  /-- ROLL_CALL_START (R140). -/
  | rollCallStart (l : LineId)
  /-- CLASS (R141): the answer's line, position and class. -/
  | classAnswer (l : LineId) (pos : Position) (cls : SignClass)
  /-- ROLL_ANSWER_WAIT_EXPIRY (R140). -/
  | rollAnswerWaitExpiry (l : LineId)
  /-- LINE_SLEEP (R147). -/
  | lineSleep (l : LineId)
  /-- TRIP (R143). -/
  | trip (l : LineId)
  /-- RETRY_TIMER_EXPIRY (R155). -/
  | retryTimerExpiry (sign : SignId)
  /-- LINE_RETRY_WAIT_EXPIRY (R159). -/
  | lineRetryWaitExpiry (l : LineId)
  /-- SAVE_COMPLETION (R178). -/
  | saveCompletion
  /-- LOAD_COMPLETION (R179). -/
  | loadCompletion
  /-- POWER_ON (R181), with what the cabinet straps and the baud strap read. -/
  | powerOn (straps : Fin 8) (baud : Baud)
  /-- RESET_PIN_RELEASE (R181). -/
  | resetPinRelease
  /-- RESET_PIN_ASSERT (R178, R181). -/
  | resetPinAssert
  /-- POWER_LOSS (R178). -/
  | powerLoss
  /-- LEAD_BYTE_IN_HUNTING (R163). -/
  | leadByteInHunting (p : Port)
  /-- EXCESS_CURRENT_ONSET (R143). -/
  | excessCurrentOnset (l : LineId)
  /-- EXCESS_CURRENT_END (R143). -/
  | excessCurrentEnd (l : LineId)
  deriving DecidableEq, Repr

end Sys2Proof
end

