-- ==== Sys2Proof/Machine/Setup.lean ====
section
/-! DEFINITION. The working setup (R177), part by part, and the blank defaults of 11_stored_setup_and_start_up.md 11.1. -/

namespace Sys2Proof.Machine

/-! ### Enumerations, in the order the rules list them (R184) -/

/-- The sign roles (R93). -/
inductive Role where
  | plate | board
  deriving DecidableEq, Repr

/-- R151. -/
inductive FaultMode where
  | latch | retry | report | ignore
  deriving DecidableEq, Repr

/-- R151. -/
inductive TripMode where
  | latch | retry
  deriving DecidableEq, Repr

/-- R131. -/
inductive Grouping where
  | separate | paired
  deriving DecidableEq, Repr

/-! ### The parts of the working setup (R177) -/

/-- The setup fields of a room (R1). -/
structure RoomSetup where
  enabled : Bool
  name : Option Text
  lead : Nat
  closing : Nat
  follow : Nat
  deriving DecidableEq, Repr

/-- The mapping of a mapped sign (R93). -/
structure Mapping where
  line : LineId
  position : Position
  room : RoomId
  role : Role
  cls : SignClass
  deriving DecidableEq, Repr

/-- The settings of a line (R126, R131). -/
structure LineSetup where
  enabled : Bool
  capacity : Nat
  refill : Nat
  limit : Nat
  refreshLimit : Nat
  interval : Nat
  filter : Nat
  deriving DecidableEq, Repr

/-- The fault modes and the retry time (R151). -/
structure FaultSetup where
  noAnswer : FaultMode
  slow : FaultMode
  mismatch : FaultMode
  absent : FaultMode
  trip : TripMode
  retryTime : Nat
  deriving DecidableEq, Repr

/-- The role set and the heartbeat interval code of a port (R169, R170). -/
structure PortSetup where
  roles : RoleSet
  interval : Nat
  deriving DecidableEq, Repr

/-- The arbiter's settings (R73). -/
structure ArbiterSetup where
  idleCode : Nat
  fairness : Bool
  deriving DecidableEq, Repr

/-- The quiet controller's settings (R146). -/
structure QuietSetup where
  enable : Bool
  qEnter : Nat
  qExit : Nat
  deriving DecidableEq, Repr

/-- The working setup (R177). -/
structure Setup where
  rooms : Vector RoomSetup 64
  signMap : Vector (Option Mapping) 96
  lines : Vector LineSetup 6
  grouping : Grouping
  fault : FaultSetup
  ports : Vector PortSetup 3
  arbiter : ArbiterSetup
  quiet : QuietSetup
  deriving DecidableEq, Repr

/-- The blank defaults of 11_stored_setup_and_start_up.md 11.1. -/
def Setup.blank : Setup where
  rooms := Vector.replicate 64 { enabled := false, name := none, lead := 10, closing := 5, follow := 0 }
  signMap := Vector.replicate 96 none
  lines := Vector.replicate 6
    { enabled := false, capacity := 40, refill := 8, limit := 2, refreshLimit := 8, interval := 10, filter := 2 }
  grouping := .separate
  fault := { noAnswer := .retry, slow := .retry, mismatch := .retry, absent := .retry, trip := .retry, retryTime := 15 }
  ports := Vector.replicate 3 { roles := { timetable := true, notice := true, setup := true }, interval := 0 }
  arbiter := { idleCode := 2, fairness := false }
  quiet := { enable := false, qEnter := 120, qExit := 60 }

end Sys2Proof.Machine
end

