-- ==== Sys2Proof/Config.lean ====
section
/-! DEFINITION. The fixed quantities of the part (00_scope.md 1.5 and the chapters). One free value
stands here: the layout of the stored image, which R185 calls internal to the part. -/

namespace Sys2Proof.Config

/-- R6: entries of the pool, shared by all rooms. -/
def poolEntries : Nat := 384

/-- R9: cells of the text store. -/
def textCells : Nat := 1536

/-- R9: bytes of one cell. -/
def cellBytes : Nat := 16

/-- R58: records of the notice table. -/
def noticePlaces : Nat := 16

/-- R83: records of the staging list. -/
def stagePlaces : Nat := 32

/-- R83: bytes of staged text. -/
def stageBytes : Nat := 1024

/-- R111: jobs of one line. -/
def jobPlaces : Nat := 8

/-- R25: timetable items of one READ_ROOM reply. -/
def pageItems : Nat := 16

/-- R136: content bytes of one BOARD segment. -/
def segmentBytes : Nat := 120

/-- R153: the count at which RETRY escalates and every count stops. -/
def failureCap : Nat := 4

/-- 00_scope.md 1.5: the broadcast cabinet address. -/
def broadcastCabinet : Nat := 15

/-- R185: the bytes of the stored copy's image, over which its check code is taken. The layout is internal to the part, so it is
a free value: nothing constrains it (log 15). -/
opaque imageBytes : Machine.Setup → List Byte

end Sys2Proof.Config
end

