-- ==== Sys2Proof/Machine/State.lean ====
section
/-! DEFINITION. The state of the hub as plain data, block by block (00_scope.md 1.3), the outcomes a step may end in, and
the state right after power-on with a stored copy that is not valid (R181, log 1). -/

namespace Sys2Proof.Machine

/-- Why a step stops with a fault. The spec describes no halt of the part, so there is no reason (log 25): safe, as no
behaviour is cut off. -/
inductive Fault where
  deriving DecidableEq, Repr

/-- Why a step has no meaning. -/
inductive Refusal where
  /-- Raised only by an arm of exec whose command has no meaning yet; no arm does. Safe. -/
  | notModelled (mnemonic : String)
  deriving DecidableEq, Repr

/-! ### Enumerations, in the order the rules list them (R184) -/

/-- Off, held by the reset pin, or running (R178, R181). -/
inductive RunState where
  | off | held | running
  deriving DecidableEq, Repr

/-- R36. -/
inductive Phase where
  | untimed | opened | between | soon | live | closing | notice
  deriving DecidableEq, Repr

/-- R58. -/
inductive Level where
  | info | direct | urgent
  deriving DecidableEq, Repr

/-- R22. -/
inductive Pressure where
  | normal | low
  deriving DecidableEq, Repr

/-- The party a change came from (R37, R93). -/
inductive Origin where
  | port (p : Port)
  | clock
  | setup
  deriving DecidableEq, Repr

/-- R93. -/
inductive Link where
  | unknown | present | absent
  deriving DecidableEq, Repr

/-- R93. -/
inductive FaultState where
  | none | retryWait | latched
  deriving DecidableEq, Repr

/-- R95: computed, never stored. -/
inductive Delivery where
  | clean | dirty | jobbed
  deriving DecidableEq, Repr

/-- The kinds of sign fault (R153). -/
inductive FaultKind where
  | noAnswer | slow | mismatch | absent
  deriving DecidableEq, Repr

/-- R132. -/
inductive LineMode where
  | off | waking | active | quiet | tripped
  deriving DecidableEq, Repr

/-- R146. -/
inductive QuietState where
  | disabled | awake | settling | quiet
  deriving DecidableEq, Repr

/-- R181. -/
inductive StartCause where
  | power | pin | soft
  deriving DecidableEq, Repr

/-- R177, with the port a save or load belongs to. -/
inductive StoreState where
  | idle | blank
  | saving (p : Port)
  | loading (p : Port)
  deriving DecidableEq, Repr

/-- R163. -/
inductive Reception where
  | hunting | receiving | skipping | answering
  deriving DecidableEq, Repr

/-- R172. -/
inductive Monitor where
  | unknown | alive | lapsed
  deriving DecidableEq, Repr

/-- The attention sources, in code order (R174). -/
inductive Source where
  | fault | grant | withdraw | pace | peer | line | clock | store
  deriving DecidableEq, Repr

/-- The operation of a STORE outcome (R174, R184). -/
inductive StoreOp where
  | save | load
  deriving DecidableEq, Repr

/-- The status codes (R184). -/
inductive Status where
  | ok | queued | commitFailed
  | unknownRequest | badLength | denied | busy | badValue
  | badTime | noRoom | noEntry | noNotice | held | past | overlap | untimed
  | poolFull | textFull | tableFull | stageFull
  | notHolder | outOfBatch | inUse | badStore
  deriving DecidableEq, Repr

/-! ### The stored copy (R177) -/

/-- The stored copy (R177): its image and the check code kept after it (R185). The code is none from the moment a save begins
writing until it has been written (R178), and in a copy that was never written (logs 1, 15). -/
structure StoredCopy where
  image : Setup
  check : Option (BitVec 16)
  deriving DecidableEq, Repr

/-! ### Clock, timetable, boards, notices, arbiter -/

/-- The clock (R27): while UNSET, day, minute and second are 0. -/
structure Clock where
  isSet : Bool
  day : Nat
  minute : Nat
  second : Nat
  deriving DecidableEq, Repr

/-- An entry in use (R7); its room is the one whose timetable holds it. -/
structure Entry where
  tag : Nat
  day : Nat
  start : Nat
  stop : Nat
  title : Text
  presenter : Option Text
  marks : Marks
  origin : Port
  deriving DecidableEq, Repr

/-- The time field of a board (R47, R48, R54). -/
inductive TimeField where
  | none
  | countdown (n : Nat)
  | clock (hh mm : Nat)
  deriving DecidableEq, Repr

/-- An item of the follow list (R50). -/
structure FollowItem where
  hh : Nat
  mm : Nat
  cancelled : Bool
  title : Text
  deriving DecidableEq, Repr

/-- The board record (R54); the name is absent only in the disabled form (R40). -/
structure BoardRecord where
  name : Option Text
  phase : Phase
  headline : Option Text
  subline : Option Text
  time : TimeField
  cancelled : Bool
  closedDoor : Bool
  follow : List FollowItem
  notice : Option (Level × Text)
  deriving DecidableEq, Repr

/-- A body digest and a full digest (R55). -/
structure Digests where
  body : Digest
  full : Digest
  deriving DecidableEq, Repr

/-- The evaluation record of a room (R36). -/
structure EvalRecord where
  phase : Phase
  current : Option Nat
  next : Option Nat
  gap : Option Nat
  shown : Option (Nat × Level)
  board : BoardRecord
  plateDigests : Option Digests
  boardDigests : Option Digests
  deriving DecidableEq, Repr

/-- The disabled form (R40), which is also every field cleared (R36). -/
def EvalRecord.disabled : EvalRecord where
  phase := .opened
  current := none
  next := none
  gap := none
  shown := none
  board := { name := none, phase := .opened, headline := none, subline := none, time := .none,
             cancelled := false, closedDoor := false, follow := [], notice := none }
  plateDigests := none
  boardDigests := none

/-- The target of a notice (R58). -/
inductive Target where
  | all
  | rooms (l : List RoomId)
  deriving DecidableEq, Repr

/-- A notice record (R58). -/
structure Notice where
  id : Nat
  level : Level
  target : Target
  text : Text
  expiry : Option Nat
  tied : Bool
  origin : Port
  broadcast : Bool
  deriving DecidableEq, Repr

/-- A staged record (R83). -/
inductive Staged where
  | put (room : RoomId) (f : PutFields)
  | drop (room : RoomId) (tag : Nat)
  | mark (room : RoomId) (tag : Nat) (setMarks clearMarks : Marks)
  | clearDay (room : RoomId) (day : Nat)
  deriving DecidableEq, Repr

/-- A record of the wait list (R73). -/
structure Waiter where
  port : Port
  rooms : List RoomId
  deriving DecidableEq, Repr

/-- The batch arbiter's volatile state (R73). The idle timer holds the idle time in ms it was started with (log 12). -/
structure Arbiter where
  holder : Option Port
  rooms : List RoomId
  waiters : List Waiter
  staging : List Staged
  idle : Option Nat
  withdrawals : Nat
  deriving DecidableEq, Repr

/-! ### Signs, jobs, lines -/

/-- A test card (R106); IDENT keeps the cabinet address it was composed with. -/
inductive TestCard where
  | white | black | checker
  | ident (cabinet : Nat)
  deriving DecidableEq, Repr

/-- The retry timer of a sign (R151). -/
inductive Retry where
  | stopped
  | running (left : Nat)
  | presence
  deriving DecidableEq, Repr

/-- The volatile part of a sign record (R93) with the fault handler's per-sign items (R151). -/
structure SignRecord where
  link : Link
  reported : Option SignClass
  fault : FaultState
  failures : Nat
  test : Option TestCard
  wanted : Option Digests
  delivered : Option Digests
  origin : Origin
  lastFault : Option FaultKind
  retry : Retry
  pendingAbsent : Option Origin
  deriving DecidableEq, Repr

/-- R94, R151: a sign record after power-on, before the forced evaluation. -/
def SignRecord.fresh : SignRecord where
  link := .unknown
  reported := none
  fault := .none
  failures := 0
  test := none
  wanted := none
  delivered := none
  origin := .setup
  lastFault := none
  retry := .stopped
  pendingAbsent := none

/-- R112 (PARTIAL is partialJob). -/
inductive JobKind where
  | fullJob | partialJob | testJob
  deriving DecidableEq, Repr

/-- R111. -/
inductive JobState where
  | ready | sending | refreshing
  deriving DecidableEq, Repr

/-- What a started job sends (R121): the serialized board form, the time field, or the card. -/
inductive Content where
  | board (bytes : List Byte)
  | time (f : TimeField)
  | card (c : TestCard)
  deriving DecidableEq, Repr

/-- A job record (R111), with the refresh timer of a REFRESHING job (R131) as the limit in seconds it was started with. -/
structure Job where
  sign : SignId
  kind : JobKind
  cost : Nat
  urgent : Bool
  target : Option Digests
  time : TimeField
  content : Option Content
  state : JobState
  resends : Nat
  origin : Origin
  refresh : Option Nat
  deriving DecidableEq, Repr

/-- The exchange on a busy transmitter (R131). A job exchange names the segment it sends; a poll is live until its job has
retired as SLOW (R139). -/
inductive Exchange where
  | job (sign : SignId) (segment : Nat)
  | poll (sign : SignId) (live : Bool)
  | roll (pos : Position)
  deriving DecidableEq, Repr

/-- A running roll call (R140): the next position to call, whether its ROLL was resent, and the positions found so far
with no sign mapped (R142). -/
structure RollCall where
  next : Position
  resent : Bool
  found : List Position
  deriving DecidableEq, Repr

/-- A line's hold (R151). -/
inductive Hold where
  | none
  | waiting (left : Nat)
  | latched
  deriving DecidableEq, Repr

/-- The volatile state of a line: the scheduler's (R110, R111, R118), the line controller's (R131) and the fault
handler's hold (R151). The interval timer holds the minutes it was started with. -/
structure LineRecord where
  mode : LineMode
  transmitter : Option Exchange
  settle : Bool
  pollTimer : Bool
  round : List SignId
  roll : Option RollCall
  interval : Option Nat
  extras : List Position
  trips : Nat
  excess : Bool
  hold : Hold
  dirty : List SignId
  jobs : List Job
  budget : Int
  deriving DecidableEq, Repr

/-- R131, R118, R181: a line after power-on. An enabled line is WAKING with its settle timer running, any other OFF, and
the budget equals the capacity. -/
def LineRecord.fresh (c : LineSetup) : LineRecord where
  mode := if c.enabled then .waking else .off
  transmitter := none
  settle := c.enabled
  pollTimer := false
  round := []
  roll := none
  interval := none
  extras := []
  trips := 0
  excess := false
  hold := .none
  dirty := []
  jobs := []
  budget := c.capacity

/-! ### Replies (R168) -/

/-- The result fields of READ_STATUS (R171). -/
structure StatusReport where
  clock : Clock
  pressure : Pressure
  freeEntries : Nat
  freeCells : Nat
  startCause : StartCause
  quiet : QuietState
  holder : Option Port
  waiters : List Port
  withdrawals : Nat
  store : StoreState
  discards : Vector Nat 3
  ports : Vector PortSetup 3
  monitors : Vector Monitor 3
  address : Nat
  programmed : Bool
  deriving DecidableEq, Repr

/-- The result fields of READ_ROOM (R25). -/
structure RoomReport where
  setup : RoomSetup
  held : Bool
  count : Nat
  phase : Phase
  items : List Entry
  deriving DecidableEq, Repr

/-- The result fields of READ_SIGN (R109). -/
structure SignReport where
  number : SignId
  mapping : Option Mapping
  record : SignRecord
  delivery : Delivery
  place : Option Nat
  job : Option (JobKind × JobState × Bool)
  deriving DecidableEq, Repr

/-- A job as READ_LINE lists it (R129). -/
structure JobReport where
  sign : SignId
  kind : JobKind
  cost : Nat
  effective : Nat
  urgent : Bool
  state : JobState
  deriving DecidableEq, Repr

/-- The result fields of READ_LINE (R129, R150). -/
structure LineReport where
  setup : LineSetup
  grouping : Grouping
  budget : Int
  dirty : List SignId
  jobs : List JobReport
  mode : LineMode
  trips : Nat
  roll : Option Position
  extras : List Position
  deriving DecidableEq, Repr

/-- The further fields of READ_ATTENTION by source (R175). -/
inductive AttentionFields where
  | none
  | fault (latch : Option (SignId × FaultKind)) (later : Nat)
  | pace (level : Pressure)
  | peer (monitors : Vector Monitor 3)
  | clock (isSet : Bool)
  | store (outcome : Option (StoreOp × Status))
  deriving DecidableEq, Repr

/-- The result fields of a reply, by request. -/
inductive Result where
  | empty
  | status (r : StatusReport)
  | room (r : RoomReport)
  | entry (room : RoomId) (e : Entry)
  | sign (r : SignReport)
  | line (r : LineReport)
  | notice (n : Notice) (place : Nat)
  | noticeList (items : List (Nat × Level))
  /-- READ_ATTENTION: the code returned (15 for none), its fields, and the pending flags after the read. -/
  | attention (code : Nat) (fields : AttentionFields) (pending : BitVec 8)
  | mask (mask pending : BitVec 8)
  | put (replaced : Bool) (superseded : Nat)
  | marks (m : Marks)
  /-- A count of two bytes: removed by CLEAR_DAY, purged by SET_CLOCK. -/
  | count (n : Nat)
  /-- A count of one byte: records left by WITHDRAW_NOTICE, lines woken by WAKE_LINES. -/
  | smallCount (n : Nat)
  | queuedAt (place : Nat)
  | staged (index records bytes : Nat)
  | committed (applied removed : Nat)
  | commitFailure (index : Nat) (inner : Status)
  | posted (replaced : Bool) (records : Nat)
  | tested (applied unchanged latched unmapped : Nat)
  | budget (b : Int)
  | modes (f : FaultSetup)
  | portSet (roles : RoleSet) (interval : Nat)
  deriving DecidableEq, Repr

/-- A reply (R168): the cabinet address it is sent under, the request code it echoes, status, flags and result. -/
structure Reply where
  cabinet : Nat
  code : Nat
  status : Status
  low : Bool
  clamped : Bool
  result : Result
  deriving DecidableEq, Repr

/-! ### Ports and the whole state -/

/-- A master port (R163, R164, R165, R172) with its attention unit (R158, R174). The heartbeat timer holds the interval
in ms it was started with (log 12). -/
structure PortRecord where
  reception : Reception
  buffer : List Byte
  reply : Option Reply
  newAddress : Option Nat
  discards : Nat
  monitor : Monitor
  heartbeat : Option Nat
  raised : BitVec 8
  mask : BitVec 8
  latch : Option (SignId × FaultKind)
  later : Nat
  outcome : Option (StoreOp × Status)
  deriving DecidableEq, Repr

/-- A port at the end of the start-up sequence: HUNTING, every mask bit set, CLOCK alone pending (R174, R181). -/
def PortRecord.fresh : PortRecord where
  reception := .hunting
  buffer := []
  reply := none
  newAddress := none
  discards := 0
  monitor := .unknown
  heartbeat := none
  raised := 0x40#8
  mask := 0xFF#8
  latch := none
  later := 0
  outcome := none

/-- The whole hub, with the queue of commands that wait. -/
structure State where
  pending : List Instr
  run : RunState
  /-- Whether the reset pin is asserted (00_scope.md 1.6, R181): an input, which no supply change moves. -/
  resetPin : Bool
  baud : Baud
  setup : Setup
  stored : StoredCopy
  store : StoreState
  startCause : StartCause
  address : Nat
  programmed : Bool
  clock : Clock
  timetables : Vector (List Entry) 64
  evals : Vector EvalRecord 64
  pressure : Pressure
  notices : List Notice
  arb : Arbiter
  signs : Vector SignRecord 96
  lines : Vector LineRecord 6
  quiet : QuietState
  ports : Vector PortRecord 3
  deriving DecidableEq, Repr

/-- The clock while UNSET (R27). -/
def Clock.unset : Clock := { isSet := false, day := 0, minute := 0, second := 0 }

/-- The arbiter after power-on (R73). -/
def Arbiter.fresh : Arbiter :=
  { holder := none, rooms := [], waiters := [], staging := [], idle := none, withdrawals := 0 }

/-- The start-up sequence of R181 on a given working setup, without the forced evaluation of its step 4: every volatile
item at its value after reset, enabled lines WAKING, the quiet controller by its Enable, CLOCK pending on every port. -/
def State.cold (stored : StoredCopy) (setup : Setup) (store : StoreState) (cause : StartCause) (baud : Baud)
    (address : Nat) (programmed : Bool) (pending : List Instr) : State where
  pending := pending
  run := .running
  resetPin := false
  baud := baud
  setup := setup
  stored := stored
  store := store
  startCause := cause
  address := address
  programmed := programmed
  clock := .unset
  timetables := Vector.replicate 64 []
  evals := Vector.replicate 64 .disabled
  pressure := .normal
  notices := []
  arb := .fresh
  signs := Vector.replicate 96 .fresh
  lines := setup.lines.map LineRecord.fresh
  quiet := if setup.quiet.enable then .awake else .disabled
  ports := Vector.replicate 3 .fresh

/-- The machine right after power-on: straps at 0, a stored copy that is not valid, so the blank defaults and the store
state BLANK (R181). DESIGN CHOICE for straps, baud and stored copy: log 1. In the blank defaults the forced evaluation of
R181 step 4 leaves every room in the disabled form, as State.cold has it. -/
def State.reset : State :=
  State.cold { image := .blank, check := none } .blank .blank .power .b115200 0 false []

end Sys2Proof.Machine
end

