-- ==== Sys2Proof/Machine/Codes.lean ====
section
/-! DEFINITION. Check codes, digests, and every byte layout: the serialized board, sign line frames and replies
(12_packet_and_frame_formats.md, R184 to R187). -/

namespace Sys2Proof.Machine

/-! ### Cyclic checks (R185) -/

/-- R185: one left shift, with the polynomial combined in when a 1 leaves the top bit. -/
def crcShift {w : Nat} (poly reg : BitVec w) : BitVec w :=
  if reg.msb then (reg <<< 1) ^^^ poly else reg <<< 1

/-- R185: one byte combined into the top eight bits, then eight shifts. -/
def crcByte {w : Nat} (poly reg : BitVec w) (b : Byte) : BitVec w :=
  (crcShift poly)^[8] (reg ^^^ (b.zeroExtend w <<< (w - 8)))

/-- R185: CRC-8 of master port packets and sign line frames. -/
def crc8 (bytes : List Byte) : BitVec 8 := bytes.foldl (crcByte 0x2F#8) 0x00#8

/-- R185: CRC-16 of board digests and of the stored copy. -/
def crc16 (bytes : List Byte) : BitVec 16 := bytes.foldl (crcByte 0x1021#16) 0xFFFF#16

/-- R185: the check code of a stored image: the CRC-16 over the whole image. -/
def Setup.checkCode (x : Setup) : BitVec 16 := crc16 (Config.imageBytes x)

/-- R177: the stored copy is valid when its check code matches its image. -/
def StoredCopy.valid (x : StoredCopy) : Bool := x.check == some x.image.checkCode

/-- R185: a board digest keeps out of 0x0000 to 0x03FF, the values of test cards. -/
def boardDigest (bytes : List Byte) : Digest :=
  let d := crc16 bytes
  if d < 0x0400#16 then d + 0x0400#16 else d

/-- R185: the digest of a test card on a sign, used as body and full digest. -/
def cardDigest (c : TestCard) (i : SignId) : Digest :=
  match c with
  | .white => 0x0000#16
  | .black => 0x0001#16
  | .checker => 0x0002#16
  | .ident cabinet => BitVec.ofNat 16 (0x0100 + cabinet * 96 + i.val)

/-- R106: a card has no time field, so its body and full digests are equal. -/
def cardDigests (c : TestCard) (i : SignId) : Digests := { body := cardDigest c i, full := cardDigest c i }

/-! ### Field encodings (R184) -/

/-- One byte. -/
def byte (n : Nat) : Byte := BitVec.ofNat 8 n

/-- Two bytes, most significant first. -/
def word (n : Nat) : List Byte := [byte (n / 256), byte n]

/-- Budget: two bytes, two's complement. -/
def signedWord (b : Int) : List Byte := word (BitVec.ofInt 16 b).toNat

/-- A yes-or-no byte. -/
def yesNo (b : Bool) : Byte := if b then 1 else 0

/-- A text: its length, then its bytes; a length of 0 for an absent one. -/
def textBytes (t : Text) : List Byte := byte t.length :: t

/-- An optional text. -/
def optText (t : Option Text) : List Byte := textBytes (t.getD [])

/-- Any other optional value: a presence byte, then the value when present. -/
def optional {α : Type} (enc : α → List Byte) (v : Option α) : List Byte :=
  match v with
  | none => [0]
  | some a => 1 :: enc a

/-- A digest: two bytes. -/
def digestBytes (d : Digest) : List Byte := word d.toNat

/-- A digest pair, body then full. -/
def digestsBytes (d : Digests) : List Byte := digestBytes d.body ++ digestBytes d.full

/-- The marks byte. -/
def marksByte (m : Marks) : Byte := byte (m.cancelled.toNat + 2 * m.hidden.toNat + 4 * m.closedDoor.toNat)

/-- The role set byte. -/
def rolesByte (r : RoleSet) : Byte := byte (r.timetable.toNat + 2 * r.notice.toNat + 4 * r.setup.toNat)

/-- A list: its count, then the items. -/
def listBytes {α : Type} (enc : α → List Byte) (l : List α) : List Byte := byte l.length :: (l.map enc).flatten

def Port.code : Port → Nat
  | .mp0 => 0 | .mp1 => 1 | .mp2 => 2

def Phase.code : Phase → Nat
  | .untimed => 0 | .opened => 1 | .between => 2 | .soon => 3 | .live => 4 | .closing => 5 | .notice => 6

def Level.code : Level → Nat
  | .info => 0 | .direct => 1 | .urgent => 2

def Pressure.code : Pressure → Nat
  | .normal => 0 | .low => 1

def Origin.code : Origin → Nat
  | .port p => Port.code p | .clock => 3 | .setup => 4

def Role.code : Role → Nat
  | .plate => 0 | .board => 1

def SignClass.code : SignClass → Nat
  | .small => 0 | .medium => 1 | .large => 2

def Link.code : Link → Nat
  | .unknown => 0 | .present => 1 | .absent => 2

def FaultState.code : FaultState → Nat
  | .none => 0 | .retryWait => 1 | .latched => 2

def Delivery.code : Delivery → Nat
  | .clean => 0 | .dirty => 1 | .jobbed => 2

def FaultKind.code : FaultKind → Nat
  | .noAnswer => 0 | .slow => 1 | .mismatch => 2 | .absent => 3

def FaultMode.code : FaultMode → Nat
  | .latch => 0 | .retry => 1 | .report => 2 | .ignore => 3

def TripMode.code : TripMode → Nat
  | .latch => 0 | .retry => 1

def Grouping.code : Grouping → Nat
  | .separate => 0 | .paired => 1

def LineMode.code : LineMode → Nat
  | .off => 0 | .waking => 1 | .active => 2 | .quiet => 3 | .tripped => 4

def QuietState.code : QuietState → Nat
  | .disabled => 0 | .awake => 1 | .settling => 2 | .quiet => 3

def StartCause.code : StartCause → Nat
  | .power => 0 | .pin => 1 | .soft => 2

def StoreState.code : StoreState → Nat
  | .idle => 0 | .blank => 1 | .saving _ => 2 | .loading _ => 3

def Monitor.code : Monitor → Nat
  | .unknown => 0 | .alive => 1 | .lapsed => 2

/-- R174: the code of a source, which is also its priority and its bit. -/
def Source.code : Source → Nat
  | .fault => 0 | .grant => 1 | .withdraw => 2 | .pace => 3 | .peer => 4 | .line => 5 | .clock => 6 | .store => 7

def StoreOp.code : StoreOp → Nat
  | .save => 0 | .load => 1

def JobKind.code : JobKind → Nat
  | .fullJob => 0 | .partialJob => 1 | .testJob => 2

def JobState.code : JobState → Nat
  | .ready => 0 | .sending => 1 | .refreshing => 2

/-- The pattern of a sign as READ_SIGN shows it: none 0, then the four cards (R93). -/
def patternCode : Option TestCard → Nat
  | none => 0 | some .white => 1 | some .black => 2 | some .checker => 3 | some (.ident _) => 4

/-- The status codes (R184). -/
def Status.code : Status → Nat
  | .ok => 0x00 | .queued => 0x01 | .commitFailed => 0x02
  | .unknownRequest => 0x20 | .badLength => 0x21 | .denied => 0x22 | .busy => 0x23 | .badValue => 0x24
  | .badTime => 0x28 | .noRoom => 0x29 | .noEntry => 0x2A | .noNotice => 0x2B
  | .held => 0x2C | .past => 0x2D | .overlap => 0x2E | .untimed => 0x2F
  | .poolFull => 0x31 | .textFull => 0x32 | .tableFull => 0x33 | .stageFull => 0x34
  | .notHolder => 0x38 | .outOfBatch => 0x39 | .inUse => 0x3A | .badStore => 0x3B

/-! ### The serialized board record (R186) -/

/-- R186 item 8: kind and two bytes. -/
def timeBytes : TimeField → List Byte
  | .none => [0, 0, 0]
  | .countdown n => [1, 0, byte n]
  | .clock hh mm => [2, byte hh, byte mm]

/-- R186 item 7, one item. -/
def followBytes (i : FollowItem) : List Byte :=
  [byte i.hh, byte i.mm, yesNo i.cancelled] ++ textBytes i.title

/-- R186 item 6. -/
def noticeBytes (n : Option (Level × Text)) : List Byte :=
  match n with
  | none => [0]
  | some (lvl, t) => textBytes t ++ [byte (Level.code lvl)]

/-- R186 items 1 to 7: every byte but the time field; the PLATE form omits item 7. -/
def bodyBytes (role : Role) (b : BoardRecord) : List Byte :=
  optText b.name ++ [byte (Phase.code b.phase)]
    ++ [marksByte { cancelled := b.cancelled, hidden := false, closedDoor := b.closedDoor }]
    ++ optText b.headline ++ optText b.subline ++ noticeBytes b.notice
    ++ (match role with
        | .plate => []
        | .board => listBytes followBytes b.follow)

/-- R186: a form of the board record, the time field last. -/
def boardBytes (role : Role) (b : BoardRecord) : List Byte := bodyBytes role b ++ timeBytes b.time

/-- R55, R185: the body and full digests of a form. -/
def formDigests (role : Role) (b : BoardRecord) : Digests :=
  { body := boardDigest (bodyBytes role b), full := boardDigest (boardBytes role b) }

/-! ### Sign line frames (R187) -/

/-- A frame from the hub (R135). -/
inductive Frame where
  | board (pos : Position) (index : Nat) (first last : Bool) (content : List Byte)
  | time (pos : Position) (f : TimeField)
  | test (pos : Position) (card : TestCard) (sign : SignId)
  | poll (pos : Position)
  | roll (pos : Position)
  deriving DecidableEq, Repr

/-- R187: lead byte, position, kind, payload length, payload, check code. -/
def frameBytes (pos : Position) (kind : Nat) (payload : List Byte) : List Byte :=
  let body := [0x5A#8, byte pos.val, byte kind] ++ textBytes payload
  body ++ [crc8 body]

/-- R187: the payload of a TEST frame, one byte for each of its fields (log 40). -/
def testPayload (c : TestCard) (i : SignId) : List Byte :=
  match c with
  | .white => [0]
  | .black => [1]
  | .checker => [2]
  | .ident cabinet => [3, byte cabinet, byte i.val]

/-- R187: the bytes of a frame from the hub. -/
def Frame.encode : Frame → List Byte
  | .board pos index first last content =>
    frameBytes pos 0x01 (byte (index + 64 * first.toNat + 128 * last.toNat) :: content)
  | .time pos f => frameBytes pos 0x02 (timeBytes f)
  | .test pos card i => frameBytes pos 0x03 (testPayload card i)
  | .poll pos => frameBytes pos 0x04 []
  | .roll pos => frameBytes pos 0x05 []

/-- R136: how many frames a job sends: the segments of a board, or one. -/
def frameCount (c : Option Content) : Nat :=
  match c with
  | some (.board bytes) => max 1 ((bytes.length + 119) / Config.segmentBytes)
  | _ => 1

/-- R136: a segment of a board, 120 bytes but for the last. -/
def segment (bytes : List Byte) (k : Nat) : List Byte :=
  (bytes.drop (k * Config.segmentBytes)).take Config.segmentBytes

/-- R136: the k-th frame of a job's content, to the sign at a position. -/
def contentFrame (pos : Position) (i : SignId) (c : Option Content) (k : Nat) : Option Frame :=
  match c with
  | none => none
  | some (.board bytes) => some (.board pos k (k == 0) (k + 1 == frameCount c) (segment bytes k))
  | some (.time f) => some (.time pos f)
  | some (.card card) => some (.test pos card i)

/-! ### Reply packets (R184) -/

/-- R184 with R25: one item of READ_ROOM. -/
def itemBytes (e : Entry) : List Byte :=
  word e.tag ++ [byte e.day] ++ word e.start ++ word e.stop ++ [marksByte e.marks]

def roomList (l : List RoomId) : List Byte := listBytes (fun r => [byte r.val]) l
def signList (l : List SignId) : List Byte := listBytes (fun i => [byte i.val]) l

/-- R171. The set flag of the clock is sent as a yes-or-no byte, 1 for SET (log 36); the cabinet
address and the withdrawal counter take one byte each (log 40). -/
def StatusReport.bytes (r : StatusReport) : List Byte :=
  [yesNo r.clock.isSet, byte r.clock.day] ++ word r.clock.minute ++ [byte r.clock.second]
    ++ [byte (Pressure.code r.pressure)] ++ word r.freeEntries ++ word r.freeCells
    ++ [byte (StartCause.code r.startCause), byte (QuietState.code r.quiet)]
    ++ optional (fun p => [byte (Port.code p)]) r.holder
    ++ listBytes (fun p => [byte (Port.code p)]) r.waiters
    ++ [byte r.withdrawals, byte (StoreState.code r.store)]
    ++ (r.discards.toList.map word).flatten
    ++ ((r.ports.toList.zip r.monitors.toList).map
          (fun x => [rolesByte x.1.roles, byte x.1.interval, byte (Monitor.code x.2)])).flatten
    ++ [byte r.address, yesNo r.programmed]

/-- R25. L and C take one byte each (log 40). -/
def RoomReport.bytes (r : RoomReport) : List Byte :=
  [yesNo r.setup.enabled] ++ optText r.setup.name
    ++ [byte r.setup.lead, byte r.setup.closing, byte r.setup.follow, yesNo r.held]
    ++ word r.count ++ [byte (Phase.code r.phase)] ++ listBytes itemBytes r.items

/-- R26. -/
def entryBytes (room : RoomId) (e : Entry) : List Byte :=
  word e.tag ++ [byte room.val, byte e.day] ++ word e.start ++ word e.stop
    ++ textBytes e.title ++ optText e.presenter ++ [marksByte e.marks, byte (Port.code e.origin)]

/-- R109 with R93: the mapping fields, none while unmapped. -/
def mappingBytes (m : Option Mapping) : List Byte :=
  [yesNo m.isSome] ++ optional (fun m : Mapping => [byte m.line.val]) m
    ++ optional (fun m : Mapping => [byte m.position.val]) m
    ++ optional (fun m : Mapping => [byte m.room.val]) m
    ++ optional (fun m : Mapping => [byte (Role.code m.role)]) m
    ++ optional (fun m : Mapping => [byte (SignClass.code m.cls)]) m

/-- R109. A Reported class and a Last fault kind of none are absent optional values, while none is the first value of the Test
pattern (log 41); whether the sign stands in the dirty queue is the presence byte of its place there (log 42). -/
def SignReport.bytes (r : SignReport) : List Byte :=
  [byte r.number.val] ++ mappingBytes r.mapping ++ [byte (Link.code r.record.link)]
    ++ optional (fun c => [byte (SignClass.code c)]) r.record.reported
    ++ [byte (Delivery.code r.delivery), byte (FaultState.code r.record.fault), byte r.record.failures,
        byte (patternCode r.record.test)]
    ++ optional digestsBytes r.record.wanted ++ optional digestsBytes r.record.delivered
    ++ [byte (Origin.code r.record.origin)]
    ++ optional (fun k => [byte (FaultKind.code k)]) r.record.lastFault
    ++ optional (fun n => [byte n]) r.place
    ++ optional (fun j : JobKind × JobState × Bool =>
        [byte (JobKind.code j.1), byte (JobState.code j.2.1), yesNo j.2.2]) r.job

/-- R129. The cost and the effective cost take one byte each (log 40). -/
def JobReport.bytes (j : JobReport) : List Byte :=
  [byte j.sign.val, byte (JobKind.code j.kind), byte j.cost, byte j.effective, yesNo j.urgent,
   byte (JobState.code j.state)]

/-- R129, then R150. Each setting of the line takes one byte (log 40), and whether a roll call is running is the presence byte of its
position (log 23). -/
def LineReport.bytes (r : LineReport) : List Byte :=
  [byte r.setup.capacity, byte r.setup.refill, byte r.setup.limit] ++ signedWord r.budget
    ++ signList r.dirty ++ listBytes JobReport.bytes r.jobs
    ++ [byte (LineMode.code r.mode), yesNo r.setup.enabled, byte r.setup.refreshLimit, byte r.setup.interval,
        byte r.setup.filter, byte (Grouping.code r.grouping), byte r.trips]
    ++ optional (fun p : Position => [byte p.val]) r.roll
    ++ listBytes (fun p : Position => [byte p.val]) r.extras

/-- R72: the fields of a record, then its place. -/
def noticeRecordBytes (n : Notice) (place : Nat) : List Byte :=
  [byte n.id, byte (Level.code n.level)]
    ++ (match n.target with
        | .all => [0]
        | .rooms l => roomList l)
    ++ textBytes n.text ++ word (n.expiry.getD 0)
    ++ [yesNo n.tied, byte (Port.code n.origin), yesNo n.broadcast, byte place]

/-- R175. The set flag is a yes-or-no byte (log 36). The latch and the STORE outcome carry no presence byte, as their source is
pending only while they hold something (log 37). -/
def AttentionFields.bytes : AttentionFields → List Byte
  | .none => []
  | .fault latch later =>
    (match latch with
     | some (i, k) => [byte i.val, byte (FaultKind.code k)]
     | Option.none => []) ++ [byte later]
  | .pace level => [byte (Pressure.code level)]
  | .peer monitors => monitors.toList.map (fun m => byte (Monitor.code m))
  | .clock isSet => [yesNo isSet]
  | .store outcome =>
    (match outcome with
     | some (op, st) => [byte (StoreOp.code op), byte (Status.code st)]
     | Option.none => [])

/-- The result fields of a reply, in the order in which the request's rule names them (R184). -/
def Result.bytes : Result → List Byte
  | .empty => []
  | .status r => StatusReport.bytes r
  | .room r => RoomReport.bytes r
  | .entry r e => entryBytes r e
  | .sign r => SignReport.bytes r
  | .line r => LineReport.bytes r
  | .notice n place => noticeRecordBytes n place
  | .noticeList items => listBytes (fun x : Nat × Level => [byte x.1, byte (Level.code x.2)]) items
  | .attention code fields pending => [byte code] ++ AttentionFields.bytes fields ++ [pending]
  | .mask m flags => [m, flags]
  | .put replaced superseded => yesNo replaced :: word superseded
  | .marks m => [marksByte m]
  | .count n => word n
  | .smallCount n => [byte n]
  | .queuedAt place => [byte place]
  | .staged index records bytes => [byte index, byte records] ++ word bytes
  | .committed applied removed => byte applied :: word removed
  | .commitFailure index inner => [byte index, byte (Status.code inner)]
  | .posted replaced records => [yesNo replaced, byte records]
  | .tested applied unchanged latched unmapped => [byte applied, byte unchanged, byte latched, byte unmapped]
  | .budget b => signedWord b
  | .modes f =>
    [byte (FaultMode.code f.noAnswer), byte (FaultMode.code f.slow), byte (FaultMode.code f.mismatch),
     byte (FaultMode.code f.absent), byte (TripMode.code f.trip)] ++ word f.retryTime
  | .portSet roles interval => [rolesByte roles, byte interval]

/-- R184: the body of a reply: status byte, flags byte (bit 0 pressure, bit 1 CLAMPED), result fields. -/
def Reply.body (r : Reply) : List Byte :=
  [byte (Status.code r.status), byte (r.low.toNat + 2 * r.clamped.toNat)] ++ Result.bytes r.result

/-- R184: the whole reply packet, its address byte marked as a reply and its code with bit 7 set. -/
def Reply.packet (r : Reply) : List Byte :=
  let head := [0xA5#8, byte (0x80 + r.cabinet), byte r.code ||| 0x80#8] ++ textBytes (Reply.body r)
  head ++ [crc8 head]

end Sys2Proof.Machine
end

