-- ==== Sys2Proof/Decode.lean ====
section
/-! DEFINITION. Decoding. No row of spec/opcode_table.json gives bits, so decodeTableWord answers none. A command comes to
the hub as a packet on a master line (R184) or as an answer on a sign line (R187): decodePacket and decodeAnswer give the
command that such bytes stand for, rejecting by name what fails its check code (R164) or its layout (R167). -/

namespace Sys2Proof

/-- The command a table word spells: no row of the table has bits. -/
def decodeTableWord (_nbits _w : Nat) : Option Instr := none

namespace Decode

/-! ### Fields of a body (R184) -/

/-- Reads a field from the front of a body. -/
abbrev Reader := StateT (List Byte) Option

/-- A field of one byte. -/
def readByte : Reader Nat := fun l =>
  match l with
  | [] => none
  | b :: l => some (b.toNat, l)

/-- A field of two bytes, most significant first. -/
def readWord : Reader Nat := do
  let hi ← readByte
  let lo ← readByte
  return hi * 256 + lo

/-- So many bytes. -/
def readBytes (n : Nat) : Reader (List Byte) := fun l => if l.length < n then none else some (l.take n, l.drop n)

/-- A text: its length, then its bytes. -/
def readText : Reader Text := do
  let n ← readByte
  readBytes n

/-- A list of one-byte items: its count, then the items. -/
def readList : Reader (List Nat) := do
  let l ← readText
  return l.map BitVec.toNat

/-- The marks byte; bits 3 to 7 are ignored. -/
def readMarks : Reader Marks := do
  let n ← readByte
  return { cancelled := n.testBit 0, hidden := n.testBit 1, closedDoor := n.testBit 2 }

/-- The role set byte; bits 3 to 7 are ignored. -/
def readRoles : Reader RoleSet := do
  let n ← readByte
  return { timetable := n.testBit 0, notice := n.testBit 1, setup := n.testBit 2 }

/-- The fields of PUT_ENTRY and STAGE_PUT after the room (R12). -/
def readPut : Reader PutFields := do
  let tag ← readWord
  let day ← readByte
  let start ← readWord
  let stop ← readWord
  let title ← readText
  let presenter ← readText
  let marks ← readMarks
  let supersede ← readByte
  return { tag, day, start, stop, title, presenter, marks, supersede }

/-- The fields of POST_NOTICE (R61). -/
def readPost : Reader PostFields := do
  let id ← readByte
  let level ← readByte
  let target ← readList
  let text ← readText
  let expiry ← readWord
  let tied ← readByte
  return { id, level, target, text, expiry, tied }

/-- The fields of SET_ROOM after the room (R3). That L and C take one byte each is the model's reading (log 40). -/
def readRoomFields : Reader RoomFields := do
  let enable ← readByte
  let lead ← readByte
  let closing ← readByte
  let follow ← readByte
  let name ← readText
  return { enable, lead, closing, follow, name }

/-- The fields of SET_LINE after the line (R126). The capacity takes one byte (R126); that the refill, the two limits, the interval
and the filter do is the model's reading (log 40). -/
def readLineFields : Reader LineFields := do
  let enabled ← readByte
  let capacity ← readByte
  let refill ← readByte
  let limit ← readByte
  let refreshLimit ← readByte
  let interval ← readByte
  let filter ← readByte
  let grouping ← readByte
  return { enabled, capacity, refill, limit, refreshLimit, interval, filter, grouping }

/-- The fields of SET_FAULT_MODE (R152). -/
def readModes : Reader ModeFields := do
  let noAnswer ← readByte
  let slow ← readByte
  let mismatch ← readByte
  let absent ← readByte
  let trip ← readByte
  let retryTime ← readWord
  return { noAnswer, slow, mismatch, absent, trip, retryTime }

/-! ### Requests by code (R184) -/

/-- A request that carries no field. -/
def plain (mk : Header → Instr) : Reader (Header → Instr) := return mk

/-- A request of one byte. -/
def oneByte (mk : Header → Nat → Instr) : Reader (Header → Instr) := do
  let n ← readByte
  return fun h => mk h n

/-- A request of two bytes. -/
def twoBytes (mk : Header → Nat → Nat → Instr) : Reader (Header → Instr) := do
  let a ← readByte
  let b ← readByte
  return fun h => mk h a b

/-- A request of a room and a tag. -/
def roomTag (mk : Header → Nat → Nat → Instr) : Reader (Header → Instr) := do
  let room ← readByte
  let tag ← readWord
  return fun h => mk h room tag

/-- A request of a room, a tag and two mark sets. -/
def roomMarks (mk : Header → Nat → Nat → Marks → Marks → Instr) : Reader (Header → Instr) := do
  let room ← readByte
  let tag ← readWord
  let setMarks ← readMarks
  let clearMarks ← readMarks
  return fun h => mk h room tag setMarks clearMarks

/-- A request of a room and the fields of a put. -/
def roomPut (mk : Header → Nat → PutFields → Instr) : Reader (Header → Instr) := do
  let room ← readByte
  let f ← readPut
  return fun h => mk h room f

/-- SET_CLOCK (R33). -/
def readSetClock : Reader (Header → Instr) := do
  let day ← readByte
  let minute ← readWord
  let second ← readByte
  return fun h => .setClock h day minute second

/-- MAP_SIGN: always six bytes; a line byte of 0xFF marks the unmap form. -/
def readMap : Reader (Header → Instr) := do
  let sign ← readByte
  let line ← readByte
  let position ← readByte
  let room ← readByte
  let role ← readByte
  let cls ← readByte
  return fun h => if line = 0xFF then .mapSignUnmap h sign else .mapSign h sign { line, position, room, role, cls }

/-- SET_TEST: OFF is the fifth pattern of its list (R107, log 24). -/
def readTest : Reader (Header → Instr) := do
  let signs ← readList
  let pattern ← readByte
  return fun h => if pattern = 4 then .setTestOff h signs else .setTest h signs pattern

/-- SET_QUIET (R146). -/
def readQuiet : Reader (Header → Instr) := do
  let enable ← readByte
  let qEnter ← readWord
  let qExit ← readWord
  return fun h => .setQuiet h enable qEnter qExit

/-- CLEAR_FAULT: a kind byte, 0 for a sign and 1 for a line; any other kind is judged as a sign out of range (log 24). -/
def readClear : Reader (Header → Instr) := do
  let kind ← readByte
  let n ← readByte
  return fun h => if kind = 0 then .clearFaultSign h n else if kind = 1 then .clearFaultLine h n else .clearFaultSign h 255

/-- SET_PORT (R170). -/
def readPort : Reader (Header → Instr) := do
  let target ← readByte
  let roles ← readRoles
  let code ← readByte
  return fun h => .setPort h target roles code

/-- The layout of a request's body by its code; none for a code the hub does not know. That the cabinet address of SET_CABINET takes
one byte is the model's reading (log 40), and that the mask of SET_ATTENTION_MASK does (log 23). -/
def layout (code : Nat) : Option (Reader (Header → Instr)) :=
  match code with
  | 0x01 => some (plain .readStatus)
  | 0x02 => some (twoBytes .readRoom)
  | 0x03 => some (roomTag .readEntry)
  | 0x04 => some (oneByte .readSign)
  | 0x05 => some (oneByte .readLine)
  | 0x06 => some (oneByte .readNotice)
  | 0x07 => some (plain .heartbeat)
  | 0x08 => some (plain .readAttention)
  | 0x09 => some (oneByte (fun h n => .setAttentionMask h (BitVec.ofNat 8 n)))
  | 0x10 => some (roomPut .putEntry)
  | 0x11 => some (roomTag .dropEntry)
  | 0x12 => some (roomMarks .markEntry)
  | 0x13 => some (twoBytes .clearDay)
  | 0x14 => some readSetClock
  | 0x18 => some (do let l ← readList; return fun h => .openBatch h l)
  | 0x19 => some (roomPut .stagePut)
  | 0x1A => some (roomTag .stageDrop)
  | 0x1B => some (roomMarks .stageMark)
  | 0x1C => some (twoBytes .stageClearDay)
  | 0x1D => some (plain .commitBatch)
  | 0x1E => some (plain .abandonBatch)
  | 0x20 => some (do let f ← readPost; return fun h => .postNotice h f)
  | 0x21 => some (oneByte .withdrawNotice)
  | 0x30 => some (do let room ← readByte; let f ← readRoomFields; return fun h => .setRoom h room f)
  | 0x31 => some readMap
  | 0x32 => some readTest
  | 0x33 => some (do let line ← readByte; let f ← readLineFields; return fun h => .setLine h line f)
  | 0x34 => some readQuiet
  | 0x35 => some (plain .wakeLines)
  | 0x36 => some (do let f ← readModes; return fun h => .setFaultMode h f)
  | 0x37 => some readClear
  | 0x38 => some readPort
  | 0x39 => some (oneByte .setCabinet)
  | 0x3A => some (twoBytes .setArbiter)
  | 0x3B => some (plain .saveSetup)
  | 0x3C => some (plain .loadSetup)
  | 0x3D => some (plain .softClear)
  | _ => none

/-- A body of zeros, from which a request of a wrong length takes its fields: they are never looked at (R167). -/
def zeros : List Byte := List.replicate 32 0

/-- R167: a request with its body: an unknown code, a body that fits its layout, or one that does not. -/
def decodeRequest (p : Port) (cabinet code : Nat) (body : List Byte) : Option Instr :=
  match layout code with
  | none => some (.unknownRequest { port := p, cabinet := cabinet, bodyFits := true } code)
  | some rd =>
    match rd body with
    | some (mk, []) => some (mk { port := p, cabinet := cabinet, bodyFits := true })
    | _ => (rd zeros).map (fun x => x.1 { port := p, cabinet := cabinet, bodyFits := false })

/-- R163, R164, R184: the command that the bytes of a packet on a port stand for: a body length above 240, a failed check
code, a reply of another hub, or a request. Bytes that do not make one whole packet stand for none. -/
def decodePacket (p : Port) (bytes : List Byte) : Option Instr :=
  match bytes with
  | lead :: addr :: code :: n :: rest =>
    if lead ≠ 0xA5#8 then none
    else if 240 < n.toNat then some (.bodyLengthOver240 p)
    else if rest.length ≠ n.toNat + 1 then none
    else if rest.getLast? ≠ some (Machine.crc8 (bytes.take (4 + n.toNat))) then some (.packetDiscarded p)
    else if addr.getLsbD 7 then some (.packetIgnored p)
    else decodeRequest p (addr.toNat % 16) code.toNat (rest.take n.toNat)
  | _ => none

/-! ### Answers (R187) -/

/-- The command that an answer's kind and payload stand for. A payload that does not fit its kind counts as no answer, which
R187 does not say (log 34). -/
def answerOf (l : LineId) (pos : Position) (kind : Nat) (payload : List Byte) : Option Instr :=
  match kind, payload with
  | 0x81, [] => some (.ack l pos)
  | 0x84, [] => some (.busyAnswer l pos)
  | 0x85, [hi, lo] => some (.doneOrIdle l pos (hi ++ lo))
  | 0x86, [hi, lo] => some (.doneOrIdle l pos (hi ++ lo))
  | 0x87, [0x00#8] => some (.classAnswer l pos .small)
  | 0x87, [0x01#8] => some (.classAnswer l pos .medium)
  | 0x87, [0x02#8] => some (.classAnswer l pos .large)
  | _, _ => none

/-- R187: the command that the bytes of an answer on a line stand for; none where they count as no answer. Bits 4 to 6 of
byte 1 are ignored, which R187 does not say (log 35). -/
def decodeAnswer (l : LineId) (bytes : List Byte) : Option Instr :=
  match bytes with
  | lead :: place :: kind :: m :: rest =>
    if lead = 0x5A#8 ∧ place.getLsbD 7 = true ∧ rest.length = m.toNat + 1
        ∧ rest.getLast? = some (Machine.crc8 (bytes.take (4 + m.toNat))) then
      answerOf l ⟨place.toNat % 16, Nat.mod_lt _ (by decide)⟩ kind.toNat (rest.take m.toNat)
    else none
  | _ => none

end Decode

end Sys2Proof
end

