-- ==== Sys2Proof/Machine/Ops.lean ====
section
/-! DEFINITION. The named operations over State: reading and writing one port, room, sign or line, the counts of the
entry pool and the text store (R6, R9), and the operations on one line's collections (R110, R111, R131). -/

namespace Sys2Proof.Machine

/-! ### Index ranges -/

/-- MP0 to MP2. -/
def allPorts : List Port := [.mp0, .mp1, .mp2]

/-- Room 0 to room 63, ascending (R38). -/
def allRooms : List RoomId := List.finRange 64

/-- Sign 0 to sign 95, ascending (R38). -/
def allSigns : List SignId := List.finRange 96

/-- L0 to L5. -/
def allLines : List LineId := List.finRange 6

/-- The place of a port in the vectors of State. -/
def portIndex : Port → Fin 3
  | .mp0 => 0 | .mp1 => 1 | .mp2 => 2

/-! ### One item of State -/

def State.port (s : State) (p : Port) : PortRecord := s.ports[portIndex p]
def State.setPort (s : State) (p : Port) (x : PortRecord) : State := { s with ports := s.ports.set (portIndex p) x }
def State.updPort (s : State) (p : Port) (f : PortRecord → PortRecord) : State := s.setPort p (f (s.port p))

def State.timetable (s : State) (r : RoomId) : List Entry := s.timetables[r]
def State.setTimetable (s : State) (r : RoomId) (x : List Entry) : State :=
  { s with timetables := s.timetables.set r x }

def State.eval (s : State) (r : RoomId) : EvalRecord := s.evals[r]
def State.setEval (s : State) (r : RoomId) (x : EvalRecord) : State := { s with evals := s.evals.set r x }

def State.sign (s : State) (i : SignId) : SignRecord := s.signs[i]
def State.setSign (s : State) (i : SignId) (x : SignRecord) : State := { s with signs := s.signs.set i x }
def State.updSign (s : State) (i : SignId) (f : SignRecord → SignRecord) : State := s.setSign i (f (s.sign i))

def State.line (s : State) (l : LineId) : LineRecord := s.lines[l]
def State.setLine (s : State) (l : LineId) (x : LineRecord) : State := { s with lines := s.lines.set l x }
def State.updLine (s : State) (l : LineId) (f : LineRecord → LineRecord) : State := s.setLine l (f (s.line l))

/-- The setup fields of a room (R1). -/
def State.roomSetup (s : State) (r : RoomId) : RoomSetup := s.setup.rooms[r]
def State.setRoomSetup (s : State) (r : RoomId) (x : RoomSetup) : State :=
  { s with setup := { s.setup with rooms := s.setup.rooms.set r x } }

/-- The mapping of a sign, none while unmapped (R93). -/
def State.mapping (s : State) (i : SignId) : Option Mapping := s.setup.signMap[i]
def State.setMapping (s : State) (i : SignId) (x : Option Mapping) : State :=
  { s with setup := { s.setup with signMap := s.setup.signMap.set i x } }

/-- The settings of a line (R126, R131). -/
def State.lineSetup (s : State) (l : LineId) : LineSetup := s.setup.lines[l]
def State.setLineSetup (s : State) (l : LineId) (x : LineSetup) : State :=
  { s with setup := { s.setup with lines := s.setup.lines.set l x } }

/-- The role set and heartbeat interval of a port (R169, R170). -/
def State.portSetup (s : State) (p : Port) : PortSetup := s.setup.ports[portIndex p]
def State.setPortSetup (s : State) (p : Port) (x : PortSetup) : State :=
  { s with setup := { s.setup with ports := s.setup.ports.set (portIndex p) x } }

/-- R75: a room is held while it is one of the holder's batch rooms. -/
def State.isHeld (s : State) (r : RoomId) : Bool := s.arb.rooms.contains r

/-- R27: the absolute minute of a SET clock. -/
def Clock.absolute (c : Clock) : Nat := c.day * 1440 + c.minute

/-! ### Entry pool and text store -/

/-- R9: a string of n bytes occupies ceil(n/16) cells. -/
def textCellsOf (t : Text) : Nat := (t.length + 15) / Config.cellBytes

/-- R9: an absent string occupies none. -/
def optCellsOf (t : Option Text) : Nat := match t with
  | none => 0
  | some t => textCellsOf t

/-- R9, R14: the cells of an entry's title and presenter. -/
def Entry.cells (e : Entry) : Nat := textCellsOf e.title + optCellsOf e.presenter

/-- The cells of a list of entries. -/
def entriesCells (l : List Entry) : Nat := (l.map Entry.cells).sum

/-- R6: entries in use. -/
def State.usedEntries (s : State) : Nat := (s.timetables.toList.map List.length).sum

/-- R9: cells in use by entries. -/
def State.entryCells (s : State) : Nat := (s.timetables.toList.map entriesCells).sum

/-- R9: cells in use by the names of a room setup vector. -/
def nameCells (rooms : Vector RoomSetup 64) : Nat := (rooms.toList.map (fun r => optCellsOf r.name)).sum

/-- R9: cells in use by notice texts. -/
def State.noticeCells (s : State) : Nat := (s.notices.map (fun n => textCellsOf n.text)).sum

/-- R9: cells in use. -/
def State.usedCells (s : State) : Nat := nameCells s.setup.rooms + s.entryCells + s.noticeCells

/-- R6: entries in use plus free entries number 384. -/
def State.freeEntries (s : State) : Nat := Config.poolEntries - s.usedEntries

/-- R9: cells in use plus free cells number 1536. -/
def State.freeCells (s : State) : Nat := Config.textCells - s.usedCells

/-! ### Collections of one line -/

/-- R110: a sign joins the dirty queue at its end, or keeps its place. -/
def LineRecord.join (ln : LineRecord) (i : SignId) : LineRecord :=
  if ln.dirty.contains i then ln else { ln with dirty := ln.dirty ++ [i] }

/-- R110: a sign leaves the dirty queue, and the signs that remain keep their order. -/
def LineRecord.leave (ln : LineRecord) (i : SignId) : LineRecord :=
  { ln with dirty := ln.dirty.filter (fun x => x != i) }

/-- R111: the job of a sign, if it has one. -/
def LineRecord.jobOf (ln : LineRecord) (i : SignId) : Option Job := ln.jobs.find? (fun j => j.sign == i)

def Job.isReady (j : Job) : Bool := j.state == .ready
def Job.isSending (j : Job) : Bool := j.state == .sending
def Job.isRefreshing (j : Job) : Bool := j.state == .refreshing

/-- R120: SENDING or REFRESHING. -/
def Job.inFlight (j : Job) : Bool := j.state != .ready

/-- R120: the number of SENDING and REFRESHING jobs. -/
def LineRecord.inFlight (ln : LineRecord) : Nat := ln.jobs.countP Job.inFlight

/-- A job is changed in its place. -/
def LineRecord.updJob (ln : LineRecord) (i : SignId) (f : Job → Job) : LineRecord :=
  { ln with jobs := ln.jobs.map (fun j => if j.sign == i then f j else j) }

/-- R111, R138: a sign's job leaves the job list and the poll round, and the poll timer stops when no job is
REFRESHING. -/
def LineRecord.dropJob (ln : LineRecord) (i : SignId) : LineRecord :=
  let jobs := ln.jobs.filter (fun j => j.sign != i)
  { ln with jobs := jobs
            round := ln.round.filter (fun x => x != i)
            pollTimer := ln.pollTimer && jobs.any Job.isRefreshing }

/-- R132: the line is powered in WAKING and ACTIVE. -/
def LineRecord.powered (ln : LineRecord) : Bool := ln.mode == .waking || ln.mode == .active

/-- Power goes off: the outstanding exchange is abandoned, the settle, poll and interval timers stop, a roll call is
abandoned with the extras list kept (R133, R142, R143, R147), and the watch of the current ends. -/
def LineRecord.powerOff (ln : LineRecord) (mode : LineMode) : LineRecord :=
  { ln with mode := mode
            transmitter := none
            settle := false
            pollTimer := false
            round := []
            roll := none
            interval := none
            excess := false }

/-- R134: entering WAKING: power on, settle timer running, watching the current; a hold ends (R145). -/
def LineRecord.wake (ln : LineRecord) : LineRecord :=
  { ln with mode := .waking
            transmitter := none
            settle := true
            pollTimer := false
            round := []
            roll := none
            interval := none
            excess := false
            hold := .none }

/-- R118, R127: the budget is clamped into the range of a capacity. -/
def clampBudget (capacity : Nat) (b : Int) : Int := max (-(capacity : Int)) (min b capacity)

/-- R112: the effective cost of a job under a capacity. -/
def Job.effective (j : Job) (capacity : Nat) : Nat := min j.cost capacity

end Sys2Proof.Machine
end

