-- ==== Sys2Proof/Machine/Flags.lean ====
section
/-! DEFINITION. Flags: the attention unit's pending flags, masks, fault latch and later-fault counter (R158, R174), the
pressure level and its PACE (R22, R23), and the role checks that direct attention (R169). -/

namespace Sys2Proof.Machine

/-- The sources by code, lowest first (R174). -/
def allSources : List Source := [.fault, .grant, .withdraw, .pace, .peer, .line, .clock, .store]

/-- R174: the bit of a source in the pending flags and the mask. -/
def Source.flag (src : Source) : BitVec 8 := 1#8 <<< Source.code src

/-- Whether a source is set in a byte of flags. -/
def hasFlag (v : BitVec 8) (src : Source) : Bool := v.getLsbD (Source.code src)

/-- R174: a source becomes pending on a port, whether or not it is enabled; once if it is pending already. -/
def State.raise (s : State) (p : Port) (src : Source) : State :=
  s.updPort p (fun x => { x with raised := x.raised ||| Source.flag src })

/-- A pending source is cleared on a port. -/
def State.lower (s : State) (p : Port) (src : Source) : State :=
  s.updPort p (fun x => { x with raised := x.raised &&& ~~~ Source.flag src })

/-- A source is raised on all three ports (R23, R31, R174). -/
def State.raiseAll (s : State) (src : Source) : State := allPorts.foldl (fun s p => s.raise p src) s

/-- A source is cleared on all three ports (R34). -/
def State.lowerAll (s : State) (src : Source) : State := allPorts.foldl (fun s p => s.lower p src) s

/-- R169: whether a port holds the SETUP role now. -/
def State.hasSetup (s : State) (p : Port) : Bool := (s.portSetup p).roles.setup

/-- A source is raised on every port that holds the SETUP role now (R141 to R143, R169). -/
def State.raiseSetup (s : State) (src : Source) : State :=
  allPorts.foldl (fun s p => if s.hasSetup p then s.raise p src else s) s

/-- R174: the attention output of a port: asserted while a pending source is enabled in the mask. -/
def State.attentionLine (s : State) (p : Port) : Bool := ((s.port p).raised &&& (s.port p).mask) != 0#8

/-- R175: the lowest code among a byte's sources. -/
def lowestSource (v : BitVec 8) : Option Source := allSources.find? (fun src => hasFlag v src)

/-- R158: FAULT attention at one port: an empty latch takes the fault, a full one counts it, saturating at 255. -/
def PortRecord.takeFault (x : PortRecord) (i : SignId) (k : FaultKind) : PortRecord :=
  match x.latch with
  | none => { x with latch := some (i, k), raised := x.raised ||| Source.flag .fault }
  | some _ => { x with later := min 255 (x.later + 1), raised := x.raised ||| Source.flag .fault }

/-- R158: FAULT attention on the ports that the fault's origin gives. -/
def State.raiseFault (s : State) (o : Origin) (i : SignId) (k : FaultKind) : State :=
  match o with
  | .port p => s.updPort p (fun x => x.takeFault i k)
  | .clock => allPorts.foldl (fun s p => if s.hasSetup p then s.updPort p (fun x => x.takeFault i k) else s) s
  | .setup => allPorts.foldl (fun s p => if s.hasSetup p then s.updPort p (fun x => x.takeFault i k) else s) s

/-- R22: the pressure level after an operation that leaves these free counts. -/
def nextPressure (level : Pressure) (entries cells : Nat) : Pressure :=
  match level with
  | .normal => if entries < 32 || cells < 128 then .low else .normal
  | .low => if 64 ≤ entries && 256 ≤ cells then .normal else .low

/-- R23: the level is re-evaluated once at the end of an operation; a change raises PACE on all three ports. -/
def State.repress (s : State) : State :=
  let level := nextPressure s.pressure s.freeEntries s.freeCells
  if level = s.pressure then s else ({ s with pressure := level }).raiseAll .pace

end Sys2Proof.Machine
end

