-- ==== Sys2Proof/Machine/Delivery.lean ====
section
/-! DEFINITION. Signs and their jobs: delivery state, kinds and costs, hands, settling, retargeting, job creation and
the start decision (06_the_sign_table.md, 07_delivery_scheduling_and_the_refresh_budget.md). -/

namespace Sys2Proof.Machine

/-! ### The sign record's computed views -/

/-- R95, R98: the delivered full digest is known and equal to the wanted full digest. -/
def SignRecord.matched (g : SignRecord) : Bool :=
  match g.delivered, g.wanted with
  | some d, some w => d.full == w.full
  | _, _ => false

/-- R111: the job of a sign, in the list of the line it is mapped to. -/
def State.jobOf (s : State) (i : SignId) : Option Job :=
  match s.mapping i with
  | none => none
  | some m => (s.line m.line).jobOf i

/-- R95: the delivery state; an unmapped sign reads CLEAN. -/
def State.delivery (s : State) (i : SignId) : Delivery :=
  match s.mapping i with
  | none => .clean
  | some m =>
    if ((s.line m.line).jobOf i).isSome then .jobbed
    else if (s.sign i).matched then .clean else .dirty

/-- R141: the mapped sign at a line and position. -/
def State.signAt (s : State) (l : LineId) (pos : Position) : Option SignId :=
  allSigns.find? (fun i => match s.mapping i with
    | none => false
    | some m => m.line == l && m.position == pos)

/-- R57, R115: the sign is not in test and its room shows a notice of level URGENT. -/
def State.urgentSign (s : State) (i : SignId) : Bool :=
  match s.mapping i with
  | none => false
  | some m => (s.sign i).test.isNone && ((s.eval m.room).shown.any (fun n => n.2 == .urgent))

/-! ### Kind, cost and target of a job -/

/-- R112: the kind, decided from the sign record. -/
def SignRecord.jobKind (g : SignRecord) : JobKind :=
  if g.test.isSome then .testJob
  else match g.delivered, g.wanted with
    | some d, some w => if d.body == w.body then .partialJob else .fullJob
    | _, _ => .fullJob

/-- R112: the cost, from the kind and the mapped Class. -/
def jobCost (k : JobKind) (c : SignClass) : Nat :=
  match k, c with
  | .partialJob, .large => 2
  | .partialJob, _ => 1
  | _, .small => 3
  | _, .medium => 6
  | _, .large => 14

/-- R115: the time field of the room's board; a test card has none. -/
def State.targetTime (s : State) (i : SignId) (m : Mapping) : TimeField :=
  if (s.sign i).test.isSome then .none else (s.eval m.room).board.time

/-- R115: the job made from a sign. -/
def State.newJob (s : State) (i : SignId) (m : Mapping) : Job :=
  let g := s.sign i
  { sign := i, kind := g.jobKind, cost := jobCost g.jobKind m.cls, urgent := s.urgentSign i
    target := g.wanted, time := s.targetTime i m, content := none, state := .ready, resends := 0
    origin := g.origin, refresh := none }

/-- R116: a READY job takes the sign's new target, origin, kind, cost and urgency, and keeps its place. -/
def State.retarget (s : State) (i : SignId) (m : Mapping) : State :=
  s.updLine m.line (fun ln => ln.updJob i (fun j =>
    let n := s.newJob i m
    { j with kind := n.kind, cost := n.cost, urgent := n.urgent, target := n.target, time := n.time
             origin := n.origin }))

/-! ### Settling and hands -/

/-- R98: a sign is settled against its wanted digests, according to its job and fault state. -/
def State.settleSign (s : State) (i : SignId) : State :=
  match s.mapping i with
  | none => s
  | some m =>
    match (s.line m.line).jobOf i with
    | some j =>
      if j.isReady then
        if (s.sign i).matched then s.updLine m.line (fun ln => ln.dropJob i) else s.retarget i m
      else s.updLine m.line (fun ln => ln.join i)
    | none =>
      match (s.sign i).fault with
      | .none =>
        if (s.sign i).matched then s.updLine m.line (fun ln => ln.leave i)
        else s.updLine m.line (fun ln => ln.join i)
      | _ => s

/-- R98, R99, R108: the sign table takes a hand. A sign in test takes a forced hand in part and any other not at all; a
forced hand makes the delivered digests unknown before the sign is settled. -/
def State.hand (s : State) (i : SignId) (d : Option Digests) (o : Origin) (forced : Bool) : State :=
  let g := s.sign i
  if g.test.isSome then
    if forced then (s.setSign i { g with delivered := none }).settleSign i else s
  else
    (s.setSign i { g with wanted := d, origin := o
                          delivered := if forced then none else g.delivered }).settleSign i

/-! ### Job creation -/

/-- R114: a queued sign may be taken when it has no job and its Link is not ABSENT. -/
def State.takeable (s : State) (l : LineId) (i : SignId) : Bool :=
  ((s.line l).jobOf i).isNone && (s.sign i).link != .absent

/-- R114: the sign a job is made for: nearest the head among those whose room shows an URGENT notice, else nearest the
head. -/
def State.nextSign (s : State) (l : LineId) : Option SignId :=
  let q := (s.line l).dirty.filter (fun i => s.takeable l i)
  match q.find? (fun i => s.urgentSign i) with
  | some i => some i
  | none => q.head?

/-- R113, R115: one job is made, when the line is ACTIVE, a slot is free and a sign may be taken. -/
def State.createJob (s : State) (l : LineId) : State :=
  if (s.line l).mode == .active && decide ((s.line l).jobs.length < Config.jobPlaces) then
    match s.nextSign l with
    | none => s
    | some i =>
      match s.mapping i with
      | none => s
      | some m => s.updLine l (fun ln => { ln.leave i with jobs := ln.jobs ++ [s.newJob i m] })
  else s

/-! ### The start decision -/

/-- R120, conditions 1 to 3. -/
def lineMayStart (c : LineSetup) (ln : LineRecord) : Bool :=
  ln.mode == .active && ln.roll.isNone && !(ln.jobs.any Job.isSending) && decide (ln.inFlight < c.limit)

/-- R120: the earliest non-urgent READY job, when b is at or above its effective cost. -/
def plainCandidate (c : LineSetup) (ln : LineRecord) : Option Job :=
  match ln.jobs.find? (fun j => j.isReady && !j.urgent) with
  | none => none
  | some j => if ((j.effective c.capacity : Nat) : Int) ≤ ln.budget then some j else none

/-- R120: the job a start decision starts, if any: the earliest urgent READY job when it keeps b at or above the
negative of the capacity, else the earliest non-urgent one that b pays for. -/
def startCandidate (c : LineSetup) (ln : LineRecord) : Option Job :=
  if lineMayStart c ln then
    match ln.jobs.find? (fun j => j.isReady && j.urgent) with
    | none => plainCandidate c ln
    | some j =>
      if -(c.capacity : Int) ≤ ln.budget - ((j.effective c.capacity : Nat) : Int) then some j
      else plainCandidate c ln
  else none

/-- R121: the content of a starting job: the serialized board form, the time field, or the card. -/
def State.contentOf (s : State) (j : Job) (m : Mapping) : Content :=
  match j.kind with
  | .fullJob => .board (boardBytes m.role (s.eval m.room).board)
  | .partialJob => .time j.time
  | .testJob =>
    match (s.sign j.sign).test with
    | some c => .card c
    | none => .time j.time

/-- R136: when the transmitter is free and a job is SENDING, its first frame goes out. -/
def LineRecord.resume (ln : LineRecord) : LineRecord :=
  match ln.transmitter with
  | some _ => ln
  | none =>
    match ln.jobs.find? Job.isSending with
    | some j => { ln with transmitter := some (.job j.sign 0) }
    | none => ln

/-- R121: a job starts: the budget falls by its effective cost, its content is taken, and its first frame goes out, or
waits for an outstanding poll exchange (R136). R119 has a decision start nothing while the transmitter is busy; that an
outstanding poll does not count as busy there is the model's reading (log 38). -/
def State.startJob (s : State) (l : LineId) : State :=
  match startCandidate (s.lineSetup l) (s.line l) with
  | none => s
  | some j =>
    match s.mapping j.sign with
    | none => s
    | some m =>
      s.updLine l (fun ln =>
        ({ ln.updJob j.sign (fun j => { j with state := .sending, content := some (s.contentOf j m), resends := 0 }) with
            budget := ln.budget - ((j.effective (s.lineSetup l).capacity : Nat) : Int) }).resume)

end Sys2Proof.Machine
end

