-- ==== Sys2Proof/Machine/Faults.lean ====
section
/-! DEFINITION. The fault handler's shared operations: taking a sign fault under its mode, retiring jobs, the end of a
retry wait, and a sign found PRESENT or silent at a roll call (09_faults_and_recovery.md, R122 to R124, R141). -/

namespace Sys2Proof.Machine

/-- R151: the mode of a kind. -/
def FaultSetup.modeOf (f : FaultSetup) (k : FaultKind) : FaultMode :=
  match k with
  | .noAnswer => f.noAnswer
  | .slow => f.slow
  | .mismatch => f.mismatch
  | .absent => f.absent

/-- A sign leaves the dirty queue of its line. -/
def State.leaveQueue (s : State) (i : SignId) : State :=
  match s.mapping i with
  | none => s
  | some m => s.updLine m.line (fun ln => ln.leave i)

/-- R153: LATCHED, out of the queue, the retry timer stopped. -/
def State.latchSign (s : State) (i : SignId) : State :=
  (s.updSign i (fun g => { g with fault := .latched, retry := .stopped })).leaveQueue i

/-- R153, R156: RETRY_WAIT, out of the queue; the timer runs for the retry time, or waits for presence for ABSENT. -/
def State.waitSign (s : State) (i : SignId) (k : FaultKind) : State :=
  let timer := if k = .absent then Retry.presence else .running s.setup.fault.retryTime
  (s.updSign i (fun g => { g with fault := .retryWait, retry := timer })).leaveQueue i

/-- R153: the fault is recorded: the last fault kind, and the count, saturating at 4. -/
def SignRecord.countFault (g : SignRecord) (k : FaultKind) : SignRecord :=
  { g with lastFault := some k, failures := min Config.failureCap (g.failures + 1) }

/-- R153: a sign fault is taken under the mode of its kind. A sign in RETRY_WAIT keeps its state and timer under REPORT
and IGNORE (R156), as settling does not touch it. -/
def State.applyFault (s : State) (i : SignId) (k : FaultKind) (o : Origin) : State :=
  let s1 := s.updSign i (fun g => g.countFault k)
  match s.setup.fault.modeOf k with
  | .latch => (s1.latchSign i).raiseFault o i k
  | .retry =>
    if (s1.sign i).failures = Config.failureCap then (s1.latchSign i).raiseFault o i k
    else s1.waitSign i k
  | .report => (s1.settleSign i).raiseFault o i k
  | .ignore => s1.settleSign i

/-- R156: an ABSENT fault; on a LATCHED sign it changes the last fault kind alone. -/
def State.applyAbsent (s : State) (i : SignId) (o : Origin) : State :=
  if (s.sign i).fault = .latched then s.updSign i (fun g => { g with lastFault := some .absent })
  else s.applyFault i .absent o

/-- R122, R157: a job retires as successful. R128 says of a hand that went back to the delivered digests after the start that
DONE makes the sign CLEAN; where those differ from the target, the model settles the sign by R122, as DIRTY (log 33). -/
def State.retireDone (s : State) (l : LineId) (j : Job) : State :=
  ((s.updLine l (fun ln => ln.dropJob j.sign)).updSign j.sign
    (fun g => { g with delivered := j.target, failures := 0, pendingAbsent := none })).settleSign j.sign

/-- R123, R157: a job retires as failed; a pending ABSENT takes the place of the job's own kind. -/
def State.retireFailed (s : State) (l : LineId) (j : Job) (k : FaultKind) : State :=
  let s1 := s.updLine l (fun ln => ln.dropJob j.sign)
  match (s.sign j.sign).pendingAbsent with
  | some o => (s1.updSign j.sign (fun g => { g with pendingAbsent := none })).applyAbsent j.sign o
  | none => s1.applyFault j.sign k j.origin

/-- R124, R157: an in-flight job fails with cause TRIP. -/
def State.retireTrip (s : State) (l : LineId) (i : SignId) : State :=
  (s.updLine l (fun ln => (ln.dropJob i).join i)).updSign i
    (fun g => { g with delivered := none, pendingAbsent := none })

/-- R155: a sign's retry wait ends: NONE, the timer stopped, settled against its digests. -/
def State.endRetry (s : State) (i : SignId) : State :=
  (s.updSign i (fun g => { g with fault := .none, retry := .stopped })).settleSign i

/-- R141: settling of a sign found PRESENT: a job in flight runs on and the sign is not queued (log 16). -/
def State.settleFound (s : State) (i : SignId) : State :=
  match s.jobOf i with
  | some j => if j.isReady then s.settleSign i else s
  | none => s.settleSign i

/-- R141, R156, R157: the position of a mapped sign answered a roll call. -/
def State.foundPresent (s : State) (i : SignId) (m : Mapping) (c : SignClass) : State :=
  let g := s.sign i
  let s1 := s.setSign i { g with link := .present, reported := some c, pendingAbsent := none }
  let s2 := if g.reported ≠ some c ∧ c ≠ m.cls then s1.raiseSetup .line else s1
  if g.link = .present then s2
  else
    let s3 := s2.updSign i (fun g => { g with delivered := none })
    let s4 := if g.fault = .retryWait ∧ g.retry = .presence then
        s3.updSign i (fun g => { g with fault := .none, retry := .stopped })
      else s3
    s4.settleFound i

/-- R141, R125, R157: the position of a mapped sign gave no answer. -/
def State.foundSilent (s : State) (i : SignId) (m : Mapping) : State :=
  let g := s.sign i
  if g.link = .absent then s
  else
    let s1 := s.setSign i { g with link := .absent }
    match (s.line m.line).jobOf i with
    | none => s1.applyAbsent i g.origin
    | some j =>
      if j.isReady then (s1.updLine m.line (fun ln => ln.dropJob i)).applyAbsent i g.origin
      else s1.updSign i (fun g => { g with pendingAbsent := some g.origin })

end Sys2Proof.Machine
end

