-- ==== Sys2Proof/Machine/Lines.lean ====
section
/-! DEFINITION. The line controllers' and the quiet controller's shared operations: waking, sleeping, tripping and
restoring lines, roll calls, and the moves of the quiet state (08_sign_lines.md). -/

namespace Sys2Proof.Machine

/-! ### Waking and the quiet controller -/

/-- R134: the interval timer's start, when the interval is 1 to 60 minutes. -/
def startInterval (c : LineSetup) : Option Nat := if c.interval = 0 then none else some c.interval

/-- R148: how many lines a wake sends to WAKING. -/
def State.quietLines (s : State) : Nat := s.lines.toList.countP (fun ln => ln.mode == .quiet)

/-- R148: the controller becomes AWAKE, and every QUIET line goes to WAKING. -/
def State.wakeLines (s : State) : State :=
  { s with quiet := .awake, lines := s.lines.map (fun ln => if ln.mode == .quiet then ln.wake else ln) }

/-- R148: whether the controller takes wake causes. -/
def QuietState.asleep : QuietState → Bool
  | .settling => true
  | .quiet => true
  | _ => false

/-- R148: a wake cause arises. -/
def State.wakeCause (s : State) : State := if QuietState.asleep s.quiet then s.wakeLines else s

/-- R148: the two wake causes that a room's last evaluation can give. -/
def roomWakes (q : QuietSetup) (e : EvalRecord) : Bool :=
  e.gap.any (fun g => decide (g ≤ q.qExit))
    || e.phase == .soon || e.phase == .live || e.phase == .closing || e.phase == .notice

/-- R148: the exit check, over every enabled room. -/
def State.exitCheck (s : State) : State :=
  if QuietState.asleep s.quiet
      && allRooms.any (fun r => (s.roomSetup r).enabled && roomWakes s.setup.quiet (s.eval r)) then s.wakeLines
  else s

/-- R147: in SETTLING, when every enabled line is QUIET or TRIPPED, the controller becomes QUIET (log 21). -/
def State.quietSettled (s : State) : State :=
  if s.quiet = .settling
      ∧ allLines.all (fun l => !(s.lineSetup l).enabled || (s.line l).mode == .quiet || (s.line l).mode == .tripped) then
    { s with quiet := .quiet }
  else s

/-- R147: a room that lets the lines sleep: OPEN, or BETWEEN with a Gap above Q_enter. -/
def roomRests (q : QuietSetup) (e : EvalRecord) : Bool :=
  e.phase == .opened || (e.phase == .between && e.gap.any (fun g => decide (q.qEnter < g)))

/-- R147: the entry check of a minute boundary, taken in AWAKE. -/
def State.entryCheck (s : State) : State :=
  if s.quiet = .awake ∧ s.clock.isSet ∧ s.notices = []
      ∧ allRooms.all (fun r => !(s.roomSetup r).enabled || roomRests s.setup.quiet (s.eval r)) then
    ({ s with quiet := .settling }).quietSettled
  else s

/-- R146: the quiet state's move for an enable value, after the thresholds are stored. -/
def State.moveQuiet (s : State) (enable : Bool) : State :=
  match enable, s.quiet with
  | true, .disabled => { s with quiet := .awake }
  | false, .awake => { s with quiet := .disabled }
  | false, .settling => { s.wakeLines with quiet := .disabled }
  | false, .quiet => { s.wakeLines with quiet := .disabled }
  | _, _ => s.exitCheck

/-- R147: a line that may be put to sleep. -/
def LineRecord.maySleep (ln : LineRecord) : Bool :=
  ln.mode == .active && ln.jobs.isEmpty && ln.dirty.isEmpty && ln.roll.isNone

/-! ### Trips, restores and disabling -/

/-- R144: L0 with L1, L2 with L3, L4 with L5. -/
def partner (l : LineId) : LineId := Fin.ofNat 6 (if l.val % 2 = 0 then l.val + 1 else l.val - 1)

/-- R159: the hold that a trip gives, under the mode of TRIP. -/
def FaultSetup.tripHold (f : FaultSetup) : Hold :=
  match f.trip with
  | .retry => .waiting f.retryTime
  | .latch => .latched

/-- R143, steps 1 to 3 and 6: power off, TRIPPED, in-flight jobs failed in job-list order, the line held. -/
def State.tripLine (s : State) (l : LineId) : State :=
  let flying := ((s.line l).jobs.filter Job.inFlight).map Job.sign
  let s1 := flying.foldl (fun s i => s.retireTrip l i) s
  s1.updLine l (fun ln => { ln.powerOff .tripped with hold := s.setup.fault.tripHold })

/-- R145: the fault handler restores a line with a hold: it goes to WAKING. -/
def State.restoreLine (s : State) (l : LineId) : State :=
  if (s.line l).hold = .none then s else s.updLine l LineRecord.wake

/-- R133: a disabled line goes to OFF: power off, READY jobs removed with their signs queued, hold ended. -/
def LineRecord.disable (ln : LineRecord) : LineRecord :=
  let signs := (ln.jobs.filter Job.isReady).map Job.sign
  let ln1 := signs.foldl (fun ln i => (ln.dropJob i).join i) ln
  { ln1.powerOff .off with hold := .none }

/-- R127, R133, R140: a line takes new settings: the budget clamped into the capacity, a changed interval restarting the
interval timer in ACTIVE, and its enable. -/
def LineRecord.reconfigure (ln : LineRecord) (old new : LineSetup) : LineRecord :=
  let ln1 := { ln with budget := clampBudget new.capacity ln.budget }
  let ln2 := if old.interval = new.interval then ln1
    else { ln1 with interval := if ln1.mode == .active then startInterval new else none }
  if new.enabled then (if ln2.mode == .off then ln2.wake else ln2)
  else if ln2.mode == .off then ln2 else ln2.disable

/-! ### Roll calls -/

/-- R140: a roll call begins at position 0. In WAKING its first ROLL goes out at once; in ACTIVE ROLL_CALL_START sends
it. -/
def LineRecord.beginRoll (ln : LineRecord) : LineRecord :=
  { ln with roll := some { next := 0, resent := false, found := [] } }

/-- R140, R142: after position 15 the roll call is complete. -/
def State.completeRoll (s : State) (l : LineId) (found : List Position) : State :=
  let s1 := if (s.line l).extras = found then s else s.raiseSetup .line
  s1.updLine l (fun ln => { ln with roll := none
                                    transmitter := none
                                    extras := found
                                    interval := startInterval (s.lineSetup l)
                                    mode := if ln.mode == .waking then .active else ln.mode })

/-- R142, R149: positions at which signs are mapped leave the extras list, and leave the positions that a running roll call has
found with no sign mapped. That the second holds while the roll call runs is the model's reading (log 32). -/
def LineRecord.unlist (ln : LineRecord) (mapped : Position → Bool) : LineRecord :=
  { ln with extras := ln.extras.filter (fun p => !mapped p)
            roll := ln.roll.map (fun rc => { rc with found := rc.found.filter (fun p => !mapped p) }) }

/-- R140: the next position is called, or the roll call is complete. -/
def State.nextRoll (s : State) (l : LineId) (pos : Position) (found : List Position) : State :=
  if h : pos.val + 1 < 16 then
    s.updLine l (fun ln => { ln with roll := some { next := ⟨pos.val + 1, h⟩, resent := false, found := found }
                                     transmitter := some (.roll ⟨pos.val + 1, h⟩) })
  else s.completeRoll l found

/-- The frame on a line now: the frame of the exchange on its transmitter (R135, R136). -/
def State.wireFrame (s : State) (l : LineId) : Option Frame :=
  match (s.line l).transmitter with
  | none => none
  | some (.roll pos) => some (.roll pos)
  | some (.poll i _) => (s.mapping i).map (fun m => .poll m.position)
  | some (.job i k) =>
    match (s.line l).jobOf i, s.mapping i with
    | some j, some m => contentFrame m.position i j.content k
    | _, _ => none

end Sys2Proof.Machine
end

