-- ==== Sys2Proof/Machine/Board.lean ====
section
/-! DEFINITION. The board evaluator: phase arithmetic, the notice overlay, digests, and the evaluation of rooms with its
hands to the sign table and its wake causes (03_board_evaluation.md, R148). -/

namespace Sys2Proof.Machine

/-! ### Phase arithmetic (R41 to R50) -/

/-- R7: the absolute start. -/
def Entry.absStart (e : Entry) : Nat := e.day * 1440 + e.start

/-- R7: the absolute end. -/
def Entry.absEnd (e : Entry) : Nat := e.day * 1440 + e.stop

/-- R48: CLOCK of a minute of day. -/
def clockField (m : Nat) : TimeField := .clock (m / 60) (m % 60)

/-- R47: a countdown of 99 or less is kept, and any other becomes CLOCK of the minute it counts towards. -/
def clampTime (n m : Nat) : TimeField := if n ≤ 99 then .countdown n else clockField m

/-- R42: current at t. -/
def Entry.isCurrent (t : Nat) (e : Entry) : Bool :=
  !e.marks.hidden && !e.marks.cancelled && decide (e.absStart ≤ t) && decide (t < e.absEnd)

/-- R42: T1, the first minute of tomorrow. -/
def tomorrow (t : Nat) : Nat := t / 1440 * 1440 + 1440

/-- R43, R50: not HIDDEN, and starting after a reference minute within today. -/
def Entry.follows (ref t : Nat) (e : Entry) : Bool :=
  !e.marks.hidden && decide (ref < e.absStart) && decide (e.absStart < tomorrow t)

/-- R42: the current entry. -/
def currentEntry (tt : List Entry) (t : Nat) : Option Entry := tt.find? (Entry.isCurrent t)

/-- R43: the next entry: the first in the timetable's order (R8), so the smallest start and then the smallest tag. -/
def nextEntry (tt : List Entry) (t : Nat) : Option Entry := tt.find? (Entry.follows t t)

/-- R50: the follow list after a reference minute. -/
def followList (tt : List Entry) (ref t f : Nat) : List FollowItem :=
  ((tt.filter (Entry.follows ref t)).take f).map
    (fun e => { hh := e.start / 60, mm := e.start % 60, cancelled := e.marks.cancelled, title := e.title })

/-- What the session part gives (R41 to R50). -/
structure Session where
  phase : Phase
  current : Option Nat
  next : Option Nat
  gap : Option Nat
  headline : Option Entry
  time : TimeField
  follow : List FollowItem
  deriving DecidableEq, Repr

/-- R41: the session part while the clock is UNSET. -/
def untimedSession : Session :=
  { phase := .untimed, current := none, next := none, gap := none, headline := none, time := .none, follow := [] }

/-- R44: the session part with a current entry. -/
def liveSession (rs : RoomSetup) (tt : List Entry) (t : Nat) (c : Entry) : Session :=
  { phase := if c.absEnd - t ≤ rs.closing then .closing else .live
    current := some c.tag
    next := (nextEntry tt t).map Entry.tag
    gap := none
    headline := some c
    time := if c.absEnd - t ≤ rs.closing then clampTime (c.absEnd - t) c.stop else clockField c.stop
    follow := followList tt c.absStart t rs.follow }

/-- R45: the session part with a next entry and no current one. -/
def aheadSession (rs : RoomSetup) (tt : List Entry) (t : Nat) (n : Entry) : Session :=
  let soon := !n.marks.cancelled && decide (n.absStart - t ≤ rs.lead)
  { phase := if soon then .soon else .between
    current := none
    next := some n.tag
    gap := some (n.absStart - t)
    headline := some n
    time := if soon then clampTime (n.absStart - t) n.start else clockField n.start
    follow := followList tt n.absStart t rs.follow }

/-- R46: the session part with neither. -/
def openSession : Session :=
  { phase := .opened, current := none, next := none, gap := none, headline := none, time := .none, follow := [] }

/-- R41 to R50. -/
def session (rs : RoomSetup) (tt : List Entry) (clock : Clock) : Session :=
  if clock.isSet then
    let t := clock.absolute
    match currentEntry tt t with
    | some c => liveSession rs tt t c
    | none =>
      match nextEntry tt t with
      | some n => aheadSession rs tt t n
      | none => openSession
  else untimedSession

/-! ### Notice overlay (R51 to R53) -/

/-- R51, R59: a notice targets a room. -/
def Notice.targets (n : Notice) (r : RoomId) : Bool :=
  match n.target with
  | .all => true
  | .rooms l => l.contains r

/-- The latest of a level, in posting order. -/
def latestOf (lvl : Level) (l : List Notice) : Option Notice := (l.filter (fun n => n.level == lvl)).getLast?

/-- R51: the shown notice: the latest of the highest level among those that target the room. -/
def shownNotice (notices : List Notice) (r : RoomId) : Option Notice :=
  let l := notices.filter (fun n => n.targets r)
  match latestOf .urgent l with
  | some n => some n
  | none =>
    match latestOf .direct l with
    | some n => some n
    | none => latestOf .info l

/-- R49, R53, R54: the board of a session with an INFO or DIRECT notice, or none, over it. -/
def sessionBoard (name : Option Text) (x : Session) (n : Option Notice) : BoardRecord :=
  { name := name
    phase := x.phase
    headline := x.headline.map Entry.title
    subline := x.headline.bind Entry.presenter
    time := x.time
    cancelled := x.headline.any (fun e => e.marks.cancelled)
    closedDoor := x.headline.any (fun e => e.marks.closedDoor)
    follow := x.follow
    notice := n.map (fun n => (n.level, n.text)) }

/-- R52: the board under an URGENT notice. -/
def noticeBoard (name : Option Text) (n : Notice) : BoardRecord :=
  { name := name, phase := .notice, headline := none, subline := none, time := .none, cancelled := false
    closedDoor := false, follow := [], notice := some (n.level, n.text) }

/-- R51 to R54: the board record of a room. -/
def overlay (name : Option Text) (x : Session) (n : Option Notice) : BoardRecord :=
  match n with
  | none => sessionBoard name x none
  | some n => if n.level = .urgent then noticeBoard name n else sessionBoard name x (some n)

/-- R36, R38, R55: what an evaluation of an enabled room writes. -/
def evaluation (rs : RoomSetup) (tt : List Entry) (n : Option Notice) (clock : Clock) : EvalRecord :=
  let x := session rs tt clock
  let b := overlay rs.name x n
  { phase := b.phase
    current := x.current
    next := x.next
    gap := x.gap
    shown := n.map (fun n => (n.id, n.level))
    board := b
    plateDigests := some (formDigests .plate b)
    boardDigests := some (formDigests .board b) }

/-! ### Evaluating rooms -/

/-- R54: the digests a role is handed. -/
def EvalRecord.digests (e : EvalRecord) (role : Role) : Option Digests :=
  match role with
  | .plate => e.plateDigests
  | .board => e.boardDigests

/-- R56: the full digest of a form changed; none never equals a computed digest (R36). -/
def formChanged (old new : EvalRecord) (role : Role) : Bool :=
  (old.digests role).map Digests.full != (new.digests role).map Digests.full

/-- R56, R38: the mapped signs of a room are handed in ascending number, those of a changed form, or all when forced. -/
def State.handRoom (s : State) (r : RoomId) (old new : EvalRecord) (o : Origin) (forced : Bool) : State :=
  allSigns.foldl (fun s i =>
    match s.mapping i with
    | none => s
    | some m =>
      if m.room = r ∧ (forced || formChanged old new m.role) = true then s.hand i (new.digests m.role) o forced
      else s) s

/-- R38: one room is evaluated; a disabled one is not, and takes the disabled form in a forced evaluation (R39, R40). -/
def State.evaluateRoom (s : State) (r : RoomId) (o : Origin) (forced : Bool) : State :=
  if (s.roomSetup r).enabled then
    let old := s.eval r
    let new := evaluation (s.roomSetup r) (s.timetable r) (shownNotice s.notices r) s.clock
    let s1 := (s.setEval r new).handRoom r old new o forced
    if roomWakes s1.setup.quiet new then s1.wakeCause else s1
  else if forced then s.setEval r .disabled
  else s

/-- R37, R38: the rooms an event names are evaluated once each, in ascending number. -/
def State.evaluateRooms (s : State) (p : RoomId → Bool) (o : Origin) : State :=
  allRooms.foldl (fun s r => if p r then s.evaluateRoom r o false else s) s

/-- R37: every enabled room is evaluated. -/
def State.evaluateAll (s : State) (o : Origin) : State := s.evaluateRooms (fun _ => true) o

/-- R39: the forced evaluation of every room, with SETUP as origin. -/
def State.forcedEvaluation (s : State) : State :=
  allRooms.foldl (fun s r => s.evaluateRoom r .setup true) s

end Sys2Proof.Machine
end

