-- ==== Sys2Proof/Machine/Operands.lean ====
section
/-! DEFINITION. Operand forms: the numbers of a request as rooms, signs, lines, positions and enumerated values, the
range checks of each request, and the clamps (the checks of the chapters' tables; R184 for the codes). -/

namespace Sys2Proof.Machine

/-- Room 0 to 63. -/
def room? (n : Nat) : Option RoomId := if h : n < 64 then some ⟨n, h⟩ else none

/-- Sign 0 to 95. -/
def sign? (n : Nat) : Option SignId := if h : n < 96 then some ⟨n, h⟩ else none

/-- Line 0 to 5. -/
def line? (n : Nat) : Option LineId := if h : n < 6 then some ⟨n, h⟩ else none

/-- Position 0 to 15. -/
def position? (n : Nat) : Option Position := if h : n < 16 then some ⟨n, h⟩ else none

/-- Port 0 to 2. -/
def port? : Nat → Option Port
  | 0 => some .mp0
  | 1 => some .mp1
  | 2 => some .mp2
  | _ => none

/-- A yes-or-no byte (R184). -/
def yesNo? : Nat → Option Bool
  | 0 => some false
  | 1 => some true
  | _ => none

def level? : Nat → Option Level
  | 0 => some .info
  | 1 => some .direct
  | 2 => some .urgent
  | _ => none

def role? : Nat → Option Role
  | 0 => some .plate
  | 1 => some .board
  | _ => none

def class? : Nat → Option SignClass
  | 0 => some .small
  | 1 => some .medium
  | 2 => some .large
  | _ => none

def mode? : Nat → Option FaultMode
  | 0 => some .latch
  | 1 => some .retry
  | 2 => some .report
  | 3 => some .ignore
  | _ => none

def grouping? : Nat → Option Grouping
  | 0 => some .separate
  | 1 => some .paired
  | _ => none

/-- R106, R107: the card of a pattern, composed with the cabinet address in force. -/
def card? (address : Nat) : Nat → Option TestCard
  | 0 => some .white
  | 1 => some .black
  | 2 => some .checker
  | 3 => some (.ident address)
  | _ => none

/-- R107: whether two cards are of the same pattern. -/
def samePattern (a b : TestCard) : Bool := patternCode (some a) == patternCode (some b)

/-- A room number of an enabled room, as check 1 of R12 and its like ask. -/
def State.enabledRoom? (s : State) (n : Nat) : Option RoomId :=
  match room? n with
  | none => none
  | some r => if (s.roomSetup r).enabled then some r else none

/-- A list of numbers as rooms, none when one is above 63 or disabled (R62, R76). -/
def State.enabledRooms? (s : State) : List Nat → Option (List RoomId)
  | [] => some []
  | n :: l =>
    match s.enabledRoom? n, s.enabledRooms? l with
    | some r, some rs => some (r :: rs)
    | _, _ => none

/-- A list of numbers as signs, none when one is above 95 (R107). -/
def signs? : List Nat → Option (List SignId)
  | [] => some []
  | n :: l =>
    match sign? n, signs? l with
    | some i, some is => some (i :: is)
    | _, _ => none

/-- R33: day 0 to 15, minute 0 to 1439, second 0 to 59. -/
def clockInRange (day minute second : Nat) : Bool :=
  decide (day ≤ 15) && decide (minute ≤ 1439) && decide (second ≤ 59)

/-- R12, check 3a. -/
def PutFields.timesOk (f : PutFields) : Bool :=
  decide (f.day ≤ 15) && decide (f.start ≤ 1439) && decide (f.start + 1 ≤ f.stop) && decide (f.stop ≤ 1440)

/-- R12, check 3b, with the supersede byte (R184, log 11). -/
def PutFields.valuesOk (f : PutFields) : Bool :=
  decide (1 ≤ f.tag) && decide (f.tag ≤ 65535) && decide (1 ≤ f.title.length) && decide (f.title.length ≤ 64)
    && decide (f.presenter.length ≤ 48) && (yesNo? f.supersede).isSome

/-- R15: the entry a put stores, with its origin. -/
def PutFields.entry (f : PutFields) (p : Port) : Entry :=
  { tag := f.tag, day := f.day, start := f.start, stop := f.stop, title := f.title
    presenter := if f.presenter.isEmpty then none else some f.presenter
    marks := f.marks, origin := p }

/-- R61, check 1, with the tied byte (R184, log 11). -/
def PostFields.valuesOk (f : PostFields) : Bool :=
  decide (1 ≤ f.id) && decide (f.id ≤ 255) && (level? f.level).isSome && decide (1 ≤ f.text.length)
    && decide (f.text.length ≤ 96) && decide (f.target.length ≤ 16) && (yesNo? f.tied).isSome

/-- R126, check 1, with the enabled byte (R184, log 11). -/
def LineFields.valuesOk (f : LineFields) : Bool :=
  (yesNo? f.enabled).isSome && [2, 4, 8, 16].contains f.refreshLimit && decide (f.interval ≤ 60)
    && [1, 2, 4, 8].contains f.filter && (grouping? f.grouping).isSome

/-- R126: the settings of a line, with the three delivery values clamped. -/
def LineFields.setup (f : LineFields) : LineSetup :=
  { enabled := f.enabled == 1
    capacity := max 8 f.capacity
    refill := min 31 f.refill
    limit := max 1 (min 4 f.limit)
    refreshLimit := f.refreshLimit
    interval := f.interval
    filter := f.filter }

/-- R126: whether a delivery value was clamped. -/
def LineFields.clamped (f : LineFields) : Bool :=
  decide (f.capacity < 8) || decide (31 < f.refill) || decide (f.limit < 1) || decide (4 < f.limit)

/-- R3: the setup fields of an enabled room, with L, C and F clamped. -/
def RoomFields.setup (f : RoomFields) : RoomSetup :=
  { enabled := f.enable == 1
    name := if f.enable == 1 then some f.name else none
    lead := min 240 f.lead
    closing := min 120 f.closing
    follow := min 3 f.follow }

/-- R3: whether L, C or F was clamped. -/
def RoomFields.clamped (f : RoomFields) : Bool :=
  decide (240 < f.lead) || decide (120 < f.closing) || decide (3 < f.follow)

/-- R146, steps 1 to 3: the thresholds after their clamps. -/
def clampQuiet (qEnter qExit : Nat) : Nat × Nat :=
  let en := max 30 (min 480 qEnter)
  let ex := max 10 (min 470 qExit)
  (en, if en ≤ ex then en - 1 else ex)

/-- R152: the modes and retry time of a request, none when one is out of range; TRIP's REPORT and IGNORE become RETRY. -/
def ModeFields.setup? (f : ModeFields) : Option FaultSetup :=
  match mode? f.noAnswer, mode? f.slow, mode? f.mismatch, mode? f.absent, mode? f.trip with
  | some a, some b, some c, some d, some t =>
    if [5, 15, 60, 300].contains f.retryTime then
      some { noAnswer := a, slow := b, mismatch := c, absent := d
             trip := if t = .latch then .latch else .retry, retryTime := f.retryTime }
    else none
  | _, _, _, _, _ => none

/-- R77: the idle time of a code, in ms. -/
def idleTime (code : Nat) : Nat :=
  match code with
  | 0 => 500
  | 1 => 1000
  | 2 => 2000
  | _ => 5000

/-- R170: the heartbeat interval of a code, in ms; none for OFF. -/
def heartbeatTime (code : Nat) : Option Nat :=
  match code with
  | 1 => some 1000
  | 2 => some 2000
  | 3 => some 5000
  | 4 => some 10000
  | _ => none

/-- R17: the marks after a MARK_ENTRY; a mark named in both is set. -/
def Marks.change (old setMarks clearMarks : Marks) : Marks :=
  { cancelled := (old.cancelled && !clearMarks.cancelled) || setMarks.cancelled
    hidden := (old.hidden && !clearMarks.hidden) || setMarks.hidden
    closedDoor := (old.closedDoor && !clearMarks.closedDoor) || setMarks.closedDoor }

end Sys2Proof.Machine
end

