-- ==== Sys2Proof/Machine/Requests.lean ====
section
/-! DEFINITION. The request path: what a port does with a complete packet, the judgement of its address, the port's own
checks, the reply, and the restarts of the heartbeat monitor and the batch idle timer (R77, R163 to R168, R172, R177). -/

namespace Sys2Proof.Machine

/-- The role a request needs (R169). -/
inductive Need where
  | none | timetable | timetableOrSetup | notice | setup
  deriving DecidableEq, Repr

/-- R169: whether a role set meets a need. -/
def Need.met (n : Need) (r : RoleSet) : Bool :=
  match n with
  | .none => true
  | .timetable => r.timetable
  | .timetableOrSetup => r.timetable || r.setup
  | .notice => r.notice
  | .setup => r.setup

/-- The outcome of a request at the block that owns its state: the state it leaves and what its reply carries. -/
structure Served where
  st : State
  status : Status
  clamped : Bool := false
  result : Result := .empty
  deriving DecidableEq, Repr

/-- A refusal leaves the state as it is and carries no result fields (R168). -/
def refuse (s : State) (st : Status) : Served := { st := s, status := st }

/-- An OK with its result fields. -/
def okWith (s : State) (r : Result) : Served := { st := s, status := .ok, result := r }

/-- R172, R77: taking a well-formed request addressed to this cabinet restarts the port's heartbeat monitor and, on the
holder's port, the batch idle timer with the code then in force. -/
def State.take (s : State) (p : Port) : State :=
  let s1 := s.updPort p (fun x => { x with monitor := .alive, heartbeat := heartbeatTime (s.portSetup p).interval })
  if s1.arb.holder = some p then
    { s1 with arb := { s1.arb with idle := some (idleTime s1.setup.arbiter.idleCode) } }
  else s1

/-- The port returns to HUNTING with an empty buffer (R163, R164). -/
def State.hunt (s : State) (p : Port) : State := s.updPort p (fun x => { x with reception := .hunting, buffer := [] })

/-- R164, R166: the discard counter increases by 1, saturating at 65535. -/
def State.discard (s : State) (p : Port) : State :=
  s.updPort p (fun x => { x with discards := min 65535 (x.discards + 1) })

/-- R163: a port takes a packet while it is HUNTING or RECEIVING; bytes that arrive in SKIPPING or ANSWERING are lost. -/
def State.hears (s : State) (p : Port) : Bool :=
  s.run == .running && ((s.port p).reception == .hunting || (s.port p).reception == .receiving)

/-- R177: the store is SAVING or LOADING. -/
def State.storeBusy (s : State) : Bool :=
  match s.store with
  | .saving _ => true
  | .loading _ => true
  | _ => false

/-- R24, R168: the reply to a request, with the pressure level after the request's own effect. -/
def Served.reply (v : Served) (cabinet code : Nat) : Reply :=
  { cabinet := cabinet, code := code, status := v.status, low := v.st.pressure == .low, clamped := v.clamped
    result := v.result }

/-- R163, R167: the port answers: ANSWERING, with the reply being sent. -/
def State.answer (s : State) (p : Port) (code : Nat) (v : Served) : State :=
  v.st.updPort p (fun x => { x with reception := .answering, buffer := [], reply := some (v.reply s.address code) })

/-- R167, R177: the port's own checks of a direct request, in order, and then BUSY for a setup request while the store
saves or loads. -/
def State.portCheck (s : State) (h : Header) (need : Need) : Option Status :=
  if !h.bodyFits then some .badLength
  else if !need.met (s.portSetup h.port).roles then some .denied
  else if need == .setup && s.storeBusy then some .busy
  else none

/-- R167: a direct request: taken, checked at the port, handed to the block, answered. -/
def State.direct (s : State) (h : Header) (code : Nat) (need : Need) (serve : State → Served) : State :=
  let s1 := s.take h.port
  s1.answer h.port code
    (match s1.portCheck h need with
     | some st => refuse s1 st
     | none => serve s1)

/-- R166: a broadcast: taken, then carried out by cast, or dropped and counted where cast gives none. -/
def State.broadcast (s : State) (h : Header) (cast : State → Option State) : State :=
  let s1 := (s.take h.port).hunt h.port
  match (if h.bodyFits then cast s1 else none) with
  | some s2 => s2
  | none => s1.discard h.port

/-- R164, outcomes 2 to 5: a complete packet is judged by its cabinet. -/
def State.request (s : State) (h : Header) (code : Nat) (need : Need) (cast : State → Option State)
    (serve : State → Served) : State :=
  if !s.hears h.port then s
  else if h.cabinet = Config.broadcastCabinet then s.broadcast h cast
  else if h.cabinet = s.address then s.direct h code need serve
  else s.hunt h.port

/-- R166: a request that is not accepted as a broadcast. -/
def noCast : State → Option State := fun _ => none

end Sys2Proof.Machine
end

