-- ==== Sys2Proof/Machine/Timetable.lean ====
section
/-! DEFINITION. The timetable requests (01_rooms_and_the_timetable.md) and the operations they share with a batch commit:
the checks and effects of a put, a drop, a mark change and a day clear on one room's timetable. -/

namespace Sys2Proof.Machine

/-! ### Shared with the batch commit -/

/-- R10: two intervals overlap when each starts before the other ends. -/
def Entry.overlaps (a b : Entry) : Bool := decide (a.absStart < b.absEnd) && decide (b.absStart < a.absEnd)

/-- R8: by absolute start, then by tag. -/
def Entry.before (a b : Entry) : Bool :=
  decide (a.absStart < b.absStart) || (decide (a.absStart = b.absStart) && decide (a.tag < b.tag))

/-- R8: an entry is placed where the order puts it. -/
def insertEntry (e : Entry) : List Entry → List Entry
  | [] => [e]
  | x :: l => if x.before e then x :: insertEntry e l else e :: x :: l

/-- The entry of a tag in a timetable. -/
def entryOf (tt : List Entry) (tag : Nat) : Option Entry := tt.find? (fun e => e.tag == tag)

/-- R10, R13: an entry of the room stands in the way of e: neither is CANCELLED, it has another tag, and they overlap. -/
def Entry.clashes (e x : Entry) : Bool :=
  !e.marks.cancelled && !x.marks.cancelled && x.tag != e.tag && x.overlaps e

/-- R13: the overlapped entries of a put; a put that is itself CANCELLED skips the check. -/
def putOverlaps (tt : List Entry) (e : Entry) : List Entry := tt.filter e.clashes

/-- R12, check 4: the day is below a SET clock's day. -/
def State.isPast (s : State) (day : Nat) : Bool := s.clock.isSet && decide (day < s.clock.day)

/-- R12, checks 4 to 6b, in order; none when the put passes. -/
def State.putCheck (s : State) (r : RoomId) (e : Entry) (supersede : Bool) : Option Status :=
  let tt := s.timetable r
  let hits := putOverlaps tt e
  if s.isPast e.day then some .past
  else if !hits.isEmpty && !supersede then some .overlap
  else if (entryOf tt e.tag).isNone && decide (s.freeEntries + hits.length = 0) then some .poolFull
  else if s.freeCells + (match entryOf tt e.tag with
      | some x => x.cells
      | none => 0) + entriesCells hits < e.cells then some .textFull
  else none

/-- R15, steps 1 to 5: the superseded entries and the entry of the put's tag go, and the entry is placed. -/
def putTimetable (tt : List Entry) (e : Entry) : List Entry :=
  insertEntry e (tt.filter (fun x => x.tag != e.tag && !e.clashes x))

/-- R17: the un-cancelling overlap check fails. -/
def markOverlaps (tt : List Entry) (e : Entry) (new : Marks) : Bool :=
  e.marks.cancelled && !new.cancelled && tt.any (Entry.clashes { e with marks := new })

/-- R17, R18: the new marks and, when they differ, the origin. -/
def markTimetable (tt : List Entry) (tag : Nat) (new : Marks) (p : Port) : List Entry :=
  tt.map (fun e => if e.tag == tag && e.marks != new then { e with marks := new, origin := p } else e)

/-- R16: the entry of a tag goes. -/
def dropTimetable (tt : List Entry) (tag : Nat) : List Entry := tt.filter (fun e => e.tag != tag)

/-- R19: the entries of a day go. -/
def clearTimetable (tt : List Entry) (day : Nat) : List Entry := tt.filter (fun e => e.day != day)

/-- R20: a purge for a day: every entry of an earlier day goes, from every room. -/
def State.purgeEntries (s : State) (d : Nat) : State :=
  { s with timetables := s.timetables.map (fun tt => tt.filter (fun e => decide (d ≤ e.day))) }

/-- R20: the purge, with the pressure level re-evaluated once. Its evaluations are the caller's (R30, R34). -/
def State.purge (s : State) (d : Nat) : State := (s.purgeEntries d).repress

/-! ### The requests -/

/-- R12 to R15. -/
def servePut (p : Port) (room : Nat) (f : PutFields) (s : State) : Served :=
  match s.enabledRoom? room with
  | none => refuse s .noRoom
  | some r =>
    if s.isHeld r then refuse s .held
    else if !PutFields.timesOk f then refuse s .badTime
    else if !PutFields.valuesOk f then refuse s .badValue
    else
      let e := PutFields.entry f p
      match s.putCheck r e (f.supersede == 1) with
      | some st => refuse s st
      | none =>
        okWith (((s.setTimetable r (putTimetable (s.timetable r) e)).repress).evaluateRoom r (.port p) false)
          (.put (entryOf (s.timetable r) e.tag).isSome (putOverlaps (s.timetable r) e).length)

/-- R16. -/
def serveDrop (p : Port) (room tag : Nat) (s : State) : Served :=
  match s.enabledRoom? room with
  | none => refuse s .noRoom
  | some r =>
    if s.isHeld r then refuse s .held
    else if (entryOf (s.timetable r) tag).isNone then refuse s .noEntry
    else
      okWith (((s.setTimetable r (dropTimetable (s.timetable r) tag)).repress).evaluateRoom r (.port p) false) .empty

/-- R17, R18. -/
def serveMark (p : Port) (room tag : Nat) (setMarks clearMarks : Marks) (s : State) : Served :=
  match s.enabledRoom? room with
  | none => refuse s .noRoom
  | some r =>
    if s.isHeld r then refuse s .held
    else
      match entryOf (s.timetable r) tag with
      | none => refuse s .noEntry
      | some e =>
        let new := Marks.change e.marks setMarks clearMarks
        if markOverlaps (s.timetable r) e new then refuse s .overlap
        else if e.marks = new then okWith s (.marks new)
        else
          okWith ((s.setTimetable r (markTimetable (s.timetable r) tag new p)).evaluateRoom r (.port p) false)
            (.marks new)

/-- R19. -/
def serveClearDay (p : Port) (room day : Nat) (s : State) : Served :=
  match s.enabledRoom? room with
  | none => refuse s .noRoom
  | some r =>
    if s.isHeld r then refuse s .held
    else if 15 < day then refuse s .badTime
    else
      let gone := ((s.timetable r).filter (fun e => e.day == day)).length
      if gone = 0 then okWith s (.count 0)
      else
        okWith (((s.setTimetable r (clearTimetable (s.timetable r) day)).repress).evaluateRoom r (.port p) false)
          (.count gone)

/-- PUT_ENTRY (R12). -/
def execPutEntry (h : Header) (room : Nat) (f : PutFields) (s : State) : Host.Outcome State Fault Refusal :=
  .next (s.request h 0x10 .timetable noCast (servePut h.port room f))

/-- DROP_ENTRY (R16). -/
def execDropEntry (h : Header) (room tag : Nat) (s : State) : Host.Outcome State Fault Refusal :=
  .next (s.request h 0x11 .timetable noCast (serveDrop h.port room tag))

/-- MARK_ENTRY (R17). -/
def execMarkEntry (h : Header) (room tag : Nat) (setMarks clearMarks : Marks) (s : State) :
    Host.Outcome State Fault Refusal :=
  .next (s.request h 0x12 .timetable noCast (serveMark h.port room tag setMarks clearMarks))

/-- CLEAR_DAY (R19). -/
def execClearDay (h : Header) (room day : Nat) (s : State) : Host.Outcome State Fault Refusal :=
  .next (s.request h 0x13 .timetable noCast (serveClearDay h.port room day))

end Sys2Proof.Machine
end

