-- ==== Sys2Proof/Machine/Notices.lean ====
section
/-! DEFINITION. The notice table: posting, withdrawal, expiry and removal on a heartbeat lapse (04_hall_notices.md). -/

namespace Sys2Proof.Machine

/-- The record of an id. -/
def State.noticeOf (s : State) (id : Nat) : Option Notice := s.notices.find? (fun n => n.id == id)

/-- R61, checks 1 to 7, in order: the refusal, or the target of the post. -/
def State.postCheck (s : State) (f : PostFields) : Except Status Target :=
  if !PostFields.valuesOk f then .error .badValue
  else
    match s.enabledRooms? f.target with
    | none => .error .noRoom
    | some rooms =>
      if !decide rooms.Nodup then .error .badValue
      else if f.expiry ≠ 0 ∧ !s.clock.isSet then .error .untimed
      else if f.expiry ≠ 0 ∧ (f.expiry ≤ s.clock.absolute ∨ 23039 < f.expiry) then .error .badTime
      else if (s.noticeOf f.id).isNone ∧ Config.noticePlaces ≤ s.notices.length then .error .tableFull
      else if s.freeCells + (match s.noticeOf f.id with
          | some n => textCellsOf n.text
          | none => 0) < textCellsOf f.text then .error .textFull
      else .ok (if f.target.isEmpty then .all else .rooms rooms)

/-- R65, R66: the record a post stores. -/
def PostFields.notice (f : PostFields) (t : Target) (tied : Bool) (p : Port) (broadcast : Bool) : Notice :=
  { id := f.id, level := (level? f.level).getD .info, target := t, text := f.text
    expiry := if f.expiry = 0 then none else some f.expiry, tied := tied, origin := p, broadcast := broadcast }

/-- R58: the record of an id goes, and the rest keep their order. -/
def State.withoutNotice (s : State) (id : Nat) : List Notice := s.notices.filter (fun n => n.id != id)

/-- R60, R65, R66: a checked notice is stored at the end of the posting order: pressure, evaluation of the rooms it and
any record it replaces target, and the wake cause of a posted notice. -/
def State.storeNotice (s : State) (n : Notice) (o : Origin) : State :=
  let old := s.noticeOf n.id
  let s1 := ({ s with notices := s.withoutNotice n.id ++ [n] }).repress
  (s1.evaluateRooms (fun r => n.targets r || old.any (fun x => x.targets r)) o).wakeCause

/-- R60: records that keep does not keep are removed in one operation, with the evaluation of their targets. -/
def State.removeNotices (s : State) (gone : Notice → Bool) (o : Origin) : State :=
  let out := s.notices.filter gone
  let s1 := ({ s with notices := s.notices.filter (fun n => !gone n) }).repress
  s1.evaluateRooms (fun r => out.any (fun n => n.targets r)) o

/-- R69: every notice whose expiry is at or below t goes in one operation; the evaluation is the boundary's own. -/
def State.expireNotices (s : State) (t : Nat) : State :=
  ({ s with notices := s.notices.filter (fun n => !n.expiry.any (fun e => decide (e ≤ t))) }).repress

/-- R61, R65, R66: a direct post. -/
def servePost (p : Port) (f : PostFields) (s : State) : Served :=
  match s.postCheck f with
  | .error st => refuse s st
  | .ok t =>
    let s1 := s.storeNotice (PostFields.notice f t (f.tied == 1) p false) (.port p)
    okWith s1 (.posted (s.noticeOf f.id).isSome s1.notices.length)

/-- R67: a broadcast post: dropped for a room list, a missing role or a failed check, else stored untied with SETUP as
the origin of its evaluation. -/
def castPost (p : Port) (f : PostFields) (s : State) : Option State :=
  if !(Need.notice).met (s.portSetup p).roles then none
  else if !f.target.isEmpty then none
  else
    match s.postCheck f with
    | .error _ => none
    | .ok t => some (s.storeNotice (PostFields.notice f t false p true) .setup)

/-- R68: a direct withdrawal. -/
def serveWithdraw (p : Port) (id : Nat) (s : State) : Served :=
  if (s.noticeOf id).isNone ∨ id = 0 then refuse s .noNotice
  else
    let s1 := s.removeNotices (fun n => n.id == id) (.port p)
    okWith s1 (.smallCount s1.notices.length)

/-- R68: a broadcast withdrawal: taken with no effect where the id is not in the table. -/
def castWithdraw (p : Port) (id : Nat) (s : State) : Option State :=
  if !(Need.notice).met (s.portSetup p).roles then none
  else if (s.noticeOf id).isNone then some s
  else some (s.removeNotices (fun n => n.id == id) .setup)

/-- R70: the tied notices of a lapsed port go. -/
def State.lapseNotices (s : State) (p : Port) : State :=
  if s.notices.any (fun n => n.tied && n.origin == p) then
    s.removeNotices (fun n => n.tied && n.origin == p) .setup
  else s

/-- POST_NOTICE (R61). -/
def execPostNotice (h : Header) (f : PostFields) (s : State) : Host.Outcome State Fault Refusal :=
  .next (s.request h 0x20 .notice (castPost h.port f) (servePost h.port f))

/-- WITHDRAW_NOTICE (R68). -/
def execWithdrawNotice (h : Header) (id : Nat) (s : State) : Host.Outcome State Fault Refusal :=
  .next (s.request h 0x21 .notice (castWithdraw h.port id) (serveWithdraw h.port id))

end Sys2Proof.Machine
end

