-- ==== Sys2Proof/Machine/ClockEvents.lean ====
section
/-! DEFINITION. The clock: SET_CLOCK and the second, minute and day boundaries (02_the_clock.md), with the refill of the
budgets (R118) and the countdown of the retry waits (R155, R159) that a second boundary brings. -/

namespace Sys2Proof.Machine

/-! ### The parts of a second boundary -/

/-- R118: the budget becomes b plus the refill, or the capacity, whichever is smaller. -/
def refillBudget (c : LineSetup) (b : Int) : Int := min (b + c.refill) c.capacity

/-- R28, R118: every line's budget is refilled, in every line state. -/
def State.refill (s : State) : State :=
  allLines.foldl (fun s l => s.updLine l (fun ln => { ln with budget := refillBudget (s.lineSetup l) ln.budget })) s

/-- R155: one second boundary of a sign's retry timer; the last one ends the wait. -/
def State.tickSign (s : State) (i : SignId) : State :=
  match (s.sign i).retry with
  | .running n => if n ≤ 1 then s.endRetry i else s.updSign i (fun g => { g with retry := .running (n - 1) })
  | _ => s

/-- R159: one second boundary of a line's hold; the last one restores the line. -/
def State.tickLine (s : State) (l : LineId) : State :=
  match (s.line l).hold with
  | .waiting n => if n ≤ 1 then s.restoreLine l else s.updLine l (fun ln => { ln with hold := .waiting (n - 1) })
  | _ => s

/-- R28: the retry waits count down, signs in ascending number (R155), then lines. -/
def State.tickWaits (s : State) : State :=
  allLines.foldl State.tickLine (allSigns.foldl State.tickSign s)

/-- R29: a minute boundary's work, with t the new absolute minute: expiry, evaluation of every enabled room, the quiet
entry check. -/
def State.minuteWork (s : State) : State :=
  (((s.expireNotices s.clock.absolute).evaluateAll .clock)).entryCheck

/-- R31: the end of day 15: UNSET, CLOCK attention, evaluation of every enabled room, a wake cause. -/
def State.endOfDays (s : State) : State :=
  ((({ s with clock := .unset }).raiseAll .clock).evaluateAll .clock).wakeCause

/-- R28 to R31: the clock's own part of a second boundary. -/
def State.advanceClock (s : State) : State :=
  let c := s.clock
  if !c.isSet then s
  else if c.second < 59 then { s with clock := { c with second := c.second + 1 } }
  else if c.minute < 1439 then ({ s with clock := { c with minute := c.minute + 1, second := 0 } }).minuteWork
  else if c.day < 15 then
    (({ s with clock := { c with day := c.day + 1, minute := 0, second := 0 } }).purge (c.day + 1)).minuteWork
  else s.endOfDays

/-- R28: a second boundary, whole: the clock with whatever boundary it brings, the refill, the retry waits (log 8). -/
def State.boundary (s : State) : State := (s.advanceClock).refill.tickWaits

/-- R29: the second boundary now falling is a minute boundary that is no day boundary. -/
def Clock.atMinute (c : Clock) : Bool := c.isSet && decide (59 ≤ c.second) && decide (c.minute < 1439)

/-- R30: the second boundary now falling is a day boundary. -/
def Clock.atDay (c : Clock) : Bool :=
  c.isSet && decide (59 ≤ c.second) && decide (1439 ≤ c.minute) && decide (c.day < 15)

/-- R31: the second boundary now falling is the day boundary out of day 15. -/
def Clock.atEnd (c : Clock) : Bool :=
  c.isSet && decide (59 ≤ c.second) && decide (1439 ≤ c.minute) && decide (15 ≤ c.day)

/-- The hub is running (R181): an event that needs it has no effect otherwise (log 3). -/
def State.whenRunning (s : State) (f : State → State) : State := if s.run = .running then f s else s

/-! ### SET_CLOCK -/

/-- R34, steps 1 to 5: a valid SET_CLOCK; the number of entries purged is the second part. -/
def State.jump (s : State) (day minute second : Nat) : State × Nat :=
  let purges := !s.clock.isSet || decide (s.clock.day < day)
  let s1 := if purges then s.purge day else s
  let s2 := { s1 with clock := { isSet := true, day := day, minute := minute, second := second } }
  let s3 := ((s2.expireNotices s2.clock.absolute).evaluateAll .clock).lowerAll .clock
  (s3, s.usedEntries - s1.usedEntries)

/-- R33: a direct SET_CLOCK. -/
def serveClock (day minute second : Nat) (s : State) : Served :=
  if clockInRange day minute second then
    okWith (s.jump day minute second).1 (.count (s.jump day minute second).2)
  else refuse s .badTime

/-- R33: a broadcast SET_CLOCK, dropped when its role check or range check fails. -/
def castClock (p : Port) (day minute second : Nat) (s : State) : Option State :=
  if (Need.timetableOrSetup).met (s.portSetup p).roles && clockInRange day minute second then
    some (s.jump day minute second).1
  else none

/-- SET_CLOCK (R33, R34). -/
def execSetClock (h : Header) (day minute second : Nat) (s : State) : Host.Outcome State Fault Refusal :=
  .next (s.request h 0x14 .timetableOrSetup (castClock h.port day minute second) (serveClock day minute second))

/-! ### Boundaries -/

/-- SECOND_BOUNDARY (R28). -/
def execSecondBoundary (s : State) : Host.Outcome State Fault Refusal := .next (s.whenRunning State.boundary)

/-- MINUTE_BOUNDARY (R29): the second boundary now falling, when it is a minute boundary (log 6). -/
def execMinuteBoundary (s : State) : Host.Outcome State Fault Refusal :=
  .next (s.whenRunning (fun s => if s.clock.atMinute then s.boundary else s))

/-- DAY_BOUNDARY (R30): the second boundary now falling, when it is a day boundary (log 6). -/
def execDayBoundary (s : State) : Host.Outcome State Fault Refusal :=
  .next (s.whenRunning (fun s => if s.clock.atDay then s.boundary else s))

/-- DAY_BOUNDARY_OUT_OF_DAY_15 (R31): the second boundary now falling, when it ends day 15 (log 6). -/
def execDayBoundaryOutOfDay15 (s : State) : Host.Outcome State Fault Refusal :=
  .next (s.whenRunning (fun s => if s.clock.atEnd then s.boundary else s))

/-- RETRY_TIMER_EXPIRY (R155): the second boundary now falling is the last of the sign's retry timer (log 7). -/
def execRetryTimerExpiry (i : SignId) (s : State) : Host.Outcome State Fault Refusal :=
  .next (s.whenRunning (fun s => if (s.sign i).retry = .running 1 then s.endRetry i else s))

/-- LINE_RETRY_WAIT_EXPIRY (R159): the second boundary now falling is the last of the line's retry wait (log 7). -/
def execLineRetryWaitExpiry (l : LineId) (s : State) : Host.Outcome State Fault Refusal :=
  .next (s.whenRunning (fun s => if (s.line l).hold = .waiting 1 then s.restoreLine l else s))

end Sys2Proof.Machine
end

