-- ==== Sys2Proof/Machine/Batch.lean ====
section
/-! DEFINITION. The batch arbiter: opening, staging, committing on a trial copy, abandoning, withdrawal, and the choice
of the next holder (05_batch_changes_and_the_grant_arbiter.md). -/

namespace Sys2Proof.Machine

/-! ### The grant -/

/-- R80: the waiter chosen at a release: the first with fairness on, the lowest-numbered port with it off. -/
def chooseWaiter (fairness : Bool) (l : List Waiter) : Option Waiter :=
  if fairness then l.head?
  else
    match l.find? (fun w => w.port == .mp0) with
    | some w => some w
    | none =>
      match l.find? (fun w => w.port == .mp1) with
      | some w => some w
      | none => l.find? (fun w => w.port == .mp2)

/-- R76, R80: a port becomes holder of its rooms, with an empty staging list and the idle timer started. -/
def State.grant (s : State) (p : Port) (rooms : List RoomId) : State :=
  { s with arb := { s.arb with holder := some p, rooms := rooms, staging := []
                               idle := some (idleTime s.setup.arbiter.idleCode) } }

/-- R79, R80: the grant is released, and the next holder, if any port waits, is chosen and granted. -/
def State.release (s : State) : State :=
  match chooseWaiter s.setup.arbiter.fairness s.arb.waiters with
  | none => { s with arb := { s.arb with holder := none, rooms := [], staging := [], idle := none } }
  | some w =>
    (({ s with arb := { s.arb with waiters := s.arb.waiters.filter (fun x => x.port != w.port) } }).grant
      w.port w.rooms).raise w.port .grant

/-- R78: the grant is withdrawn from its holder. -/
def State.withdraw (s : State) : State :=
  match s.arb.holder with
  | none => s
  | some p =>
    (({ s with arb := { s.arb with withdrawals := min 255 (s.arb.withdrawals + 1) } }).raise p .withdraw).release

/-- R81: a heartbeat lapse at the arbiter. -/
def State.lapseGrant (s : State) (p : Port) : State :=
  if s.arb.holder = some p then s.withdraw
  else { s with arb := { s.arb with waiters := s.arb.waiters.filter (fun x => x.port != p) } }

/-! ### Staging -/

/-- R83: the staged text bytes of a record. -/
def Staged.textLength : Staged → Nat
  | .put _ f => f.title.length + f.presenter.length
  | _ => 0

/-- R83: the staged text bytes of a list. -/
def stagedBytes (l : List Staged) : Nat := (l.map Staged.textLength).sum

/-- R84, R85: a staging request, with its range checks as the refusal they give. -/
def stage (p : Port) (room : Nat) (range : Option Status) (make : RoomId → Staged) (s : State) : Served :=
  if s.arb.holder ≠ some p then refuse s .notHolder
  else
    match room? room with
    | none => refuse s .outOfBatch
    | some r =>
      if !s.arb.rooms.contains r then refuse s .outOfBatch
      else
        match range with
        | some st => refuse s st
        | none =>
          let l := s.arb.staging ++ [make r]
          if Config.stagePlaces < l.length ∨ Config.stageBytes < stagedBytes l then refuse s .stageFull
          else okWith { s with arb := { s.arb with staging := l } }
            (.staged s.arb.staging.length l.length (stagedBytes l))

/-- R84, checks 3a and 3b of STAGE_PUT. -/
def putRange (f : PutFields) : Option Status :=
  if !PutFields.timesOk f then some .badTime else if !PutFields.valuesOk f then some .badValue else none

/-- R84, check 3b of STAGE_DROP and STAGE_MARK. -/
def tagRange (tag : Nat) : Option Status := if 1 ≤ tag ∧ tag ≤ 65535 then none else some .badValue

/-- R84, check 3a of STAGE_CLEAR_DAY. -/
def dayRange (day : Nat) : Option Status := if day ≤ 15 then none else some .badTime

/-! ### The commit -/

/-- R86: the trial copy: a state whose batch timetables are the trial's, the entries that the commit itself stored, and
the number of other entries it removed (R89, log 22). -/
structure Trial where
  st : State
  stored : List (RoomId × Nat)
  removed : Nat
  deriving DecidableEq, Repr

/-- Entries leave the trial: those the commit stored are not counted (R89). -/
def Trial.remove (t : Trial) (r : RoomId) (gone : List Entry) : Trial :=
  { t with stored := t.stored.filter (fun x => !(x.1 == r && gone.any (fun e => e.tag == x.2)))
           removed := t.removed + gone.countP (fun e => !t.stored.contains (r, e.tag)) }

/-- R87, STAGE_PUT. -/
def Trial.put (t : Trial) (p : Port) (r : RoomId) (f : PutFields) : Except Status Trial :=
  if !(t.st.roomSetup r).enabled then .error .noRoom
  else
    let e := PutFields.entry f p
    let tt := t.st.timetable r
    match t.st.putCheck r e (f.supersede == 1) with
    | some st => .error st
    | none =>
      let t1 := t.remove r (putOverlaps tt e)
      .ok { t1 with st := t.st.setTimetable r (putTimetable tt e)
                    stored := if (entryOf tt e.tag).isNone then (r, e.tag) :: t1.stored else t1.stored }

/-- R87, STAGE_DROP. -/
def Trial.drop (t : Trial) (r : RoomId) (tag : Nat) : Except Status Trial :=
  if !(t.st.roomSetup r).enabled then .error .noRoom
  else
    let tt := t.st.timetable r
    if (entryOf tt tag).isNone then .error .noEntry
    else .ok { t.remove r (tt.filter (fun e => e.tag == tag)) with st := t.st.setTimetable r (dropTimetable tt tag) }

/-- R87, STAGE_MARK. -/
def Trial.mark (t : Trial) (p : Port) (r : RoomId) (tag : Nat) (setMarks clearMarks : Marks) : Except Status Trial :=
  if !(t.st.roomSetup r).enabled then .error .noRoom
  else
    let tt := t.st.timetable r
    match entryOf tt tag with
    | none => .error .noEntry
    | some e =>
      let new := Marks.change e.marks setMarks clearMarks
      if markOverlaps tt e new then .error .overlap
      else .ok { t with st := t.st.setTimetable r (markTimetable tt tag new p) }

/-- R87, STAGE_CLEAR_DAY. -/
def Trial.clearDay (t : Trial) (r : RoomId) (day : Nat) : Except Status Trial :=
  if !(t.st.roomSetup r).enabled then .error .noRoom
  else
    let tt := t.st.timetable r
    .ok { t.remove r (tt.filter (fun e => e.day == day)) with st := t.st.setTimetable r (clearTimetable tt day) }

/-- R87: one staged record. -/
def Trial.record (t : Trial) (p : Port) : Staged → Except Status Trial
  | .put r f => t.put p r f
  | .drop r tag => t.drop r tag
  | .mark r tag setMarks clearMarks => t.mark p r tag setMarks clearMarks
  | .clearDay r day => t.clearDay r day

/-- R86: the records one at a time from an index; the first failure ends the trial with its index and inner code. -/
def Trial.run (p : Port) (t : Trial) (index : Nat) : List Staged → Except (Nat × Status) Trial
  | [] => .ok t
  | x :: l =>
    match t.record p x with
    | .error st => .error (index, st)
    | .ok t1 => Trial.run p t1 (index + 1) l

/-- R86 to R89: a commit by its holder. -/
def serveCommit (p : Port) (s : State) : Served :=
  if s.arb.holder ≠ some p then refuse s .notHolder
  else
    match Trial.run p { st := s, stored := [], removed := 0 } 0 s.arb.staging with
    | .error (i, st) =>
      { st := { s with arb := { s.arb with staging := [], idle := some (idleTime s.setup.arbiter.idleCode) } }
        status := .commitFailed, result := .commitFailure i st }
    | .ok t =>
      let s1 := (t.st.repress).evaluateRooms (fun r => s.arb.rooms.contains r) (.port p)
      okWith s1.release (.committed s.arb.staging.length t.removed)

/-! ### The requests and the idle timer -/

/-- R76: OPEN_BATCH. -/
def serveOpen (p : Port) (rooms : List Nat) (s : State) : Served :=
  if s.arb.holder = some p ∨ s.arb.waiters.any (fun w => w.port == p) then refuse s .busy
  else if rooms.length = 0 ∨ 8 < rooms.length then refuse s .badValue
  else
    match s.enabledRooms? rooms with
    | none => refuse s .noRoom
    | some rs =>
      if !decide rs.Nodup then refuse s .badValue
      else if s.arb.holder.isNone then okWith (s.grant p rs) .empty
      else
        let l := s.arb.waiters ++ [{ port := p, rooms := rs }]
        { st := { s with arb := { s.arb with waiters := l } }, status := .queued, result := .queuedAt l.length }

/-- R90: ABANDON_BATCH. -/
def serveAbandon (p : Port) (s : State) : Served :=
  if s.arb.holder ≠ some p then refuse s .notHolder else okWith s.release .empty

/-- OPEN_BATCH (R76). -/
def execOpenBatch (h : Header) (rooms : List Nat) (s : State) : Host.Outcome State Fault Refusal :=
  .next (s.request h 0x18 .timetable noCast (serveOpen h.port rooms))

/-- STAGE_PUT (R84). -/
def execStagePut (h : Header) (room : Nat) (f : PutFields) (s : State) : Host.Outcome State Fault Refusal :=
  .next (s.request h 0x19 .timetable noCast (stage h.port room (putRange f) (fun r => .put r f)))

/-- STAGE_DROP (R84). -/
def execStageDrop (h : Header) (room tag : Nat) (s : State) : Host.Outcome State Fault Refusal :=
  .next (s.request h 0x1A .timetable noCast (stage h.port room (tagRange tag) (fun r => .drop r tag)))

/-- STAGE_MARK (R84). -/
def execStageMark (h : Header) (room tag : Nat) (setMarks clearMarks : Marks) (s : State) :
    Host.Outcome State Fault Refusal :=
  .next (s.request h 0x1B .timetable noCast
    (stage h.port room (tagRange tag) (fun r => .mark r tag setMarks clearMarks)))

/-- STAGE_CLEAR_DAY (R84). -/
def execStageClearDay (h : Header) (room day : Nat) (s : State) : Host.Outcome State Fault Refusal :=
  .next (s.request h 0x1C .timetable noCast (stage h.port room (dayRange day) (fun r => .clearDay r day)))

/-- COMMIT_BATCH (R86). -/
def execCommitBatch (h : Header) (s : State) : Host.Outcome State Fault Refusal :=
  .next (s.request h 0x1D .timetable noCast (serveCommit h.port))

/-- ABANDON_BATCH (R90). -/
def execAbandonBatch (h : Header) (s : State) : Host.Outcome State Fault Refusal :=
  .next (s.request h 0x1E .timetable noCast (serveAbandon h.port))

/-- R82: SET_ARBITER. -/
def serveArbiter (code fairness : Nat) (s : State) : Served :=
  match yesNo? fairness with
  | none => refuse s .badValue
  | some f =>
    { st := { s with setup := { s.setup with arbiter := { idleCode := min 3 code, fairness := f } } }
      status := .ok, clamped := decide (3 < code) }

/-- SET_ARBITER (R82). -/
def execSetArbiter (h : Header) (code fairness : Nat) (s : State) : Host.Outcome State Fault Refusal :=
  .next (s.request h 0x3A .setup noCast (serveArbiter code fairness))

/-- IDLE_TIMER_EXPIRY (R78): it runs only while a holder exists. -/
def execIdleTimerExpiry (s : State) : Host.Outcome State Fault Refusal :=
  .next (s.whenRunning (fun s => if s.arb.idle.isSome then s.withdraw else s))

end Sys2Proof.Machine
end

