-- ==== Sys2Proof/Machine/Signs.lean ====
section
/-! DEFINITION. SET_ROOM (R3, R4), MAP_SIGN (R101 to R103) and SET_TEST (R107, R108). -/

namespace Sys2Proof.Machine

/-! ### SET_ROOM -/

/-- R3, check 2: the room has entries or mapped signs, or is held. -/
def State.roomBusy (s : State) (r : RoomId) : Bool :=
  !(s.timetable r).isEmpty || allSigns.any (fun i => (s.mapping i).any (fun m => m.room == r)) || s.isHeld r

/-- R3, checks 2 to 4, in order, with the enable byte (log 11). -/
def State.roomCheck (s : State) (r : RoomId) (f : RoomFields) : Option Status :=
  match yesNo? f.enable with
  | none => some .badValue
  | some false => if s.roomBusy r then some .busy else none
  | some true =>
    if f.name.length < 1 ∨ 32 < f.name.length then some .badValue
    else if s.freeCells + optCellsOf (s.roomSetup r).name < textCellsOf f.name then some .textFull
    else none

/-- R4, R40: the fields are stored, the pressure level is re-evaluated, and the room is evaluated or takes the disabled
form. -/
def State.storeRoom (s : State) (r : RoomId) (f : RoomFields) : State :=
  let s1 := (s.setRoomSetup r (RoomFields.setup f)).repress
  if f.enable = 1 then s1.evaluateRoom r .setup false else s1.setEval r .disabled

/-- R3, R4. -/
def serveRoom (room : Nat) (f : RoomFields) (s : State) : Served :=
  match room? room with
  | none => refuse s .noRoom
  | some r =>
    match s.roomCheck r f with
    | some st => refuse s st
    | none => { st := s.storeRoom r f, status := .ok, clamped := RoomFields.clamped f }

/-- SET_ROOM (R3). -/
def execSetRoom (h : Header) (room : Nat) (f : RoomFields) (s : State) : Host.Outcome State Fault Refusal :=
  .next (s.request h 0x30 .setup noCast (serveRoom room f))

/-! ### MAP_SIGN -/

/-- R101, check 1: the sign and the mapping that the fields name, for a room. -/
def PlaceFields.mapping? (f : PlaceFields) (r : RoomId) : Option Mapping :=
  match line? f.line, position? f.position, role? f.role, class? f.cls with
  | some l, some pos, some role, some cls => some { line := l, position := pos, room := r, role := role, cls := cls }
  | _, _, _, _ => none

/-- R101, check 3: another mapped sign stands at the line and position. -/
def State.placeTaken (s : State) (i : SignId) (l : LineId) (pos : Position) : Bool :=
  allSigns.any (fun j => j != i && (s.mapping j).any (fun m => m.line == l && m.position == pos))

/-- R101, check 4: the sign has a job in state SENDING or REFRESHING. -/
def State.signBusy (s : State) (i : SignId) : Bool := (s.jobOf i).any Job.inFlight

/-- R101: the checks of a map, in order. -/
def State.mapCheck (s : State) (sign : Nat) (f : PlaceFields) : Except Status (SignId × Mapping) :=
  match sign? sign, PlaceFields.mapping? f 0 with
  | some i, some m =>
    match s.enabledRoom? f.room with
    | none => .error .noRoom
    | some r =>
      if s.placeTaken i m.line m.position then .error .inUse
      else if s.signBusy i then .error .busy
      else .ok (i, { m with room := r })
  | _, _ => .error .badValue

/-- R102 step 1, R103: a sign is taken off its line, with its READY job and its place in the dirty queue. -/
def State.takeOff (s : State) (i : SignId) : State :=
  match s.mapping i with
  | none => s
  | some m => s.updLine m.line (fun ln => (ln.dropJob i).leave i)

/-- R102, steps 3 and 4: what a new place does to the sign record. Last fault kind is kept. -/
def SignRecord.replaced (g : SignRecord) : SignRecord :=
  { g with link := .unknown, reported := none, fault := .none, failures := 0, retry := .stopped, pendingAbsent := none }

/-- R103: the record of a sign that is unmapped. Last fault kind is kept. -/
def SignRecord.unmapped (g : SignRecord) : SignRecord :=
  { g.replaced with test := none, wanted := none, delivered := none, origin := .setup }

/-- R102, steps 5 to 7: delivered unknown, wanted from the room's last evaluation unless in test, Origin SETUP. -/
def SignRecord.mapped (g : SignRecord) (d : Option Digests) : SignRecord :=
  { g.replaced with delivered := none, wanted := if g.test.isSome then g.wanted else d, origin := .setup }

/-- R102, R142, R149: a map that passes its checks. The position leaves the extras list, and what a running roll call has
gathered for it (log 32). -/
def State.mapSign (s : State) (i : SignId) (m : Mapping) : State :=
  (((s.takeOff i).setMapping i (some m)).updSign i
    (fun g => g.mapped ((s.eval m.room).digests m.role))).updLine m.line
    (fun ln => (ln.unlist (fun p => p == m.position)).join i)

/-- R103: an unmap that passes its checks. -/
def State.unmapSign (s : State) (i : SignId) : State :=
  match s.mapping i with
  | none => s
  | some _ => ((s.takeOff i).setMapping i none).updSign i SignRecord.unmapped

/-- R101, R102. -/
def serveMap (sign : Nat) (f : PlaceFields) (s : State) : Served :=
  match s.mapCheck sign f with
  | .error st => refuse s st
  | .ok x => okWith (s.mapSign x.1 x.2) .empty

/-- R101, R103. -/
def serveUnmap (sign : Nat) (s : State) : Served :=
  match sign? sign with
  | none => refuse s .badValue
  | some i => if s.signBusy i then refuse s .busy else okWith (s.unmapSign i) .empty

/-- MAP_SIGN, the form that maps (R101, R102). -/
def execMapSign (h : Header) (sign : Nat) (f : PlaceFields) (s : State) : Host.Outcome State Fault Refusal :=
  .next (s.request h 0x31 .setup noCast (serveMap sign f))

/-- MAP_SIGN with unmap (R101, R103). -/
def execMapSignUnmap (h : Header) (sign : Nat) (s : State) : Host.Outcome State Fault Refusal :=
  .next (s.request h 0x31 .setup noCast (serveUnmap sign))

/-! ### SET_TEST -/

/-- R107: a SET_TEST in progress: the state and the four counts. -/
structure TestRun where
  st : State
  applied : Nat
  unchanged : Nat
  latched : Nat
  unmapped : Nat
  deriving DecidableEq, Repr

/-- R107, R108: a sign takes a card, or none, with its wanted digests and SETUP as origin, and is settled. -/
def State.testSign (s : State) (i : SignId) (card : Option TestCard) (wanted : Option Digests) : State :=
  (s.updSign i (fun g => { g with test := card, wanted := wanted, origin := .setup })).settleSign i

/-- R107: one sign of a SET_TEST with a pattern. -/
def TestRun.card (t : TestRun) (c : TestCard) (i : SignId) : TestRun :=
  match t.st.mapping i with
  | none => { t with unmapped := t.unmapped + 1 }
  | some _ =>
    if (t.st.sign i).fault = .latched then { t with latched := t.latched + 1 }
    else if (t.st.sign i).test.any (samePattern c) then { t with unchanged := t.unchanged + 1 }
    else { t with st := t.st.testSign i (some c) (some (cardDigests c i)), applied := t.applied + 1 }

/-- R108: one sign of a SET_TEST with OFF. -/
def TestRun.off (t : TestRun) (i : SignId) : TestRun :=
  match t.st.mapping i with
  | none => { t with unmapped := t.unmapped + 1 }
  | some m =>
    if (t.st.sign i).test.isNone then { t with unchanged := t.unchanged + 1 }
    else { t with st := t.st.testSign i none ((t.st.eval m.room).digests m.role), applied := t.applied + 1 }

/-- R107: no sign treated yet. -/
def TestRun.start (s : State) : TestRun := { st := s, applied := 0, unchanged := 0, latched := 0, unmapped := 0 }

/-- R107: the reply carries the four counts. -/
def TestRun.served (t : TestRun) : Served := okWith t.st (.tested t.applied t.unchanged t.latched t.unmapped)

/-- R107, checks 1 and 2: 1 to 96 signs, each 0 to 95, none twice. -/
def testList? (l : List Nat) : Option (List SignId) :=
  match signs? l with
  | none => none
  | some is => if is.isEmpty || decide (96 < is.length) || !decide is.Nodup then none else some is

/-- R107. -/
def serveTest (signs : List Nat) (pattern : Nat) (s : State) : Served :=
  match testList? signs, card? s.address pattern with
  | some is, some c => (is.foldl (fun t i => t.card c i) (TestRun.start s)).served
  | _, _ => refuse s .badValue

/-- R107, R108. -/
def serveTestOff (signs : List Nat) (s : State) : Served :=
  match testList? signs with
  | some is => (is.foldl TestRun.off (TestRun.start s)).served
  | none => refuse s .badValue

/-- SET_TEST with a pattern (R107). -/
def execSetTest (h : Header) (signs : List Nat) (pattern : Nat) (s : State) : Host.Outcome State Fault Refusal :=
  .next (s.request h 0x32 .setup noCast (serveTest signs pattern))

/-- SET_TEST with OFF (R108). -/
def execSetTestOff (h : Header) (signs : List Nat) (s : State) : Host.Outcome State Fault Refusal :=
  .next (s.request h 0x32 .setup noCast (serveTestOff signs))

end Sys2Proof.Machine
end

