-- ==== Sys2Proof/Machine/LineSettings.lean ====
section
/-! DEFINITION. The settings of lines and of the quiet controller, and the moments at which a line sleeps, wakes or trips:
SET_LINE (R126, R127, R133), SET_QUIET (R146), WAKE_LINES (R148), LINE_SLEEP (R147), TRIP (R143, R144) and the watch of
the current. -/

namespace Sys2Proof.Machine

/-! ### SET_LINE -/

/-- R126, checks 1 to 3, in order, with the clamped in-flight limit. -/
def State.lineCheck (s : State) (l : LineId) (f : LineFields) : Option Status :=
  if !LineFields.valuesOk f then some .badValue
  else if f.enabled = 0 ∧ 0 < (s.line l).inFlight then some .busy
  else if (LineFields.setup f).limit < (s.line l).inFlight then some .busy
  else none

/-- R127, R131, R133: one line takes new settings. -/
def State.reconfigureLine (s : State) (l : LineId) (new : LineSetup) : State :=
  (s.setLineSetup l new).updLine l (fun ln => ln.reconfigure (s.lineSetup l) new)

/-- R126, R131: the device-wide grouping. -/
def State.setGrouping (s : State) (g : Grouping) : State := { s with setup := { s.setup with grouping := g } }

/-- R126, R127, R133: a SET_LINE that passes its checks. -/
def State.storeLine (s : State) (l : LineId) (f : LineFields) : State :=
  ((s.setGrouping ((grouping? f.grouping).getD .separate)).reconfigureLine l (LineFields.setup f)).quietSettled

/-- R126, R127, R130. -/
def serveLine (line : Nat) (f : LineFields) (s : State) : Served :=
  match line? line with
  | none => refuse s .badValue
  | some l =>
    match s.lineCheck l f with
    | some st => refuse s st
    | none =>
      let s1 := s.storeLine l f
      { st := s1, status := .ok, clamped := LineFields.clamped f, result := .budget (s1.line l).budget }

/-- SET_LINE (R126). -/
def execSetLine (h : Header) (line : Nat) (f : LineFields) (s : State) : Host.Outcome State Fault Refusal :=
  .next (s.request h 0x33 .setup noCast (serveLine line f))

/-! ### SET_QUIET and WAKE_LINES -/

/-- R146: the clamped settings are stored and the state moves. -/
def State.storeQuiet (s : State) (q : QuietSetup) : State :=
  ({ s with setup := { s.setup with quiet := q } }).moveQuiet q.enable

/-- R146. -/
def serveQuiet (enable qEnter qExit : Nat) (s : State) : Served :=
  match yesNo? enable with
  | none => refuse s .badValue
  | some en =>
    let q := clampQuiet qEnter qExit
    { st := s.storeQuiet { enable := en, qEnter := q.1, qExit := q.2 }
      status := .ok, clamped := q != (qEnter, qExit) }

/-- SET_QUIET (R146). -/
def execSetQuiet (h : Header) (enable qEnter qExit : Nat) (s : State) : Host.Outcome State Fault Refusal :=
  .next (s.request h 0x34 .setup noCast (serveQuiet enable qEnter qExit))

/-- R148: WAKE_LINES, with the number of lines sent to WAKING. -/
def serveWake (s : State) : Served :=
  okWith s.wakeCause (.smallCount (if QuietState.asleep s.quiet then s.quietLines else 0))

/-- WAKE_LINES (R148). -/
def execWakeLines (h : Header) (s : State) : Host.Outcome State Fault Refusal :=
  .next (s.request h 0x35 .setup noCast serveWake)

/-! ### Sleep, trip and current -/

/-- R147: an enabled line is put to sleep. -/
def State.sleepLine (s : State) (l : LineId) : State :=
  if QuietState.asleep s.quiet && (s.lineSetup l).enabled && (s.line l).maySleep then
    (s.updLine l (fun ln => ln.powerOff .quiet)).quietSettled
  else s

/-- LINE_SLEEP (R147). -/
def execLineSleep (l : LineId) (s : State) : Host.Outcome State Fault Refusal :=
  .next (s.whenRunning (fun s => s.sleepLine l))

/-- R144: in PAIRED grouping a powered partner is tripped with the line. -/
def State.tripPartner (s : State) (l : LineId) : State :=
  if s.setup.grouping = .paired ∧ (s.line (partner l)).powered = true then s.tripLine (partner l) else s

/-- R143, R144: a trip of a line. -/
def State.trip (s : State) (l : LineId) : State :=
  let s1 := ((s.tripLine l).updLine l (fun ln => { ln with trips := min 255 (ln.trips + 1) })).raiseSetup .line
  (s1.tripPartner l).quietSettled

/-- TRIP (R143): the excess on a powered line has lasted the filter time (log 20). -/
def execTrip (l : LineId) (s : State) : Host.Outcome State Fault Refusal :=
  .next (s.whenRunning (fun s => if (s.line l).powered && (s.line l).excess then s.trip l else s))

/-- EXCESS_CURRENT_ONSET (R143): the current of a powered line goes into excess. -/
def execExcessCurrentOnset (l : LineId) (s : State) : Host.Outcome State Fault Refusal :=
  .next (s.whenRunning (fun s => if (s.line l).powered then s.updLine l (fun ln => { ln with excess := true }) else s))

/-- EXCESS_CURRENT_END (R143): the excess ends before the filter time, and has no effect. -/
def execExcessCurrentEnd (l : LineId) (s : State) : Host.Outcome State Fault Refusal :=
  .next (s.whenRunning (fun s => s.updLine l (fun ln => { ln with excess := false })))

end Sys2Proof.Machine
end

