-- ==== Sys2Proof/Machine/LineEvents.lean ====
section
/-! DEFINITION. The events of delivery on a line: job creation and start (R113 to R121), frames and their answers (R136,
R137), polls and refresh timers (R138, R139), and roll calls (R140 to R142). An answer that names another position, or is of
a kind the frame does not call for, has no effect of its own: the answer wait runs on (R135, log 17). -/

namespace Sys2Proof.Machine

/-! ### Jobs -/

/-- JOB_CREATION (R113 to R115): one job (log 5). -/
def execJobCreation (l : LineId) (s : State) : Host.Outcome State Fault Refusal :=
  .next (s.whenRunning (fun s => s.createJob l))

/-- JOB_START (R119 to R121): one start decision (log 5). -/
def execJobStart (l : LineId) (s : State) : Host.Outcome State Fault Refusal :=
  .next (s.whenRunning (fun s => s.startJob l))

/-- Whether a sign is mapped to a position, so that an answer naming it comes from that sign (R135). -/
def State.standsAt (s : State) (i : SignId) (pos : Position) : Bool :=
  (s.mapping i).any (fun m => m.position == pos)

/-- R137: a job becomes REFRESHING: its refresh timer starts with the limit in force, the transmitter is free, and the
poll timer runs. -/
def LineRecord.refreshing (ln : LineRecord) (i : SignId) (limit : Nat) : LineRecord :=
  { ln.updJob i (fun j => { j with state := .refreshing, refresh := some limit, resends := 0 }) with
      transmitter := none, pollTimer := true }

/-- R136: the next frame of a job goes out, with Resends 0. -/
def LineRecord.nextFrame (ln : LineRecord) (i : SignId) (k : Nat) : LineRecord :=
  { ln.updJob i (fun j => { j with resends := 0 }) with transmitter := some (.job i (k + 1)) }

/-- R136, R137: an acknowledgement of segment k of a sign's SENDING job. -/
def State.acked (s : State) (l : LineId) (i : SignId) (k : Nat) : State :=
  match (s.line l).jobOf i with
  | none => s
  | some j =>
    if !j.isSending then s
    else if k + 1 < frameCount j.content then s.updLine l (fun ln => ln.nextFrame i k)
    else s.updLine l (fun ln => ln.refreshing i (s.lineSetup l).refreshLimit)

/-- R136, R137: an ACK of a position on a line. -/
def State.takeAck (s : State) (l : LineId) (pos : Position) : State :=
  match (s.line l).transmitter with
  | some (.job i k) => if s.standsAt i pos then s.acked l i k else s
  | _ => s

/-- ACK (R136). -/
def execAck (l : LineId) (pos : Position) (s : State) : Host.Outcome State Fault Refusal :=
  .next (s.whenRunning (fun s => s.takeAck l pos))

/-- The frame or poll of a sign's job is sent again, and Resends becomes 1 (R136, R139). -/
def LineRecord.resend (ln : LineRecord) (i : SignId) : LineRecord := ln.updJob i (fun j => { j with resends := 1 })

/-- The transmitter is free, and a job that waits for it sends its first frame (R136). -/
def LineRecord.free (ln : LineRecord) : LineRecord := ({ ln with transmitter := none }).resume

/-- R136, R139: an exchange of a sign's job got no answer: it is sent again, or the job fails with NO_ANSWER. -/
def State.missed (s : State) (l : LineId) (i : SignId) : State :=
  match (s.line l).jobOf i with
  | none => s
  | some j =>
    if j.resends = 0 then s.updLine l (fun ln => ln.resend i)
    else ((s.updLine l (fun ln => { ln with transmitter := none })).retireFailed l j .noAnswer).updLine l LineRecord.resume

/-- R136: the wait for an ACK ends. -/
def State.ackMissed (s : State) (l : LineId) : State :=
  match (s.line l).transmitter with
  | some (.job i _) => s.missed l i
  | _ => s

/-- ACK_WAIT_EXPIRY (R136). -/
def execAckWaitExpiry (l : LineId) (s : State) : Host.Outcome State Fault Refusal :=
  .next (s.whenRunning (fun s => s.ackMissed l))

/-! ### Polls -/

/-- R138: the previous round is unfinished while a job of it is still to be polled or its poll is outstanding (log 18). -/
def LineRecord.roundOpen (ln : LineRecord) : Bool :=
  !ln.round.isEmpty || (match ln.transmitter with
    | some (.poll _ _) => true
    | _ => false)

/-- R138: the poll timer expires and runs on; a round of every REFRESHING job becomes due, unless one is unfinished. -/
def LineRecord.pollDue (ln : LineRecord) : LineRecord :=
  if ln.pollTimer && !ln.roundOpen then { ln with round := (ln.jobs.filter Job.isRefreshing).map Job.sign } else ln

/-- POLL_TIMER_EXPIRY (R138). -/
def execPollTimerExpiry (l : LineId) (s : State) : Host.Outcome State Fault Refusal :=
  .next (s.whenRunning (fun s => s.updLine l LineRecord.pollDue))

/-- R137, R138: the next job of the round is polled, unless a job is SENDING, a roll call runs, the transmitter is busy, or
a start decision would start a job first. -/
def pollNext (c : LineSetup) (ln : LineRecord) : LineRecord :=
  if ln.transmitter.isNone && ln.roll.isNone && !(ln.jobs.any Job.isSending) && (startCandidate c ln).isNone then
    match ln.round with
    | [] => ln
    | i :: l => { ln with round := l, transmitter := some (.poll i true) }
  else ln

/-- POLL_EXCHANGE (R138). -/
def execPollExchange (l : LineId) (s : State) : Host.Outcome State Fault Refusal :=
  .next (s.whenRunning (fun s => s.updLine l (fun ln => pollNext (s.lineSetup l) ln)))

/-- R139: BUSY: the job stays REFRESHING with Resends 0. -/
def State.takeBusy (s : State) (l : LineId) (pos : Position) : State :=
  match (s.line l).transmitter with
  | some (.poll i true) =>
    if s.standsAt i pos then s.updLine l (fun ln => (ln.updJob i (fun j => { j with resends := 0 })).free) else s
  | _ => s

/-- BUSY_ANSWER (R139). -/
def execBusyAnswer (l : LineId) (pos : Position) (s : State) : Host.Outcome State Fault Refusal :=
  .next (s.whenRunning (fun s => s.takeBusy l pos))

/-- R139, R122, R123: the digest a sign reports retires its job. -/
def State.judge (s : State) (l : LineId) (i : SignId) (digest : Digest) : State :=
  match (s.line l).jobOf i with
  | none => s
  | some j =>
    let s1 := s.updLine l LineRecord.free
    if j.target.map Digests.full = some digest then s1.retireDone l j else s1.retireFailed l j .mismatch

/-- R139: DONE and IDLE are taken alike. -/
def State.takeDone (s : State) (l : LineId) (pos : Position) (digest : Digest) : State :=
  match (s.line l).transmitter with
  | some (.poll i true) => if s.standsAt i pos then s.judge l i digest else s
  | _ => s

/-- DONE_OR_IDLE (R139). -/
def execDoneOrIdle (l : LineId) (pos : Position) (digest : Digest) (s : State) : Host.Outcome State Fault Refusal :=
  .next (s.whenRunning (fun s => s.takeDone l pos digest))

/-- R139: the wait for a poll's answer ends: resent once, then NO_ANSWER; a poll whose job has retired as SLOW is not
resent. -/
def State.pollMissed (s : State) (l : LineId) : State :=
  match (s.line l).transmitter with
  | some (.poll i true) => s.missed l i
  | some (.poll _ false) => s.updLine l LineRecord.free
  | _ => s

/-- POLL_ANSWER_WAIT_EXPIRY (R139). -/
def execPollAnswerWaitExpiry (l : LineId) (s : State) : Host.Outcome State Fault Refusal :=
  .next (s.whenRunning (fun s => s.pollMissed l))

/-- R139: the outstanding poll of a sign keeps the transmitter, its answer ignored. -/
def LineRecord.stalePoll (ln : LineRecord) (i : SignId) : LineRecord :=
  match ln.transmitter with
  | some (.poll k true) => if k = i then { ln with transmitter := some (.poll k false) } else ln
  | _ => ln

/-- R139: a refresh timer expires: the job fails with SLOW. -/
def State.slow (s : State) (l : LineId) (i : SignId) : State :=
  match (s.line l).jobOf i with
  | none => s
  | some j =>
    if j.isRefreshing then (s.updLine l (fun ln => ln.stalePoll i)).retireFailed l j .slow else s

/-- REFRESH_TIMER_EXPIRY (R139). -/
def execRefreshTimerExpiry (l : LineId) (i : SignId) (s : State) : Host.Outcome State Fault Refusal :=
  .next (s.whenRunning (fun s => s.slow l i))

/-! ### Roll calls -/

/-- R134, R140: the settle time ends, and the roll call begins with its first ROLL. -/
def LineRecord.settled (ln : LineRecord) : LineRecord :=
  if ln.mode == .waking && ln.settle then
    { ln.beginRoll with settle := false, transmitter := some (.roll 0) }
  else ln

/-- SETTLE_TIMER_EXPIRY (R134). -/
def execSettleTimerExpiry (l : LineId) (s : State) : Host.Outcome State Fault Refusal :=
  .next (s.whenRunning (fun s => s.updLine l LineRecord.settled))

/-- R140: the interval timer expires in ACTIVE: a roll call begins, unless one runs (log 19). -/
def LineRecord.intervalDue (ln : LineRecord) : LineRecord :=
  if ln.mode == .active && ln.interval.isSome then
    (if ln.roll.isNone then { ln.beginRoll with interval := none } else { ln with interval := none })
  else ln

/-- ROLL_CALL_INTERVAL_EXPIRY (R140). -/
def execRollCallIntervalExpiry (l : LineId) (s : State) : Host.Outcome State Fault Refusal :=
  .next (s.whenRunning (fun s => s.updLine l LineRecord.intervalDue))

/-- R140: in ACTIVE the first ROLL goes out when no job is SENDING and no exchange is outstanding. -/
def LineRecord.rollStart (ln : LineRecord) : LineRecord :=
  match ln.roll with
  | none => ln
  | some rc =>
    if ln.mode == .active && ln.transmitter.isNone && !(ln.jobs.any Job.isSending) then
      { ln with transmitter := some (.roll rc.next) }
    else ln

/-- ROLL_CALL_START (R140). -/
def execRollCallStart (l : LineId) (s : State) : Host.Outcome State Fault Refusal :=
  .next (s.whenRunning (fun s => s.updLine l LineRecord.rollStart))

/-- R141, R142: a position answered with its class: its sign is found PRESENT, or the position counts for the extras. -/
def State.rollAnswered (s : State) (l : LineId) (pos : Position) (cls : SignClass) (found : List Position) : State :=
  match s.signAt l pos with
  | none => s.nextRoll l pos (found ++ [pos])
  | some i =>
    match s.mapping i with
    | none => s
    | some m => (s.foundPresent i m cls).nextRoll l pos found

/-- R141: a position gave no answer. -/
def State.rollSilent (s : State) (l : LineId) (pos : Position) (found : List Position) : State :=
  match s.signAt l pos with
  | none => s.nextRoll l pos found
  | some i =>
    match s.mapping i with
    | none => s
    | some m => (s.foundSilent i m).nextRoll l pos found

/-- R141: a class answer on a line. -/
def State.takeClass (s : State) (l : LineId) (pos : Position) (cls : SignClass) : State :=
  match (s.line l).transmitter, (s.line l).roll with
  | some (.roll p), some rc => if p = pos then s.rollAnswered l pos cls rc.found else s
  | _, _ => s

/-- CLASS (R141). -/
def execClass (l : LineId) (pos : Position) (cls : SignClass) (s : State) : Host.Outcome State Fault Refusal :=
  .next (s.whenRunning (fun s => s.takeClass l pos cls))

/-- R140: the wait for an answer to ROLL ends: the ROLL is sent again once, and then the position is silent. -/
def State.rollMissed (s : State) (l : LineId) : State :=
  match (s.line l).transmitter, (s.line l).roll with
  | some (.roll p), some rc =>
    if rc.resent then s.rollSilent l p rc.found
    else s.updLine l (fun ln => { ln with roll := some { rc with resent := true } })
  | _, _ => s

/-- ROLL_ANSWER_WAIT_EXPIRY (R140). -/
def execRollAnswerWaitExpiry (l : LineId) (s : State) : Host.Outcome State Fault Refusal :=
  .next (s.whenRunning (fun s => s.rollMissed l))

end Sys2Proof.Machine
end

