-- ==== Sys2Proof/Machine/FaultRequests.lean ====
section
/-! DEFINITION. The requests of the fault handler: SET_FAULT_MODE (R152) and CLEAR_FAULT (R160, R161). -/

namespace Sys2Proof.Machine

/-- R152: TRIP was given as REPORT or IGNORE. -/
def ModeFields.clamped (f : ModeFields) : Bool := f.trip == 2 || f.trip == 3

/-- R152. -/
def serveFaultMode (f : ModeFields) (s : State) : Served :=
  match ModeFields.setup? f with
  | none => refuse s .badValue
  | some x =>
    { st := { s with setup := { s.setup with fault := x } }
      status := .ok, clamped := ModeFields.clamped f, result := .modes x }

/-- SET_FAULT_MODE (R152). -/
def execSetFaultMode (h : Header) (f : ModeFields) (s : State) : Host.Outcome State Fault Refusal :=
  .next (s.request h 0x36 .setup noCast (serveFaultMode f))

/-- R160: a LATCHED or RETRY_WAIT sign is cleared and queued. -/
def State.clearSign (s : State) (i : SignId) : State :=
  match s.mapping i with
  | none => s
  | some m =>
    if (s.sign i).fault = .none then s
    else
      (s.updSign i (fun g => { g with fault := .none, retry := .stopped, failures := 0, delivered := none })).updLine
        m.line (fun ln => ln.join i)

/-- R160. -/
def serveClearSign (sign : Nat) (s : State) : Served :=
  match sign? sign with
  | none => refuse s .badValue
  | some i => okWith (s.clearSign i) .empty

/-- CLEAR_FAULT of a sign (R160). -/
def execClearFaultSign (h : Header) (sign : Nat) (s : State) : Host.Outcome State Fault Refusal :=
  .next (s.request h 0x37 .setup noCast (serveClearSign sign))

/-- R161. -/
def serveClearLine (line : Nat) (s : State) : Served :=
  match line? line with
  | none => refuse s .badValue
  | some l => okWith (s.restoreLine l) .empty

/-- CLEAR_FAULT of a line (R161). -/
def execClearFaultLine (h : Header) (line : Nat) (s : State) : Host.Outcome State Fault Refusal :=
  .next (s.request h 0x37 .setup noCast (serveClearLine line))

end Sys2Proof.Machine
end

