-- ==== Sys2Proof/Machine/Ports.lean ====
section
/-! DEFINITION. The master ports: reception events (R163, R164), HEARTBEAT and the lapse (R172, R173), the attention
requests (R175, R176), SET_PORT (R170) and SET_CABINET (R165). -/

namespace Sys2Proof.Machine

/-! ### Reception -/

/-- A packet event that a port hears (R163). -/
def State.whenHeard (s : State) (p : Port) (f : State → State) : State := if s.hears p then f s else s

/-- A port enters a reception state with an empty buffer. -/
def State.receive (s : State) (p : Port) (r : Reception) : State :=
  s.updPort p (fun x => { x with reception := r, buffer := [] })

/-- An event of a port in one reception state (R163). -/
def State.whenIn (s : State) (p : Port) (r : Reception) (f : State → State) : State :=
  s.whenRunning (fun s => if (s.port p).reception = r then f s else s)

/-- UNKNOWN_REQUEST (R166, R167): a direct packet is answered, a broadcast one is dropped and counted. -/
def execUnknownRequest (h : Header) (code : Nat) (s : State) : Host.Outcome State Fault Refusal :=
  .next (s.request { h with bodyFits := true } code .none noCast (fun s => refuse s .unknownRequest))

/-- BROADCAST_DROPPED (R166): a broadcast that is not accepted is well-formed and addressed to this cabinet, so it restarts
the monitor and, on the holder's port, the idle timer, and is counted. -/
def execBroadcastDropped (p : Port) (s : State) : Host.Outcome State Fault Refusal :=
  .next (s.whenHeard p (fun s => ((s.take p).hunt p).discard p))

/-- PACKET_DISCARDED (R164, outcome 1). -/
def execPacketDiscarded (p : Port) (s : State) : Host.Outcome State Fault Refusal :=
  .next (s.whenHeard p (fun s => (s.hunt p).discard p))

/-- PACKET_IGNORED (R164, outcomes 2 and 5). -/
def execPacketIgnored (p : Port) (s : State) : Host.Outcome State Fault Refusal :=
  .next (s.whenHeard p (fun s => s.hunt p))

/-- BODY_LENGTH_OVER_240 (R163). -/
def execBodyLengthOver240 (p : Port) (s : State) : Host.Outcome State Fault Refusal :=
  .next (s.whenHeard p (fun s => (s.receive p .skipping).discard p))

/-- RECEIVING_GAP (R163): the partial packet is discarded, and not counted. -/
def execReceivingGap (p : Port) (s : State) : Host.Outcome State Fault Refusal :=
  .next (s.whenIn p .receiving (fun s => s.receive p .hunting))

/-- SKIPPING_GAP (R163). -/
def execSkippingGap (p : Port) (s : State) : Host.Outcome State Fault Refusal :=
  .next (s.whenIn p .skipping (fun s => s.receive p .hunting))

/-- LEAD_BYTE_IN_HUNTING (R163): a packet begins. -/
def execLeadByteInHunting (p : Port) (s : State) : Host.Outcome State Fault Refusal :=
  .next (s.whenIn p .hunting (fun s => s.updPort p (fun x => { x with reception := .receiving, buffer := [0xA5#8] })))

/-- R165: the address a SET_CABINET programmed takes effect when its reply has ended. -/
def State.applyAddress (s : State) (a : Option Nat) : State :=
  match a with
  | none => s
  | some n => { s with address := n, programmed := true }

/-- R163, R165: the last byte of a port's reply has been sent. -/
def State.finishReply (s : State) (p : Port) : State :=
  (s.updPort p (fun x => { x with reception := .hunting, buffer := [], reply := none, newAddress := none })).applyAddress
    (s.port p).newAddress

/-- REPLY_SENT (R163). -/
def execReplySent (p : Port) (s : State) : Host.Outcome State Fault Refusal :=
  .next (s.whenIn p .answering (fun s => s.finishReply p))

/-! ### Heartbeat -/

/-- HEARTBEAT (R172): nothing beyond the restarts of R164; also as a broadcast (R166). -/
def execHeartbeat (h : Header) (s : State) : Host.Outcome State Fault Refusal :=
  .next (s.request h 0x07 .none (fun s => some s) (fun s => okWith s .empty))

/-- R173: PEER on the other two ports. -/
def State.raisePeers (s : State) (p : Port) : State :=
  allPorts.foldl (fun s q => if q = p then s else s.raise q .peer) s

/-- R173: a heartbeat lapse, handed to the notice table, the arbiter and the attention unit. -/
def State.lapse (s : State) (p : Port) : State :=
  (((s.updPort p (fun x => { x with monitor := .lapsed, heartbeat := none })).lapseNotices p).lapseGrant p).raisePeers p

/-- HEARTBEAT_LAPSE (R173): the timer expires only in ALIVE (R172). -/
def execHeartbeatLapse (p : Port) (s : State) : Host.Outcome State Fault Refusal :=
  .next (s.whenRunning (fun s =>
    if (s.port p).monitor = .alive ∧ (s.port p).heartbeat.isSome = true then s.lapse p else s))

/-! ### Attention requests -/

/-- The monitor states of all three ports. -/
def State.monitors (s : State) : Vector Monitor 3 := s.ports.map PortRecord.monitor

/-- R175: the further fields of the source returned. -/
def State.attentionFields (s : State) (p : Port) (src : Source) : AttentionFields :=
  match src with
  | .fault => .fault (s.port p).latch (s.port p).later
  | .pace => .pace s.pressure
  | .peer => .peer s.monitors
  | .clock => .clock s.clock.isSet
  | .store => .store (s.port p).outcome
  | _ => .none

/-- R175: the effect of the read on the source returned. -/
def State.clearRead (s : State) (p : Port) (src : Source) : State :=
  match src with
  | .clock => s
  | .fault => (s.lower p .fault).updPort p (fun x => { x with latch := none, later := 0 })
  | _ => s.lower p src

/-- R175. -/
def serveAttention (p : Port) (s : State) : Served :=
  match lowestSource ((s.port p).raised &&& (s.port p).mask) with
  | none => okWith s (.attention 15 .none (s.port p).raised)
  | some src =>
    let s1 := s.clearRead p src
    okWith s1 (.attention (Source.code src) (s.attentionFields p src) (s1.port p).raised)

/-- READ_ATTENTION (R175). -/
def execReadAttention (h : Header) (s : State) : Host.Outcome State Fault Refusal :=
  .next (s.request h 0x08 .none noCast (serveAttention h.port))

/-- R176. -/
def serveMask (p : Port) (mask : BitVec 8) (s : State) : Served :=
  let s1 := s.updPort p (fun x => { x with mask := mask })
  okWith s1 (.mask mask (s1.port p).raised)

/-- SET_ATTENTION_MASK (R176). -/
def execSetAttentionMask (h : Header) (mask : BitVec 8) (s : State) : Host.Outcome State Fault Refusal :=
  .next (s.request h 0x09 .none noCast (serveMask h.port mask))

/-! ### SET_PORT and SET_CABINET -/

/-- R170: a code above 4 is stored as OFF. -/
def clampCode (code : Nat) : Nat := if 4 < code then 0 else code

/-- R170: the interval of a port reaches its monitor: an ALIVE one's timer restarts with it, or stops. -/
def State.retime (s : State) (p : Port) (code : Nat) : State :=
  s.updPort p (fun x => if x.monitor = .alive then { x with heartbeat := heartbeatTime code } else x)

/-- R170. -/
def servePort (target : Nat) (roles : RoleSet) (code : Nat) (s : State) : Served :=
  match port? target with
  | none => refuse s .badValue
  | some q =>
    { st := (s.setPortSetup q { roles := roles, interval := clampCode code }).retime q (clampCode code)
      status := .ok, clamped := decide (4 < code), result := .portSet roles (clampCode code) }

/-- SET_PORT (R170). -/
def execSetPort (h : Header) (target : Nat) (roles : RoleSet) (code : Nat) (s : State) :
    Host.Outcome State Fault Refusal :=
  .next (s.request h 0x38 .setup noCast (servePort target roles code))

/-- R165: the address waits for the reply to end. -/
def serveCabinet (p : Port) (address : Nat) (s : State) : Served :=
  if 8 ≤ address then refuse s .badValue
  else okWith (s.updPort p (fun x => { x with newAddress := some address })) .empty

/-- SET_CABINET (R165). -/
def execSetCabinet (h : Header) (address : Nat) (s : State) : Host.Outcome State Fault Refusal :=
  .next (s.request h 0x39 .setup noCast (serveCabinet h.port address))

end Sys2Proof.Machine
end

