-- ==== Sys2Proof/Machine/SetupStore.lean ====
section
/-! DEFINITION. The setup store and start-up: saving (R178), loading and applying a setup (R5, R105, R179, R180), start-up
(R181), SOFT_CLEAR (R182), and the supply and the reset pin. -/

namespace Sys2Proof.Machine

/-! ### Saving -/

/-- R178, steps 1 and 2: the image is written; the copy has no check code until the save completes. -/
def serveSave (p : Port) (s : State) : Served :=
  okWith { s with store := .saving p, stored := { image := s.setup, check := none } } .empty

/-- SAVE_SETUP (R178): BUSY while the store saves or loads, as for every setup request (R177). -/
def execSaveSetup (h : Header) (s : State) : Host.Outcome State Fault Refusal :=
  .next (s.request h 0x3B .setup noCast (serveSave h.port))

/-- R174: a STORE outcome is set and STORE is raised on the port it belongs to. -/
def State.storeOutcome (s : State) (p : Port) (op : StoreOp) (st : Status) : State :=
  (s.updPort p (fun x => { x with outcome := some (op, st) })).raise p .store

/-- R178, R185: the check code is written over the image. -/
def StoredCopy.sealed (x : StoredCopy) : StoredCopy := { x with check := some x.image.checkCode }

/-- R178, steps 2 and 3: the check code is written and the save completes. -/
def State.completeSave (s : State) : State :=
  match s.store with
  | .saving p => ({ s with store := .idle, stored := s.stored.sealed }).storeOutcome p .save .ok
  | _ => s

/-- SAVE_COMPLETION (R178). -/
def execSaveCompletion (s : State) : Host.Outcome State Fault Refusal := .next (s.whenRunning State.completeSave)

/-! ### Loading -/

/-- R179: some job list holds a job. -/
def State.anyJob (s : State) : Bool := s.lines.toList.any (fun ln => !ln.jobs.isEmpty)

/-- R179, checks 2 and 3; check 1 is that of every setup request (R177). -/
def serveLoad (p : Port) (s : State) : Served :=
  if s.arb.holder.isSome then refuse s .busy
  else if s.anyJob then refuse s .busy
  else okWith { s with store := .loading p } .empty

/-- LOAD_SETUP (R179). -/
def execLoadSetup (h : Header) (s : State) : Host.Outcome State Fault Refusal :=
  .next (s.request h 0x3C .setup noCast (serveLoad h.port))

/-- R5: the cells of every entry in rooms that a setup disables. -/
def State.doomedCells (s : State) (new : Setup) : Nat :=
  (allRooms.map (fun r => if new.rooms[r].enabled then 0 else entriesCells (s.timetable r))).sum

/-- R179: the outcome of a load, in the order of its conditions. -/
def State.loadStatus (s : State) : Status :=
  let new := s.stored.image
  if !s.stored.valid then .badStore
  else if s.arb.holder.isSome || s.anyJob then .busy
  else if s.freeCells + nameCells s.setup.rooms + s.doomedCells new < nameCells new.rooms then .textFull
  else .ok

/-- R180 step 1, R5, R40. -/
def State.loadRooms (s : State) (new : Setup) : State :=
  ({ s with
      setup := { s.setup with rooms := new.rooms }
      timetables := Vector.ofFn (fun r : RoomId => if new.rooms[r].enabled then s.timetable r else [])
      evals := Vector.ofFn (fun r : RoomId => if new.rooms[r].enabled then s.eval r else .disabled) }).repress

/-- R105: the two mappings place a sign at the same line and position. -/
def samePlace (old : Option Mapping) (new : Mapping) : Bool :=
  old.any (fun m => m.line == new.line && m.position == new.position)

/-- R105, steps 2 to 4: the record of a sign under its loaded mapping. -/
def SignRecord.loaded (g : SignRecord) (old new : Option Mapping) : SignRecord :=
  match new with
  | none => g.unmapped
  | some m => if samePlace old m then g else g.replaced

/-- R105: the loaded map places a sign at a line and position. -/
def Setup.places (new : Setup) (l : LineId) (pos : Position) : Bool :=
  allSigns.any (fun i => new.signMap[i].any (fun m => m.line == l && m.position == pos))

/-- R180 step 2, R105: the dirty queues empty, the map and its records, and the extras lists. -/
def State.loadSigns (s : State) (new : Setup) : State :=
  { s with
    setup := { s.setup with signMap := new.signMap }
    signs := Vector.ofFn (fun i : SignId => (s.sign i).loaded (s.mapping i) new.signMap[i])
    lines := Vector.ofFn (fun l : LineId =>
      { (s.line l).unlist (new.places l) with dirty := [] }) }

/-- R180 step 3. -/
def State.loadLines (s : State) (new : Setup) : State :=
  allLines.foldl (fun s l => s.reconfigureLine l new.lines[l]) (s.setGrouping new.grouping)

/-- R180 step 5: one port takes its loaded role set and interval; a changed interval reaches its monitor. -/
def State.loadPort (s : State) (new : Setup) (p : Port) : State :=
  let x := new.ports[portIndex p]
  if (s.portSetup p).interval = x.interval then s.setPortSetup p x else (s.setPortSetup p x).retime p x.interval

/-- R180 steps 4 to 6. -/
def State.loadSettings (s : State) (new : Setup) : State :=
  let s1 := allPorts.foldl (fun s p => s.loadPort new p) { s with setup := { s.setup with fault := new.fault } }
  { s1 with setup := { s1.setup with arbiter := new.arbiter } }

/-- R180: the loaded setup is applied, in the order of its steps. -/
def State.applySetup (s : State) (new : Setup) : State :=
  let s1 := (((s.loadRooms new).loadSigns new).loadLines new).loadSettings new
  ((s1.storeQuiet new.quiet).quietSettled).forcedEvaluation

/-- R179: the load completes: the setup applied for OK, the store state, and the STORE outcome. -/
def State.completeLoad (s : State) : State :=
  match s.store with
  | .loading p =>
    let st := s.loadStatus
    let s1 := if st = .ok then s.applySetup s.stored.image else s
    ({ s1 with store := if st = Status.badStore then .blank else .idle }).storeOutcome p .load st
  | _ => s

/-- LOAD_COMPLETION (R179). -/
def execLoadCompletion (s : State) : Host.Outcome State Fault Refusal := .next (s.whenRunning State.completeLoad)

/-! ### SOFT_CLEAR -/

/-- R91, R182 step 1. -/
def Arbiter.cleared (a : Arbiter) : Arbiter :=
  { a with holder := none, rooms := [], waiters := [], staging := [], idle := none }

/-- R182, steps 1 to 3: the arbiter, the timetable and the notices. -/
def State.emptied (s : State) : State :=
  { s with arb := s.arb.cleared, timetables := Vector.replicate 64 [], notices := [] }

/-- R182, steps 5 and 6: test off on every sign, and the READY jobs of every line removed. -/
def State.untested (s : State) : State :=
  { s with
    signs := s.signs.map (fun g => { g with test := none })
    lines := s.lines.map (fun ln => { ln with jobs := ln.jobs.filter (fun j => !j.isReady) }) }

/-- R182: SOFT_CLEAR, in the order of its steps. -/
def State.softClear (s : State) : State :=
  { ((s.emptied.repress).untested).forcedEvaluation with startCause := .soft }

/-- R182. -/
def serveClear (s : State) : Served := okWith s.softClear .empty

/-- SOFT_CLEAR (R182). -/
def execSoftClear (h : Header) (s : State) : Host.Outcome State Fault Refusal :=
  .next (s.request h 0x3D .setup noCast serveClear)

/-! ### Start-up, supply and reset pin -/

/-- R181: the start-up sequence. -/
def State.startUp (s : State) (cause : StartCause) (baud : Baud) (address : Nat) (programmed : Bool) : State :=
  (State.cold s.stored (if s.stored.valid then s.stored.image else .blank)
    (if s.stored.valid then .idle else .blank) cause baud address programmed s.pending).forcedEvaluation

/-- POWER_ON (R165, R181): the straps are read, the baud strap with them (log 39). While the reset pin is asserted the hub is held and starts at its release
(log 3). -/
def execPowerOn (straps : Fin 8) (baud : Baud) (s : State) : Host.Outcome State Fault Refusal :=
  .next (if s.run ≠ .off then s
    else if s.resetPin then { s with run := .held, baud := baud, address := straps.val, programmed := false }
    else s.startUp .power baud straps.val false)

/-- RESET_PIN_RELEASE (R181): the address in force before the reset is kept, and so is the rate: the baud strap is not read
again (log 39). On an unpowered hub the pin alone changes. -/
def execResetPinRelease (s : State) : Host.Outcome State Fault Refusal :=
  .next (if s.run = .held then s.startUp .pin s.baud s.address s.programmed else { s with resetPin := false })

/-- R178, R179, R181: the hub stops: no line is powered, no request is taken, and an unfinished save leaves a stored copy
that is not valid. What is not kept stands at blank values until the next start (log 14). -/
def State.halt (s : State) (run : RunState) (pin : Bool) : State :=
  { State.cold s.stored .blank .blank s.startCause s.baud s.address s.programmed s.pending with
    run := run
    resetPin := pin
    ports := Vector.replicate 3 { PortRecord.fresh with raised := 0#8 } }

/-- RESET_PIN_ASSERT (R178, R181): a running hub is held. On a hub that is not running the pin alone changes. -/
def execResetPinAssert (s : State) : Host.Outcome State Fault Refusal :=
  .next (if s.run = .running then s.halt .held true else { s with resetPin := true })

/-- POWER_LOSS (R178): the programmed address is lost (R165), and the level of the reset pin is as it was. -/
def execPowerLoss (s : State) : Host.Outcome State Fault Refusal :=
  .next (if s.run = .off then s else { s.halt .off s.resetPin with address := 0, programmed := false })

end Sys2Proof.Machine
end

