-- ==== Sys2Proof/Machine/Reads.lean ====
section
/-! DEFINITION. The reads: READ_STATUS (R171), READ_ROOM (R25), READ_ENTRY (R26), READ_SIGN (R109), READ_LINE (R129, R150)
and READ_NOTICE (R72). No read changes what it reads. -/

namespace Sys2Proof.Machine

/-- R171. -/
def State.statusReport (s : State) : StatusReport where
  clock := s.clock
  pressure := s.pressure
  freeEntries := s.freeEntries
  freeCells := s.freeCells
  startCause := s.startCause
  quiet := s.quiet
  holder := s.arb.holder
  waiters := s.arb.waiters.map Waiter.port
  withdrawals := s.arb.withdrawals
  store := s.store
  discards := s.ports.map PortRecord.discards
  ports := s.setup.ports
  monitors := s.monitors
  address := s.address
  programmed := s.programmed

/-- R171. -/
def serveStatus (s : State) : Served := okWith s (.status s.statusReport)

/-- READ_STATUS (R171). -/
def execReadStatus (h : Header) (s : State) : Host.Outcome State Fault Refusal :=
  .next (s.request h 0x01 .none noCast serveStatus)

/-- R25. -/
def State.roomReport (s : State) (r : RoomId) (first : Nat) : RoomReport where
  setup := s.roomSetup r
  held := s.isHeld r
  count := (s.timetable r).length
  phase := (s.eval r).phase
  items := ((s.timetable r).drop first).take Config.pageItems

/-- R25. -/
def serveReadRoom (room first : Nat) (s : State) : Served :=
  match room? room with
  | none => refuse s .noRoom
  | some r => okWith s (.room (s.roomReport r first))

/-- READ_ROOM (R25). -/
def execReadRoom (h : Header) (room first : Nat) (s : State) : Host.Outcome State Fault Refusal :=
  .next (s.request h 0x02 .none noCast (serveReadRoom room first))

/-- R26. -/
def serveReadEntry (room tag : Nat) (s : State) : Served :=
  match room? room with
  | none => refuse s .noRoom
  | some r =>
    match entryOf (s.timetable r) tag with
    | none => refuse s .noEntry
    | some e => okWith s (.entry r e)

/-- READ_ENTRY (R26). -/
def execReadEntry (h : Header) (room tag : Nat) (s : State) : Host.Outcome State Fault Refusal :=
  .next (s.request h 0x03 .none noCast (serveReadEntry room tag))

/-- R109: the place of a sign in its line's dirty queue, counted from 1. -/
def State.queuePlace (s : State) (i : SignId) : Option Nat :=
  match s.mapping i with
  | none => none
  | some m => ((s.line m.line).dirty.idxOf? i).map (fun n => n + 1)

/-- R109. -/
def State.signReport (s : State) (i : SignId) : SignReport where
  number := i
  mapping := s.mapping i
  record := s.sign i
  delivery := s.delivery i
  place := s.queuePlace i
  job := (s.jobOf i).map (fun j => (j.kind, j.state, j.urgent))

/-- R109. -/
def serveReadSign (sign : Nat) (s : State) : Served :=
  match sign? sign with
  | none => refuse s .badValue
  | some i => okWith s (.sign (s.signReport i))

/-- READ_SIGN (R109). -/
def execReadSign (h : Header) (sign : Nat) (s : State) : Host.Outcome State Fault Refusal :=
  .next (s.request h 0x04 .none noCast (serveReadSign sign))

/-- R129: a job as the line lists it. -/
def Job.report (j : Job) (capacity : Nat) : JobReport where
  sign := j.sign
  kind := j.kind
  cost := j.cost
  effective := j.effective capacity
  urgent := j.urgent
  state := j.state

/-- R129, R150. -/
def State.lineReport (s : State) (l : LineId) : LineReport where
  setup := s.lineSetup l
  grouping := s.setup.grouping
  budget := (s.line l).budget
  dirty := (s.line l).dirty
  jobs := (s.line l).jobs.map (fun j => j.report (s.lineSetup l).capacity)
  mode := (s.line l).mode
  trips := (s.line l).trips
  roll := (s.line l).roll.map RollCall.next
  extras := (s.line l).extras

/-- R129, R150. -/
def serveReadLine (line : Nat) (s : State) : Served :=
  match line? line with
  | none => refuse s .badValue
  | some l => okWith s (.line (s.lineReport l))

/-- READ_LINE (R129, R150). -/
def execReadLine (h : Header) (line : Nat) (s : State) : Host.Outcome State Fault Refusal :=
  .next (s.request h 0x05 .none noCast (serveReadLine line))

/-- R72. -/
def serveReadNotice (id : Nat) (s : State) : Served :=
  if id = 0 then okWith s (.noticeList (s.notices.map (fun n => (n.id, n.level))))
  else
    match s.noticeOf id with
    | none => refuse s .noNotice
    | some n => okWith s (.notice n (s.notices.findIdx (fun n => n.id == id) + 1))

/-- READ_NOTICE (R72). -/
def execReadNotice (h : Header) (id : Nat) (s : State) : Host.Outcome State Fault Refusal :=
  .next (s.request h 0x06 .none noCast (serveReadNotice id))

end Sys2Proof.Machine
end

