-- ==== Sys2Proof/Machine/Dispatch.lean ====
section
/-! DEFINITION. The meaning of every command: one direct call per constructor of Instr. -/

namespace Sys2Proof.Machine

def exec (i : Instr) (s : State) : Host.Outcome State Fault Refusal :=
  match i with
  | .readStatus h => Sys2Proof.Machine.execReadStatus h s
  | .readRoom h room first => Sys2Proof.Machine.execReadRoom h room first s
  | .readEntry h room tag => Sys2Proof.Machine.execReadEntry h room tag s
  | .readSign h sign => Sys2Proof.Machine.execReadSign h sign s
  | .readLine h line => Sys2Proof.Machine.execReadLine h line s
  | .readNotice h id => Sys2Proof.Machine.execReadNotice h id s
  | .heartbeat h => Sys2Proof.Machine.execHeartbeat h s
  | .readAttention h => Sys2Proof.Machine.execReadAttention h s
  | .setAttentionMask h mask => Sys2Proof.Machine.execSetAttentionMask h mask s
  | .putEntry h room f => Sys2Proof.Machine.execPutEntry h room f s
  | .dropEntry h room tag => Sys2Proof.Machine.execDropEntry h room tag s
  | .markEntry h room tag setMarks clearMarks => Sys2Proof.Machine.execMarkEntry h room tag setMarks clearMarks s
  | .clearDay h room day => Sys2Proof.Machine.execClearDay h room day s
  | .setClock h day minute second => Sys2Proof.Machine.execSetClock h day minute second s
  | .openBatch h rooms => Sys2Proof.Machine.execOpenBatch h rooms s
  | .stagePut h room f => Sys2Proof.Machine.execStagePut h room f s
  | .stageDrop h room tag => Sys2Proof.Machine.execStageDrop h room tag s
  | .stageMark h room tag setMarks clearMarks => Sys2Proof.Machine.execStageMark h room tag setMarks clearMarks s
  | .stageClearDay h room day => Sys2Proof.Machine.execStageClearDay h room day s
  | .commitBatch h => Sys2Proof.Machine.execCommitBatch h s
  | .abandonBatch h => Sys2Proof.Machine.execAbandonBatch h s
  | .postNotice h f => Sys2Proof.Machine.execPostNotice h f s
  | .withdrawNotice h id => Sys2Proof.Machine.execWithdrawNotice h id s
  | .setRoom h room f => Sys2Proof.Machine.execSetRoom h room f s
  | .mapSign h sign f => Sys2Proof.Machine.execMapSign h sign f s
  | .mapSignUnmap h sign => Sys2Proof.Machine.execMapSignUnmap h sign s
  | .setTest h signs pattern => Sys2Proof.Machine.execSetTest h signs pattern s
  | .setTestOff h signs => Sys2Proof.Machine.execSetTestOff h signs s
  | .setLine h line f => Sys2Proof.Machine.execSetLine h line f s
  | .setQuiet h enable qEnter qExit => Sys2Proof.Machine.execSetQuiet h enable qEnter qExit s
  | .wakeLines h => Sys2Proof.Machine.execWakeLines h s
  | .setFaultMode h f => Sys2Proof.Machine.execSetFaultMode h f s
  | .clearFaultSign h sign => Sys2Proof.Machine.execClearFaultSign h sign s
  | .clearFaultLine h line => Sys2Proof.Machine.execClearFaultLine h line s
  | .setPort h target roles code => Sys2Proof.Machine.execSetPort h target roles code s
  | .setCabinet h address => Sys2Proof.Machine.execSetCabinet h address s
  | .setArbiter h code fairness => Sys2Proof.Machine.execSetArbiter h code fairness s
  | .saveSetup h => Sys2Proof.Machine.execSaveSetup h s
  | .loadSetup h => Sys2Proof.Machine.execLoadSetup h s
  | .softClear h => Sys2Proof.Machine.execSoftClear h s
  | .unknownRequest h code => Sys2Proof.Machine.execUnknownRequest h code s
  | .broadcastDropped p => Sys2Proof.Machine.execBroadcastDropped p s
  | .packetDiscarded p => Sys2Proof.Machine.execPacketDiscarded p s
  | .packetIgnored p => Sys2Proof.Machine.execPacketIgnored p s
  | .bodyLengthOver240 p => Sys2Proof.Machine.execBodyLengthOver240 p s
  | .receivingGap p => Sys2Proof.Machine.execReceivingGap p s
  | .skippingGap p => Sys2Proof.Machine.execSkippingGap p s
  | .replySent p => Sys2Proof.Machine.execReplySent p s
  | .secondBoundary => Sys2Proof.Machine.execSecondBoundary s
  | .minuteBoundary => Sys2Proof.Machine.execMinuteBoundary s
  | .dayBoundary => Sys2Proof.Machine.execDayBoundary s
  | .dayBoundaryOutOfDay15 => Sys2Proof.Machine.execDayBoundaryOutOfDay15 s
  | .idleTimerExpiry => Sys2Proof.Machine.execIdleTimerExpiry s
  | .heartbeatLapse p => Sys2Proof.Machine.execHeartbeatLapse p s
  | .jobCreation l => Sys2Proof.Machine.execJobCreation l s
  | .jobStart l => Sys2Proof.Machine.execJobStart l s
  | .ack l pos => Sys2Proof.Machine.execAck l pos s
  | .ackWaitExpiry l => Sys2Proof.Machine.execAckWaitExpiry l s
  | .pollTimerExpiry l => Sys2Proof.Machine.execPollTimerExpiry l s
  | .pollExchange l => Sys2Proof.Machine.execPollExchange l s
  | .busyAnswer l pos => Sys2Proof.Machine.execBusyAnswer l pos s
  | .doneOrIdle l pos digest => Sys2Proof.Machine.execDoneOrIdle l pos digest s
  | .pollAnswerWaitExpiry l => Sys2Proof.Machine.execPollAnswerWaitExpiry l s
  | .refreshTimerExpiry l sign => Sys2Proof.Machine.execRefreshTimerExpiry l sign s
  | .settleTimerExpiry l => Sys2Proof.Machine.execSettleTimerExpiry l s
  | .rollCallIntervalExpiry l => Sys2Proof.Machine.execRollCallIntervalExpiry l s
  | .rollCallStart l => Sys2Proof.Machine.execRollCallStart l s
  | .classAnswer l pos cls => Sys2Proof.Machine.execClass l pos cls s
  | .rollAnswerWaitExpiry l => Sys2Proof.Machine.execRollAnswerWaitExpiry l s
  | .lineSleep l => Sys2Proof.Machine.execLineSleep l s
  | .trip l => Sys2Proof.Machine.execTrip l s
  | .retryTimerExpiry sign => Sys2Proof.Machine.execRetryTimerExpiry sign s
  | .lineRetryWaitExpiry l => Sys2Proof.Machine.execLineRetryWaitExpiry l s
  | .saveCompletion => Sys2Proof.Machine.execSaveCompletion s
  | .loadCompletion => Sys2Proof.Machine.execLoadCompletion s
  | .powerOn straps baud => Sys2Proof.Machine.execPowerOn straps baud s
  | .resetPinRelease => Sys2Proof.Machine.execResetPinRelease s
  | .resetPinAssert => Sys2Proof.Machine.execResetPinAssert s
  | .powerLoss => Sys2Proof.Machine.execPowerLoss s
  | .leadByteInHunting p => Sys2Proof.Machine.execLeadByteInHunting p s
  | .excessCurrentOnset l => Sys2Proof.Machine.execExcessCurrentOnset l s
  | .excessCurrentEnd l => Sys2Proof.Machine.execExcessCurrentEnd l s

end Sys2Proof.Machine
end

