-- ==== Sys2Proof/Safety.lean ====
section
/-! DEFINITION. What the statements speak of: a request that is accepted, its reply, which commands are requests, and the
laws of the device that every step keeps. -/

namespace Sys2Proof.Machine

/-! ### Requests and replies -/

/-- The request rows: header, code (R184) and the role needed (R169). -/
def requestOf : Instr → Option (Header × Nat × Need)
  | .readStatus h => some (h, 0x01, .none)
  | .readRoom h _ _ => some (h, 0x02, .none)
  | .readEntry h _ _ => some (h, 0x03, .none)
  | .readSign h _ => some (h, 0x04, .none)
  | .readLine h _ => some (h, 0x05, .none)
  | .readNotice h _ => some (h, 0x06, .none)
  | .heartbeat h => some (h, 0x07, .none)
  | .readAttention h => some (h, 0x08, .none)
  | .setAttentionMask h _ => some (h, 0x09, .none)
  | .putEntry h _ _ => some (h, 0x10, .timetable)
  | .dropEntry h _ _ => some (h, 0x11, .timetable)
  | .markEntry h _ _ _ _ => some (h, 0x12, .timetable)
  | .clearDay h _ _ => some (h, 0x13, .timetable)
  | .setClock h _ _ _ => some (h, 0x14, .timetableOrSetup)
  | .openBatch h _ => some (h, 0x18, .timetable)
  | .stagePut h _ _ => some (h, 0x19, .timetable)
  | .stageDrop h _ _ => some (h, 0x1A, .timetable)
  | .stageMark h _ _ _ _ => some (h, 0x1B, .timetable)
  | .stageClearDay h _ _ => some (h, 0x1C, .timetable)
  | .commitBatch h => some (h, 0x1D, .timetable)
  | .abandonBatch h => some (h, 0x1E, .timetable)
  | .postNotice h _ => some (h, 0x20, .notice)
  | .withdrawNotice h _ => some (h, 0x21, .notice)
  | .setRoom h _ _ => some (h, 0x30, .setup)
  | .mapSign h _ _ => some (h, 0x31, .setup)
  | .mapSignUnmap h _ => some (h, 0x31, .setup)
  | .setTest h _ _ => some (h, 0x32, .setup)
  | .setTestOff h _ => some (h, 0x32, .setup)
  | .setLine h _ _ => some (h, 0x33, .setup)
  | .setQuiet h _ _ _ => some (h, 0x34, .setup)
  | .wakeLines h => some (h, 0x35, .setup)
  | .setFaultMode h _ => some (h, 0x36, .setup)
  | .clearFaultSign h _ => some (h, 0x37, .setup)
  | .clearFaultLine h _ => some (h, 0x37, .setup)
  | .setPort h _ _ _ => some (h, 0x38, .setup)
  | .setCabinet h _ => some (h, 0x39, .setup)
  | .setArbiter h _ _ => some (h, 0x3A, .setup)
  | .saveSetup h => some (h, 0x3B, .setup)
  | .loadSetup h => some (h, 0x3C, .setup)
  | .softClear h => some (h, 0x3D, .setup)
  | .unknownRequest _ _ | .broadcastDropped _ | .packetDiscarded _ | .packetIgnored _ | .bodyLengthOver240 _
  | .receivingGap _ | .skippingGap _ | .replySent _ | .secondBoundary | .minuteBoundary | .dayBoundary
  | .dayBoundaryOutOfDay15 | .idleTimerExpiry | .heartbeatLapse _ | .jobCreation _ | .jobStart _ | .ack _ _
  | .ackWaitExpiry _ | .pollTimerExpiry _ | .pollExchange _ | .busyAnswer _ _ | .doneOrIdle _ _ _
  | .pollAnswerWaitExpiry _ | .refreshTimerExpiry _ _ | .settleTimerExpiry _ | .rollCallIntervalExpiry _
  | .rollCallStart _ | .classAnswer _ _ _ | .rollAnswerWaitExpiry _ | .lineSleep _ | .trip _ | .retryTimerExpiry _
  | .lineRetryWaitExpiry _ | .saveCompletion | .loadCompletion | .powerOn _ _ | .resetPinRelease | .resetPinAssert
  | .powerLoss | .leadByteInHunting _ | .excessCurrentOnset _ | .excessCurrentEnd _ => none

/-- R166: the requests that are accepted as a broadcast. -/
def castable : Instr → Bool
  | .heartbeat _ | .setClock _ _ _ _ | .postNotice _ _ | .withdrawNotice _ _ => true
  | _ => false

/-- A packet that the port takes as a direct request to this hub (R163, R164 outcome 4). -/
structure Direct (s : State) (h : Header) : Prop where
  running : s.run = .running
  hears : (s.port h.port).reception = .hunting ∨ (s.port h.port).reception = .receiving
  here : h.cabinet = s.address
  notAll : h.cabinet ≠ 15

/-- A direct request that passes the port's own checks and, for a setup request, the store state (R167, R177). -/
structure Accepted (s : State) (h : Header) (need : Need) : Prop extends Direct s h where
  fits : h.bodyFits = true
  role : need.met (s.portSetup h.port).roles = true
  free : need = .setup → s.store = .idle ∨ s.store = .blank

/-- R163, R168: the port is answering with this reply, under the address in force when the request was taken and with the
pressure level after the request's own effect. -/
def Replied (s t : State) (h : Header) (code : Nat) (status : Status) (clamped : Bool) (result : Result) : Prop :=
  (t.port h.port).reception = .answering ∧
    (t.port h.port).reply = some { cabinet := s.address, code := code, status := status
                                   low := t.pressure == .low, clamped := clamped, result := result }

/-- R77: the arbiter after a request has arrived at a port: the holder's idle timer restarts. -/
def Arbiter.restarted (a : Arbiter) (p : Port) (code : Nat) : Arbiter :=
  if a.holder = some p then { a with idle := some (idleTime code) } else a

/-- R77, R163, R168, R172: the hub after a request that is answered and changes nothing else. -/
def State.answered (s : State) (p : Port) (r : Reply) : State :=
  { s with
    arb := s.arb.restarted p s.setup.arbiter.idleCode
    ports := s.ports.set (portIndex p)
      { s.port p with reception := .answering, buffer := [], reply := some r, monitor := .alive
                      heartbeat := heartbeatTime (s.portSetup p).interval } }

/-- A request answered with a result and no other effect: the reads, and whatever is refused. -/
def State.answeredWith (s : State) (h : Header) (code : Nat) (status : Status) (result : Result) : State :=
  s.answered h.port { cabinet := s.address, code := code, status := status, low := s.pressure == .low, clamped := false
                      result := result }

/-! ### What an operation leaves behind -/

/-- R22, R23: the pressure level re-evaluated once on the counts an operation leaves, with PACE raised on every port when it
changes, and no other source. -/
structure Repressed (s t : State) : Prop where
  level : t.pressure = nextPressure s.pressure t.freeEntries t.freeCells
  pace : ∀ q, (t.port q).raised =
    if t.pressure = s.pressure then (s.port q).raised else (s.port q).raised ||| Source.flag .pace

/-- The pressure level and every port's flags are as before. -/
structure Unpressed (s t : State) : Prop where
  level : t.pressure = s.pressure
  flags : ∀ q, (t.port q).raised = (s.port q).raised

/-- R56, R98, R108: a sign's record after its room's evaluation took the place of an old one: a sign in test, and a sign whose
form did not change, is left alone. -/
def SignRecord.handed (g : SignRecord) (role : Role) (old new : EvalRecord) (o : Origin) : SignRecord :=
  if g.test = none ∧ formChanged old new role = true then { g with wanted := new.digests role, origin := o } else g

/-- What hands and refills of the queues leave of a line: its state, its exchange, its timers, roll call, extras, hold, trips
and budget, and, where no sign has two jobs (R111), its jobs in flight. -/
structure LineRecord.Still (a b : LineRecord) : Prop where
  mode : b.mode = a.mode
  transmitter : b.transmitter = a.transmitter
  settle : b.settle = a.settle
  roll : b.roll = a.roll
  interval : b.interval = a.interval
  extras : b.extras = a.extras
  trips : b.trips = a.trips
  excess : b.excess = a.excess
  hold : b.hold = a.hold
  budget : b.budget = a.budget
  flying : (a.jobs.map Job.sign).Nodup →
    (b.jobs.map Job.sign).Nodup ∧ b.jobs.filter Job.inFlight = a.jobs.filter Job.inFlight

/-- R36 to R38, R56, R98, R148: the rooms named are evaluated once on what t holds, their signs handed with the origin o, and
the lines woken when a wake cause arises; wakes says that the event is a wake cause of its own. -/
structure Evaluated (s t : State) (rooms : RoomId → Bool) (o : Origin) (wakes : Bool) : Prop where
  boards : ∀ r, t.eval r = if rooms r = true ∧ (t.roomSetup r).enabled = true then
      evaluation (t.roomSetup r) (t.timetable r) (shownNotice t.notices r) t.clock else s.eval r
  signs : ∀ i, t.sign i = match s.mapping i with
    | none => s.sign i
    | some m => if rooms m.room = true ∧ (t.roomSetup m.room).enabled = true then
        (s.sign i).handed m.role (s.eval m.room) (t.eval m.room) o else s.sign i
  quiet : t.quiet = if QuietState.asleep s.quiet = true ∧ (wakes = true ∨ ∃ r, rooms r = true ∧
      (t.roomSetup r).enabled = true ∧ roomWakes t.setup.quiet (t.eval r) = true) then .awake else s.quiet
  woken : t.quiet ≠ s.quiet → ∀ l, (t.line l).mode = if (s.line l).mode = .quiet then .waking else (s.line l).mode
  lines : ∀ l, t.quiet = s.quiet ∨ (s.line l).mode ≠ .quiet → (s.line l).Still (t.line l)

/-- R163, R168, R172: the ports after a request is answered at one of them; their flags are stated apart. -/
def PortsAnswered (s t : State) (p : Port) : Prop :=
  ∀ q, t.port q = { (if q = p then { s.port q with reception := .answering, buffer := [], reply := (t.port q).reply
                                                   monitor := .alive, heartbeat := heartbeatTime (s.portSetup q).interval }
    else s.port q) with raised := (t.port q).raised }

/-- R166, R172: the ports after a broadcast is taken at one of them; their flags are stated apart. -/
def PortsCast (s t : State) (p : Port) : Prop :=
  ∀ q, t.port q = { (if q = p then { s.port q with reception := .hunting, buffer := [], monitor := .alive
                                                   heartbeat := heartbeatTime (s.portSetup q).interval }
    else s.port q) with raised := (t.port q).raised }

/-- A broadcast packet that the port hears and that fits its layout (R163, R166). -/
structure Cast (s : State) (h : Header) : Prop where
  running : s.run = .running
  hears : (s.port h.port).reception = .hunting ∨ (s.port h.port).reception = .receiving
  all : h.cabinet = 15
  fits : h.bodyFits = true

/-! ### Puts and jumps of the clock -/

/-- R12, check 3a. -/
structure PutFields.InTime (f : PutFields) : Prop where
  day : f.day ≤ 15
  start : f.start ≤ 1439
  after : f.start < f.stop
  stop : f.stop ≤ 1440

/-- R12, check 3b; the supersede byte is a yes-or-no byte (log 11). -/
structure PutFields.InRange (f : PutFields) : Prop where
  tagLow : 1 ≤ f.tag
  tagHigh : f.tag ≤ 65535
  titleLow : 1 ≤ f.title.length
  titleHigh : f.title.length ≤ 64
  presenter : f.presenter.length ≤ 48
  supersede : f.supersede ≤ 1

/-- R13: the entries that overlap a put: not CANCELLED, of another tag, each starting before the other ends; none when the put
itself is CANCELLED. -/
def PutFields.hits (f : PutFields) (tt : List Entry) : List Entry :=
  if f.marks.cancelled then []
  else tt.filter (fun x => !x.marks.cancelled && decide (x.tag ≠ f.tag)
    && decide (x.day * 1440 + x.start < f.day * 1440 + f.stop) && decide (f.day * 1440 + f.start < x.day * 1440 + x.stop))

/-- R14: the cells a put needs. -/
def PutFields.cells (f : PutFields) : Nat := (f.title.length + 15) / 16 + (f.presenter.length + 15) / 16

/-- R14: the cells that a put gives back: those of the entry it replaces and of the entries it supersedes. -/
def PutFields.returned (f : PutFields) (tt : List Entry) : Nat :=
  (match tt.find? (fun x => x.tag == f.tag) with
   | none => 0
   | some x => x.cells) + entriesCells (PutFields.hits f tt)

/-- R7, R15: the entry a put stores. -/
def PutFields.stored (f : PutFields) (p : Port) : Entry :=
  { tag := f.tag, day := f.day, start := f.start, stop := f.stop, title := f.title
    presenter := if f.presenter = [] then none else some f.presenter, marks := f.marks, origin := p }

/-- R17: the marks after a MARK_ENTRY. -/
def changedMarks (old setMarks clearMarks : Marks) : Marks :=
  { cancelled := if setMarks.cancelled then true else if clearMarks.cancelled then false else old.cancelled
    hidden := if setMarks.hidden then true else if clearMarks.hidden then false else old.hidden
    closedDoor := if setMarks.closedDoor then true else if clearMarks.closedDoor then false else old.closedDoor }

/-- R17: an un-cancelling mark change of e meets a non-cancelled entry of another tag that overlaps it. -/
def Entry.revives (e : Entry) (new : Marks) (tt : List Entry) : Prop :=
  e.marks.cancelled = true ∧ new.cancelled = false ∧
    ∃ x ∈ tt, x.marks.cancelled = false ∧ x.tag ≠ e.tag ∧ x.absStart < e.absEnd ∧ e.absStart < x.absEnd

/-- R29, R69: the notices that are left at absolute minute m. -/
def unexpired (l : List Notice) (m : Nat) : List Notice :=
  l.filter (fun n => match n.expiry with
    | none => true
    | some e => decide (m < e))

/-- R20: the timetables after a purge for day d. -/
def purged (s : State) (d : Nat) : Vector (List Entry) 64 :=
  s.timetables.map (fun tt => tt.filter (fun e => decide (d ≤ e.day)))

/-- R20, R22: the pressure level after the purge, if any, of a SET_CLOCK to a day, on the timetables that the purge leaves. -/
def purgeLevel (s t : State) (day : Nat) : Pressure :=
  if s.clock.isSet = false ∨ s.clock.day < day then
    nextPressure s.pressure t.freeEntries { s with timetables := t.timetables }.freeCells
  else s.pressure

/-- R20, R23, R34: the effect of a valid SET_CLOCK on everything but the flags and the port it arrives on. -/
structure Jumped (s t : State) (day minute second : Nat) : Prop where
  clock : t.clock = { isSet := true, day := day, minute := minute, second := second }
  timetables : t.timetables = if s.clock.isSet = false ∨ s.clock.day < day then purged s day else s.timetables
  notices : t.notices = unexpired s.notices (day * 1440 + minute)
  pressure : t.pressure = nextPressure (purgeLevel s t day) t.freeEntries t.freeCells
  boards : Evaluated s t (fun _ => true) .clock false
  clockFlag : ∀ q, hasFlag (t.port q).raised .clock = false
  pace : ∀ q, hasFlag (t.port q).raised .pace = true ↔ hasFlag (s.port q).raised .pace = true ∨
    purgeLevel s t day ≠ s.pressure ∨ t.pressure ≠ purgeLevel s t day
  flags : ∀ q src, src ≠ .clock → src ≠ .pace → hasFlag (t.port q).raised src = hasFlag (s.port q).raised src

/-! ### The second boundary -/

/-- R28, R118, R155, R159: what a second boundary does after the clock's own part: the refill of every budget, the sign retry
timers and the line holds. -/
structure Ticked (s t : State) : Prop where
  frame : t = { s with signs := t.signs, lines := t.lines }
  budget : ∀ l, (t.line l).budget = min ((s.line l).budget + (s.lineSetup l).refill) (s.lineSetup l).capacity
  signs : ∀ i, t.sign i = match (s.sign i).retry with
    | .running n => if n ≤ 1 then { s.sign i with fault := .none, retry := .stopped }
        else { s.sign i with retry := .running (n - 1) }
    | _ => s.sign i
  queued : ∀ i m, s.mapping i = some m → (s.sign i).retry = .running 1 → (s.line m.line).jobOf i = none →
    (s.sign i).matched = false → i ∈ (t.line m.line).dirty
  hold : ∀ l, (t.line l).hold = match (s.line l).hold with
    | .waiting n => if n ≤ 1 then .none else .waiting (n - 1)
    | x => x
  mode : ∀ l, (t.line l).mode = if (s.line l).hold = .waiting 1 ∨ (s.line l).hold = .waiting 0 then .waking
    else (s.line l).mode
  kept : ∀ l, (t.line l).trips = (s.line l).trips ∧ (t.line l).extras = (s.line l).extras ∧
    (((s.line l).jobs.map Job.sign).Nodup → (t.line l).jobs.filter Job.inFlight = (s.line l).jobs.filter Job.inFlight)

/-- R147: the quiet state after the entry check of a minute boundary. -/
def entryMove (s : State) : QuietState :=
  if s.quiet = .awake ∧ s.clock.isSet = true ∧ s.notices = [] ∧ (∀ r, (s.roomSetup r).enabled = true →
      (s.eval r).phase = .opened ∨ ((s.eval r).phase = .between ∧ ∃ g ∈ (s.eval r).gap, s.setup.quiet.qEnter < g)) then
    (if ∀ l, (s.lineSetup l).enabled = true → (s.line l).mode = .quiet ∨ (s.line l).mode = .tripped then .quiet
     else .settling)
  else s.quiet

/-! ### The grant -/

/-- R80: the waiter that a release chooses. -/
structure NextHolder (fairness : Bool) (l : List Waiter) (w : Waiter) : Prop where
  waits : w ∈ l
  once : (l.map Waiter.port).Nodup
  first : fairness = true → l.head? = some w
  lowest : fairness = false → ∀ x ∈ l, Port.code w.port ≤ Port.code x.port

/-- R79, R80: the arbiter and the flags after a release. -/
structure Released (s t : State) (withdrawals : Nat) : Prop where
  free : s.arb.waiters = [] → t.arb =
    { holder := none, rooms := [], waiters := [], staging := [], idle := none, withdrawals := withdrawals }
  granted : ∀ w, NextHolder s.setup.arbiter.fairness s.arb.waiters w → t.arb =
    { holder := some w.port, rooms := w.rooms, waiters := s.arb.waiters.filter (fun x => x.port != w.port), staging := []
      idle := some (idleTime s.setup.arbiter.idleCode), withdrawals := withdrawals }
  flags : ∀ q, (t.port q).raised =
    if t.arb.holder = some q then (s.port q).raised ||| Source.flag .grant else (s.port q).raised

/-- R83: the room of a staged record. -/
def stagedRoom : Staged → RoomId
  | .put r _ => r
  | .drop r _ => r
  | .mark r _ _ _ => r
  | .clearDay r _ => r

/-! ### The retirement of a job -/

/-- R153, R156: a sign's record after a fault under a mode and retry time, with n the count after it. -/
def SignRecord.faulted (g : SignRecord) (k : FaultKind) (mode : FaultMode) (time : Nat) : SignRecord :=
  let n := min 4 (g.failures + 1)
  match mode with
  | .latch => { g with lastFault := some k, failures := n, fault := .latched, retry := .stopped }
  | .retry =>
    if n = 4 then { g with lastFault := some k, failures := n, fault := .latched, retry := .stopped }
    else { g with lastFault := some k, failures := n, fault := .retryWait
                  retry := if k = .absent then .presence else .running time }
  | _ => { g with lastFault := some k, failures := n }

/-- R153: whether a fault raises FAULT attention. -/
def SignRecord.reports (g : SignRecord) (mode : FaultMode) : Bool :=
  match mode with
  | .latch => true
  | .report => true
  | .retry => decide (3 ≤ g.failures)
  | .ignore => false

/-- R158: the ports that an origin directs FAULT attention to. -/
def State.faultPort (s : State) (o : Origin) (q : Port) : Bool :=
  match o with
  | .port p => p == q
  | _ => (s.portSetup q).roles.setup

/-- R158: a port's latch, counter and flags after FAULT attention. -/
def PortRecord.faultTaken (x : PortRecord) (i : SignId) (k : FaultKind) : PortRecord :=
  if x.latch = none then { x with latch := some (i, k), raised := x.raised ||| Source.flag .fault }
  else { x with later := min 255 (x.later + 1), raised := x.raised ||| Source.flag .fault }

/-- R153, R158: a fault of kind k and origin o on a sign of line l whose fault state is NONE, once its job has left the list:
the sign's record, its place in the queue, and the attention. -/
structure Faulted (s t : State) (l : LineId) (i : SignId) (g : SignRecord) (k : FaultKind) (o : Origin) : Prop where
  record : t.sign i = g.faulted k (s.setup.fault.modeOf k) s.setup.fault.retryTime
  others : ∀ j, j ≠ i → t.sign j = s.sign j
  out : (t.sign i).fault ≠ .none ∨ (t.sign i).matched = true → i ∉ (t.line l).dirty
  queued : (t.sign i).fault = .none → (t.sign i).matched = false → i ∈ (t.line l).dirty
  rest : ∀ j, j ≠ i → (j ∈ (t.line l).dirty ↔ j ∈ (s.line l).dirty)
  attention : ∀ q, t.port q = if g.reports (s.setup.fault.modeOf k) && s.faultPort o q then (s.port q).faultTaken i k
    else s.port q
  lines : ∀ m, m ≠ l → t.line m = s.line m

/-- R123, R157: the failure of a sign's job: the job leaves the list with its cost spent, and the fault is its own kind with
the job's origin, or the pending ABSENT with its origin. -/
structure JobFailed (s t : State) (l : LineId) (j : Job) (k : FaultKind) : Prop where
  frame : t = { s with signs := t.signs, lines := t.lines, ports := t.ports }
  jobs : (t.line l).jobs = (s.line l).jobs.filter (fun x => x.sign != j.sign)
  budget : (t.line l).budget = (s.line l).budget
  own : (s.sign j.sign).pendingAbsent = none → Faulted s t l j.sign (s.sign j.sign) k j.origin
  pending : ∀ o, (s.sign j.sign).pendingAbsent = some o →
    Faulted s t l j.sign { s.sign j.sign with pendingAbsent := none } .absent o

/-- R111, R120, R122: a sign of line l with a job in the line's list, its fault state NONE, and no sign with two jobs there. -/
structure HasJob (s : State) (l : LineId) (i : SignId) (m : Mapping) (j : Job) : Prop where
  running : s.run = .running
  mapped : s.mapping i = some m
  line : m.line = l
  job : (s.line l).jobs.find? (fun x => x.sign == i) = some j
  once : ((s.line l).jobs.map Job.sign).Nodup
  fault : (s.sign i).fault = .none

/-- R136: the exchange on a free transmitter: the first frame of a job that is SENDING, if there is one. -/
def nextExchange (jobs : List Job) : Option Exchange :=
  match jobs.find? (fun j => j.state == .sending) with
  | none => none
  | some j => some (.job j.sign 0)

/-! ### Lines, signs and starts -/

/-- R140, R142: after the exchange of a position: the next position is called, or the roll call is complete. -/
structure RollMoved (s t : State) (l : LineId) (pos : Position) (found : List Position) : Prop where
  others : ∀ k, k ≠ l → t.line k = s.line k
  next : ∀ h : pos.val + 1 < 16, t.ports = s.ports ∧ t.line l = { s.line l with
    roll := some { next := ⟨pos.val + 1, h⟩, resent := false, found := found }
    transmitter := some (.roll ⟨pos.val + 1, h⟩) }
  done : pos.val = 15 → t.line l = { s.line l with
      roll := none, transmitter := none, extras := found
      interval := if (s.lineSetup l).interval = 0 then none else some (s.lineSetup l).interval
      mode := if (s.line l).mode = .waking then .active else (s.line l).mode } ∧
    ∀ q, t.port q = if (s.line l).extras ≠ found ∧ (s.portSetup q).roles.setup = true then
      { s.port q with raised := (s.port q).raised ||| Source.flag .line } else s.port q

/-- R134, R145: a line that goes to WAKING. -/
def restored (ln : LineRecord) : LineRecord :=
  { ln with mode := .waking, transmitter := none, settle := true, pollTimer := false, round := [], roll := none
            interval := none, excess := false, hold := .none }

/-- R148: every QUIET line goes to WAKING, and the others keep their states. -/
def WokenFrom (s t : State) : Prop :=
  ∀ l, t.line l = if (s.line l).mode = .quiet then restored (s.line l) else s.line l

/-- R124, R143, R159: a line that has tripped: switched off and held, its jobs in flight gone with their signs queued and their
delivered digests unknown, and no fault counted. -/
structure TrippedFrom (s t : State) (l : LineId) : Prop where
  mode : (t.line l).mode = .tripped
  still : (t.line l).transmitter = none ∧ (t.line l).settle = false ∧ (t.line l).pollTimer = false ∧
    (t.line l).roll = none ∧ (t.line l).interval = none
  hold : (t.line l).hold = if s.setup.fault.trip = .latch then .latched else .waiting s.setup.fault.retryTime
  jobs : (t.line l).jobs = (s.line l).jobs.filter (fun j => j.state == .ready)
  budget : (t.line l).budget = (s.line l).budget
  extras : (t.line l).extras = (s.line l).extras
  queue : ∀ i, i ∈ (t.line l).dirty ↔ i ∈ (s.line l).dirty ∨ ∃ j ∈ (s.line l).jobs, j.sign = i ∧ j.state ≠ .ready
  signs : ∀ j ∈ (s.line l).jobs, j.state ≠ .ready →
    t.sign j.sign = { s.sign j.sign with delivered := none, pendingAbsent := none }

/-- R181: the hub at the end of the start-up sequence. -/
structure Started (s t : State) (cause : StartCause) (baud : Baud) (address : Nat) (programmed : Bool) : Prop where
  run : t.run = .running
  pin : t.resetPin = false
  setup : t.setup = if s.stored.valid = true then s.stored.image else .blank
  store : t.store = if s.stored.valid = true then .idle else .blank
  kept : t.stored = s.stored ∧ t.pending = s.pending
  fixed : t.startCause = cause ∧ t.baud = baud ∧ t.address = address ∧ t.programmed = programmed
  clock : t.clock = { isSet := false, day := 0, minute := 0, second := 0 }
  empty : (∀ r, t.timetable r = []) ∧ t.notices = [] ∧ t.pressure = .normal
  arb : t.arb = { holder := none, rooms := [], waiters := [], staging := [], idle := none, withdrawals := 0 }
  boards : ∀ r, t.eval r = if (t.roomSetup r).enabled = true then evaluation (t.roomSetup r) [] none t.clock else .disabled
  untimed : ∀ r, (t.roomSetup r).enabled = true → (t.eval r).phase = .untimed
  signs : ∀ i m, t.mapping i = some m → (t.roomSetup m.room).enabled = true →
    t.sign i = { SignRecord.fresh with wanted := (t.eval m.room).digests m.role } ∧ i ∈ (t.line m.line).dirty
  unmapped : ∀ i, t.mapping i = none → t.sign i = SignRecord.fresh
  lines : ∀ l, (t.line l).mode = (if (t.lineSetup l).enabled = true then .waking else .off) ∧
    (t.line l).settle = (t.lineSetup l).enabled ∧ (t.line l).budget = (t.lineSetup l).capacity ∧ (t.line l).jobs = [] ∧
    (t.line l).transmitter = none ∧ (t.line l).roll = none ∧ (t.line l).hold = .none ∧ (t.line l).extras = [] ∧
    (t.line l).trips = 0
  quiet : t.quiet = if t.setup.quiet.enable = true then .awake else .disabled
  ports : ∀ q, t.port q = { reception := .hunting, buffer := [], reply := none, newAddress := none, discards := 0
                            monitor := .unknown, heartbeat := none, raised := Source.flag .clock, mask := 0xFF#8
                            latch := none, later := 0, outcome := none }

/-! ### What a board shows -/

/-- R42: current at absolute minute t. -/
structure Entry.Current (t : Nat) (x : Entry) : Prop where
  shown : x.marks.hidden = false
  stands : x.marks.cancelled = false
  begun : x.day * 1440 + x.start ≤ t
  lasts : t < x.day * 1440 + x.stop

/-- R43, R50: not HIDDEN, and starting after a reference minute on a day. -/
structure Entry.Ahead (ref day : Nat) (x : Entry) : Prop where
  shown : x.marks.hidden = false
  later : ref < x.day * 1440 + x.start
  today : x.day * 1440 + x.start < day * 1440 + 1440

/-- The first entry of a timetable with a property. -/
def FirstOf (p : Entry → Prop) (tt : List Entry) (x : Entry) : Prop :=
  ∃ before after, tt = before ++ x :: after ∧ p x ∧ ∀ y ∈ before, ¬ p y

/-- R47, R48: the time field that counts n minutes down to a minute of day. -/
def countTo (n minute : Nat) : TimeField := if n ≤ 99 then .countdown n else .clock (minute / 60) (minute % 60)

/-- R51, R59: the notice targets the room. -/
def Notice.AimsAt (n : Notice) (r : RoomId) : Prop := n.target = .all ∨ ∃ l, n.target = .rooms l ∧ r ∈ l

/-- R51: the notice of the highest level among those that target a room, and of these the latest in posting order. -/
structure ShownOf (l : List Notice) (r : RoomId) (n : Notice) : Prop where
  aims : n.AimsAt r
  highest : ∀ x ∈ l, x.AimsAt r → Level.code x.level ≤ Level.code n.level
  latest : ∃ before after, l = before ++ n :: after ∧ ∀ x ∈ after, x.AimsAt r → x.level ≠ n.level

/-- R50: the follow list after a reference minute of a day, of at most f items. -/
def followed (tt : List Entry) (ref day f : Nat) : List FollowItem :=
  ((tt.filter (fun x => !x.marks.hidden && decide (ref < x.day * 1440 + x.start) &&
    decide (x.day * 1440 + x.start < day * 1440 + 1440))).take f).map
    (fun x => { hh := x.start / 60, mm := x.start % 60, cancelled := x.marks.cancelled, title := x.title })

/-! ### The laws of the device -/

/-- R27: a set clock is in range, and while the clock is unset day, minute and second are 0. -/
def ClockLaw (s : State) : Prop :=
  if s.clock.isSet then s.clock.day ≤ 15 ∧ s.clock.minute ≤ 1439 ∧ s.clock.second ≤ 59
  else s.clock.day = 0 ∧ s.clock.minute = 0 ∧ s.clock.second = 0

/-- R74: the holder is never in the wait list, and the wait list holds at most two ports, none twice. -/
def GrantLaw (s : State) : Prop :=
  (∀ w ∈ s.arb.waiters, s.arb.holder ≠ some w.port) ∧ s.arb.waiters.length ≤ 2 ∧ (s.arb.waiters.map Waiter.port).Nodup

/-- R73, R77, R79: the idle timer runs while a holder exists and at no other time, and without a holder no room is held and
nothing is staged. -/
def HolderLaw (s : State) : Prop :=
  (s.arb.idle.isSome ↔ s.arb.holder.isSome) ∧ (s.arb.holder = none → s.arb.rooms = [] ∧ s.arb.staging = [])

/-- R118: a budget lies between the negative of its capacity and its capacity. -/
def BudgetLaw (s : State) : Prop :=
  ∀ l, -((s.lineSetup l).capacity : Int) ≤ (s.line l).budget ∧ (s.line l).budget ≤ ((s.lineSetup l).capacity : Int)

/-- R111, R132, R159: at most 8 jobs, no sign with two of them, at most the in-flight limit in flight, at most one SENDING,
none in flight unless the line is ACTIVE, and a hold only while the line is TRIPPED. -/
structure LineRecord.Lawful (ln : LineRecord) (c : LineSetup) : Prop where
  places : ln.jobs.length ≤ Config.jobPlaces
  once : (ln.jobs.map Job.sign).Nodup
  limit : ln.inFlight ≤ c.limit
  sending : ln.jobs.countP Job.isSending ≤ 1
  active : ln.mode ≠ .active → ln.inFlight = 0
  held : ln.hold ≠ .none → ln.mode = .tripped

/-- R111, R132, R159, for every line. -/
def JobListLaw (s : State) : Prop := ∀ l, (s.line l).Lawful (s.lineSetup l)

/-- R58: the fields of a notice in their ranges: a target list of 1 to 16 rooms, none twice, and an expiry of 1 to 23039. -/
structure Notice.Lawful (n : Notice) : Prop where
  id : 1 ≤ n.id ∧ n.id ≤ 255
  text : 1 ≤ n.text.length ∧ n.text.length ≤ 96
  target : ∀ l, n.target = .rooms l → 1 ≤ l.length ∧ l.length ≤ 16 ∧ l.Nodup
  expiry : ∀ e, n.expiry = some e → 1 ≤ e ∧ e ≤ 23039

/-- R58, R61: at most 16 notices, no id twice, and every field of a notice in its range. -/
def NoticeLaw (s : State) : Prop :=
  s.notices.length ≤ Config.noticePlaces ∧ (s.notices.map Notice.id).Nodup ∧ ∀ n ∈ s.notices, n.Lawful

/-- R8, R10: a timetable is ordered by start and then tag, holds no tag twice, and no two entries stand in each other's
way. -/
def TimetableLaw (s : State) : Prop :=
  ∀ r, (s.timetable r).Pairwise (fun a b => a.before b = true) ∧ ((s.timetable r).map Entry.tag).Nodup ∧
    (s.timetable r).Pairwise (fun a b => a.clashes b = false)

/-- R20: a room holds no entry of a day below a set clock's day. -/
def PurgeLaw (s : State) : Prop :=
  s.clock.isSet = true → ∀ r, ∀ e ∈ s.timetable r, s.clock.day ≤ e.day

/-- R1, R101, for a setup: no two mapped signs at one line and position, every mapped sign in an enabled room, and a name
for exactly the enabled rooms. -/
structure Setup.Lawful (x : Setup) : Prop where
  places : ∀ i j : SignId, ∀ m n : Mapping, x.signMap[i] = some m → x.signMap[j] = some n → m.line = n.line →
    m.position = n.position → i = j
  rooms : ∀ i : SignId, ∀ m : Mapping, x.signMap[i] = some m → x.rooms[m.room].enabled = true
  names : ∀ r : RoomId, x.rooms[r].name.isSome = x.rooms[r].enabled

/-- R1, R101: the working setup and the stored image are lawful, and a disabled room has no entries. -/
def SetupLaw (s : State) : Prop :=
  s.setup.Lawful ∧ s.stored.image.Lawful ∧ ∀ r, (s.roomSetup r).enabled = false → s.timetable r = []

/-- R95, R110, R111: no sign appears twice in a dirty queue, a queued sign and a sign with a job are mapped to the line that
holds them, and a sign whose fault state is LATCHED or RETRY_WAIT has no job and is in no dirty queue. -/
def DeliveryLaw (s : State) : Prop :=
  (∀ l, (s.line l).dirty.Nodup) ∧ ∀ l i, (i ∈ (s.line l).dirty ∨ i ∈ (s.line l).jobs.map Job.sign) →
    (∃ m, s.mapping i = some m ∧ m.line = l) ∧ (s.sign i).fault = .none

/-- R6, R9: entries in use never exceed the pool, nor cells in use the text store, and the names of the stored image fit. -/
def StoreLaw (s : State) : Prop :=
  s.usedEntries ≤ Config.poolEntries ∧ s.usedCells ≤ Config.textCells ∧ nameCells s.stored.image.rooms ≤ Config.textCells

/-- R47: a countdown in any board record lies between 1 and 99. -/
def CountdownLaw (s : State) : Prop :=
  ∀ r, match (s.eval r).board.time with
    | .countdown n => 1 ≤ n ∧ n ≤ 99
    | _ => True

end Sys2Proof.Machine
end

