-- ==== Sys2Proof/Certificates/Slice0/Obligations.lean ====
section
/-! DEFINITION. The statements for the provers. Those that name a log entry rest on the model's choice there. -/

section
open Sys2Proof Sys2Proof.Machine

/-! ### The machine -/

/-- A step carries out the command at the front of the queue on everything but the queue. The idle step on an empty queue is
the model's choice (log 2). -/
def Obligations.StepRunsFrontCommand : Prop :=
  ∀ s : State, (∀ c rest, s.pending = c :: rest → step s = exec c { s with pending := rest }) ∧
    (s.pending = [] → step s = .next s)

/-- No command stops the hub, and no command's effect reaches the queue (00_scope.md 1.3: the blocks of the hub; no rule
describes a halt, log 25). -/
def Obligations.EveryCommandCompletesAndKeepsQueue : Prop :=
  ∀ (c : Instr) (s : State), ∃ t, exec c s = .next t ∧ t.pending = s.pending

/-! ### Laws of the device that every step keeps -/

/-- R27: day 0 to 15, minute 0 to 1439 and second 0 to 59 while the clock is SET, and 0 while it is UNSET. -/
def Obligations.ClockStaysInRange : Prop :=
  ∀ s t : State, ClockLaw s → step s = .next t → ClockLaw t

/-- R74: at most one port holds the batch grant, the holder is never in the wait list, and the wait list holds at most two
ports, none twice. -/
def Obligations.GrantLawKept : Prop :=
  ∀ s t : State, GrantLaw s → step s = .next t → GrantLaw t

/-- R73, R77, R79: the idle timer runs exactly while a holder exists, and without a holder nothing is held or staged. -/
def Obligations.IdleTimerRunsWhileHeld : Prop :=
  ∀ s t : State, HolderLaw s → step s = .next t → HolderLaw t

/-- R118: every line's budget stays between the negative of its capacity and its capacity. -/
def Obligations.BudgetStaysInRange : Prop :=
  ∀ s t : State, BudgetLaw s → step s = .next t → BudgetLaw t

/-- R111, R132, R159: at most 8 jobs on a line, at most the in-flight limit in flight, at most one SENDING, none in flight on
a line that is not ACTIVE, and a hold only on a TRIPPED line. -/
def Obligations.JobListLawKept : Prop :=
  ∀ s t : State, JobListLaw s → step s = .next t → JobListLaw t

/-- R58, R61: the notice table holds at most 16 records, no id twice, each with an id of 1 to 255, a text of 1 to 96 bytes, a
target list of 1 to 16 rooms without duplicates or every room, and an expiry of 1 to 23039 or none. -/
def Obligations.NoticeTableLawKept : Prop :=
  ∀ s t : State, NoticeLaw s → step s = .next t → NoticeLaw t

/-- R8, R10: every timetable stays in order, with unique tags, and free of forbidden overlaps. -/
def Obligations.TimetableLawKept : Prop :=
  ∀ s t : State, TimetableLaw s → step s = .next t → TimetableLaw t

/-- R12 check 4, R20: while the clock is SET no entry lies on a day below the clock's day. -/
def Obligations.NoEntryBelowTheDay : Prop :=
  ∀ s t : State, PurgeLaw s → step s = .next t → PurgeLaw t

/-- R1, R3, R101: no two mapped signs share a place, every mapped sign is in an enabled room, and a disabled room has no name
and no entries; the stored copy keeps the same law. -/
def Obligations.SetupLawKept : Prop :=
  ∀ s t : State, SetupLaw s → step s = .next t → SetupLaw t

/-- R95, R110, R153: no sign appears twice in a dirty queue; a queued sign or a sign with a job is mapped to that line and its
fault state is NONE; so a LATCHED sign has no job and is in no dirty queue. -/
def Obligations.LatchedSignsStayOut : Prop :=
  ∀ s t : State, DeliveryLaw s → step s = .next t → DeliveryLaw t

/-- R6, R9: the entries in use never exceed 384, and the cells in use never exceed 1536. -/
def Obligations.PoolAndTextStoreNeverOverrun : Prop :=
  ∀ s t : State, StoreLaw s → step s = .next t → StoreLaw t

/-- The laws hold at State.reset. -/
def Obligations.LawsHoldAtReset : Prop :=
  ClockLaw State.reset ∧ GrantLaw State.reset ∧ HolderLaw State.reset ∧ BudgetLaw State.reset ∧ JobListLaw State.reset ∧
    NoticeLaw State.reset ∧ TimetableLaw State.reset ∧ PurgeLaw State.reset ∧ SetupLaw State.reset ∧
    DeliveryLaw State.reset ∧ StoreLaw State.reset ∧ CountdownLaw State.reset

/-! ### The ports -/

/-- R167, R169, R177: a direct request that fails a check of the port is refused with the status of the first check that
fails, and nothing else changes. -/
def Obligations.RequestsRefusedAtThePort : Prop :=
  ∀ (c : Instr) (s : State) (h : Header) (code : Nat) (need : Need), requestOf c = some (h, code, need) → Direct s h →
    (h.bodyFits = false → exec c s = .next (s.answeredWith h code .badLength .empty)) ∧
    (h.bodyFits = true → need.met (s.portSetup h.port).roles = false →
      exec c s = .next (s.answeredWith h code .denied .empty)) ∧
    (h.bodyFits = true → need.met (s.portSetup h.port).roles = true → need = .setup →
      (∃ p, s.store = .saving p ∨ s.store = .loading p) → exec c s = .next (s.answeredWith h code .busy .empty))

/-- R163, R164, R166: a packet that arrives while the port is SKIPPING or ANSWERING changes nothing; a packet for another
cabinet returns the port to HUNTING; a broadcast that is not accepted restarts the monitor and the holder's idle timer and is
counted. A request to a hub that is not running changes nothing (log 3). That a request row which is not accepted as a
broadcast acts as BROADCAST_DROPPED does is the model's reading (log 31). -/
def Obligations.PacketsNotForThisHub : Prop :=
  ∀ (c : Instr) (s : State) (h : Header) (code : Nat) (need : Need), requestOf c = some (h, code, need) →
    (s.run ≠ .running ∨ (s.port h.port).reception = .skipping ∨ (s.port h.port).reception = .answering →
      exec c s = .next s) ∧
    (s.run = .running → (s.port h.port).reception = .hunting ∨ (s.port h.port).reception = .receiving →
      (h.cabinet ≠ 15 → h.cabinet ≠ s.address →
        exec c s = .next (s.setPort h.port { s.port h.port with reception := .hunting, buffer := [] })) ∧
      (h.cabinet = 15 → castable c = false ∨ h.bodyFits = false →
        exec c s = .next { s.setPort h.port { s.port h.port with
            reception := .hunting, buffer := [], discards := min 65535 ((s.port h.port).discards + 1)
            monitor := .alive, heartbeat := heartbeatTime (s.portSetup h.port).interval } with
          arb := s.arb.restarted h.port s.setup.arbiter.idleCode }))

/-- R163, R164, R168, R172: an accepted request gets one reply, under the old address, with its code and the pressure level
after its effect; its port is ANSWERING with its monitor ALIVE, and the reception of the other ports is left alone. -/
def Obligations.AcceptedRequestsAreAnswered : Prop :=
  ∀ (c : Instr) (s : State) (h : Header) (code : Nat) (need : Need), requestOf c = some (h, code, need) →
    Accepted s h need → ∃ t status clamped result, exec c s = .next t ∧ Replied s t h code status clamped result ∧
      (t.port h.port).buffer = [] ∧ (t.port h.port).monitor = .alive ∧
      (t.port h.port).discards = (s.port h.port).discards ∧
      ∀ q, q ≠ h.port → (t.port q).reception = (s.port q).reception ∧ (t.port q).buffer = (s.port q).buffer ∧
        (t.port q).reply = (s.port q).reply ∧ (t.port q).newAddress = (s.port q).newAddress ∧
        (t.port q).discards = (s.port q).discards ∧ (t.port q).monitor = (s.port q).monitor ∧
        (t.port q).mask = (s.port q).mask

/-- R166, R167, R172: a request whose code the hub does not know is answered with UNKNOWN_REQUEST, and as a broadcast it is dropped
and counted; HEARTBEAT has no effect beyond the restarts, as a direct request and as a broadcast. -/
def Obligations.UnknownAndHeartbeatOnlyRestart : Prop :=
  (∀ (s : State) (h : Header) (code : Nat),
      (Direct s h → exec (.unknownRequest h code) s = .next (s.answeredWith h code .unknownRequest .empty)) ∧
      (s.run = .running → (s.port h.port).reception = .hunting ∨ (s.port h.port).reception = .receiving → h.cabinet = 15 →
        exec (.unknownRequest h code) s = .next { s.setPort h.port { s.port h.port with
              reception := .hunting, buffer := [], discards := min 65535 ((s.port h.port).discards + 1)
              monitor := .alive, heartbeat := heartbeatTime (s.portSetup h.port).interval } with
            arb := s.arb.restarted h.port s.setup.arbiter.idleCode })) ∧
  (∀ (s : State) (h : Header),
      (Accepted s h .none → exec (.heartbeat h) s = .next (s.answeredWith h 0x07 .ok .empty)) ∧
      (s.run = .running → (s.port h.port).reception = .hunting ∨ (s.port h.port).reception = .receiving → h.cabinet = 15 →
        h.bodyFits = true →
        exec (.heartbeat h) s = .next { s.setPort h.port { s.port h.port with
              reception := .hunting, buffer := [], monitor := .alive
              heartbeat := heartbeatTime (s.portSetup h.port).interval } with
            arb := s.arb.restarted h.port s.setup.arbiter.idleCode }))

/-- R163, R164, R166: what a port does with a damaged packet, a packet of no concern, a body length above 240, a broadcast that is
dropped, a lead byte in HUNTING and a gap: its reception state, its counter, and nothing else of the hub but the restarts of a
broadcast. The buffer of a packet that has begun is the model's (log 9). -/
def Obligations.PortEventsMoveReception : Prop :=
  (∀ (s : State) (p : Port), s.run = .running →
      (s.port p).reception = .hunting ∨ (s.port p).reception = .receiving →
      exec (.packetDiscarded p) s = .next (s.setPort p { s.port p with
        reception := .hunting, buffer := [], discards := min 65535 ((s.port p).discards + 1) }) ∧
      exec (.packetIgnored p) s = .next (s.setPort p { s.port p with reception := .hunting, buffer := [] }) ∧
      exec (.bodyLengthOver240 p) s = .next (s.setPort p { s.port p with
        reception := .skipping, buffer := [], discards := min 65535 ((s.port p).discards + 1) }) ∧
      exec (.broadcastDropped p) s = .next { s.setPort p { s.port p with
          reception := .hunting, buffer := [], discards := min 65535 ((s.port p).discards + 1)
          monitor := .alive, heartbeat := heartbeatTime (s.portSetup p).interval } with
        arb := s.arb.restarted p s.setup.arbiter.idleCode }) ∧
  (∀ (s : State) (p : Port), s.run = .running →
      ((s.port p).reception = .hunting → exec (.leadByteInHunting p) s =
        .next (s.setPort p { s.port p with reception := .receiving, buffer := [0xA5#8] })) ∧
      ((s.port p).reception = .receiving → exec (.receivingGap p) s =
        .next (s.setPort p { s.port p with reception := .hunting, buffer := [] })) ∧
      ((s.port p).reception = .skipping → exec (.skippingGap p) s =
        .next (s.setPort p { s.port p with reception := .hunting, buffer := [] })))

/-- R165: SET_CABINET is answered under the old address, and the programmed address takes effect when that reply has been sent;
an address of 8 or more is refused. REPLY_SENT returns the port to HUNTING. That the new address waits at the port of its own
request is the model's reading (log 13). -/
def Obligations.CabinetChangesWhenReplyEnds : Prop :=
  (∀ (s : State) (h : Header) (a : Nat), Accepted s h .setup →
    (8 ≤ a → exec (.setCabinet h a) s = .next (s.answeredWith h 0x39 .badValue .empty)) ∧
    (a < 8 → ∃ t, exec (.setCabinet h a) s = .next t ∧ Replied s t h 0x39 .ok false .empty ∧ t.address = s.address ∧
      (t.port h.port).newAddress = some a ∧ (∀ q, q ≠ h.port → t.port q = s.port q) ∧
      t = { s with ports := t.ports, arb := s.arb.restarted h.port s.setup.arbiter.idleCode })) ∧
  ∀ (s : State) (p : Port), s.run = .running → (s.port p).reception = .answering →
    ∃ t, exec (.replySent p) s = .next t ∧
      t.port p = { s.port p with reception := .hunting, buffer := [], reply := none, newAddress := none } ∧
      (∀ q, q ≠ p → t.port q = s.port q) ∧
      t.address = (s.port p).newAddress.getD s.address ∧
      t.programmed = ((s.port p).newAddress.isSome || s.programmed) ∧
      t = { s with ports := t.ports, address := t.address, programmed := t.programmed }

/-- R173, R70, R78 to R81: a lapse makes the monitor LAPSED with its timer stopped (w), removes the port's tied notices with the
pressure level and the evaluation of their targets (v), withdraws the port's grant and chooses the next holder or ends the port's
place in the wait list (u), and raises PEER on the other two ports (t). -/
def Obligations.HeartbeatLapseEndsWhatThePortHeld : Prop :=
  ∀ (s : State) (p : Port), s.run = .running → (s.port p).monitor = .alive → (s.port p).heartbeat.isSome = true →
    ∃ t, exec (.heartbeatLapse p) s = .next t ∧ (t.port p).monitor = .lapsed ∧ (t.port p).heartbeat = none ∧
      t.notices = s.notices.filter (fun n => !(n.tied && n.origin == p)) ∧
      (∀ q, q ≠ p → hasFlag (t.port q).raised .peer = true ∧ (t.port q).monitor = (s.port q).monitor) ∧
      (s.arb.holder = some p → hasFlag (t.port p).raised .withdraw = true ∧
        t.arb.withdrawals = min 255 (s.arb.withdrawals + 1) ∧ t.arb.staging = [] ∧
        t.arb.holder = (chooseWaiter s.setup.arbiter.fairness s.arb.waiters).map Waiter.port) ∧
      (s.arb.holder ≠ some p →
        t.arb = { s.arb with waiters := s.arb.waiters.filter (fun w => w.port != p) }) ∧
      (∃ w v u, w = s.setPort p { s.port p with monitor := .lapsed, heartbeat := none } ∧
        ((∀ n ∈ s.notices, n.tied = true → n.origin ≠ p) → v = w) ∧
        ((∃ n ∈ s.notices, n.tied = true ∧ n.origin = p) → Repressed w v ∧
          Evaluated w v (fun r => s.notices.any (fun n => n.tied && n.origin == p && n.targets r)) .setup false ∧
          ∀ q, v.port q = { w.port q with raised := (v.port q).raised }) ∧
        v = { w with notices := t.notices, ports := v.ports, pressure := t.pressure, evals := t.evals, signs := t.signs
                     lines := t.lines, quiet := t.quiet } ∧
        (s.arb.holder = some p →
          Released (v.setPort p { v.port p with raised := (v.port p).raised ||| Source.flag .withdraw }) u
            (min 255 (s.arb.withdrawals + 1)) ∧ ∀ q, u.port q = { v.port q with raised := (u.port q).raised }) ∧
        (s.arb.holder ≠ some p → u.ports = v.ports) ∧ u = { v with arb := t.arb, ports := u.ports } ∧
        (∀ q, t.port q = if q = p then u.port q else
          { u.port q with raised := (u.port q).raised ||| Source.flag .peer }) ∧
        t = { u with ports := t.ports }) ∧
      t = { s with ports := t.ports, notices := t.notices, arb := t.arb, evals := t.evals, signs := t.signs
                   lines := t.lines, quiet := t.quiet, pressure := t.pressure }

/-- R175: READ_ATTENTION returns the lowest source that is pending and enabled, clears it except CLOCK, and empties the
latch and counter with FAULT; code 15 when there is none. -/
def Obligations.ReadAttentionReturnsLowest : Prop :=
  ∀ (s : State) (h : Header), Accepted s h .none →
    ((s.port h.port).raised &&& (s.port h.port).mask = 0#8 →
      exec (.readAttention h) s = .next (s.answeredWith h 0x08 .ok (.attention 15 .none (s.port h.port).raised))) ∧
    ∀ src, hasFlag ((s.port h.port).raised &&& (s.port h.port).mask) src = true →
      (∀ other, hasFlag ((s.port h.port).raised &&& (s.port h.port).mask) other = true →
        Source.code src ≤ Source.code other) →
      ∃ t, exec (.readAttention h) s = .next t ∧
        Replied s t h 0x08 .ok false (.attention (Source.code src)
          (match src with
           | .fault => .fault (s.port h.port).latch (s.port h.port).later
           | .pace => .pace s.pressure
           | .peer => .peer (t.ports.map PortRecord.monitor)
           | .clock => .clock s.clock.isSet
           | .store => .store (s.port h.port).outcome
           | _ => .none) (t.port h.port).raised) ∧
        (t.port h.port).raised =
          (if src = .clock then (s.port h.port).raised else (s.port h.port).raised &&& ~~~ Source.flag src) ∧
        (t.port h.port).latch = (if src = .fault then none else (s.port h.port).latch) ∧
        (t.port h.port).later = (if src = .fault then 0 else (s.port h.port).later) ∧
        (t.port h.port).mask = (s.port h.port).mask ∧ (∀ q, q ≠ h.port → t.port q = s.port q) ∧
        t = { s with ports := t.ports, arb := s.arb.restarted h.port s.setup.arbiter.idleCode }

/-- R176: SET_ATTENTION_MASK sets the mask of the port on which it arrives and of no other port, and changes no flag, latch or
counter; the attention line follows at once (R174). As a broadcast it is dropped. -/
def Obligations.AttentionMaskIsSet : Prop :=
  ∀ (s : State) (h : Header) (mask : BitVec 8),
    (Cast s h → exec (.setAttentionMask h mask) s = exec (.broadcastDropped h.port) s) ∧
    (Accepted s h .none → ∃ t, exec (.setAttentionMask h mask) s = .next t ∧
      Replied s t h 0x09 .ok false (.mask mask (s.port h.port).raised) ∧ (t.port h.port).mask = mask ∧
      (t.port h.port).raised = (s.port h.port).raised ∧ (t.port h.port).latch = (s.port h.port).latch ∧
      (t.port h.port).later = (s.port h.port).later ∧
      (t.attentionLine h.port = true ↔ (s.port h.port).raised &&& mask ≠ 0#8) ∧
      (∀ q, q ≠ h.port → t.port q = s.port q) ∧
      t = { s with ports := t.ports, arb := s.arb.restarted h.port s.setup.arbiter.idleCode })

/-- R170: SET_PORT stores the role set and the interval of the named port, a code above 4 as OFF with CLAMPED; an ALIVE
monitor's timer restarts with the interval or stops, and any other monitor of another port is left as it is. -/
def Obligations.SetPortStoresRolesAndInterval : Prop :=
  ∀ (s : State) (h : Header) (target code : Nat) (roles : RoleSet), Accepted s h .setup →
    (2 < target → exec (.setPort h target roles code) s = .next (s.answeredWith h 0x38 .badValue .empty)) ∧
    ∀ q, port? target = some q → ∃ t, exec (.setPort h target roles code) s = .next t ∧
      Replied s t h 0x38 .ok (decide (4 < code)) (.portSet roles (if 4 < code then 0 else code)) ∧
      t.portSetup q = { roles := roles, interval := if 4 < code then 0 else code } ∧
      (∀ p, p ≠ q → t.portSetup p = s.portSetup p) ∧
      (q = h.port ∨ (s.port q).monitor = .alive →
        (t.port q).heartbeat = heartbeatTime (if 4 < code then 0 else code)) ∧
      (q ≠ h.port → (s.port q).monitor ≠ .alive → t.port q = s.port q) ∧
      (∀ p, p ≠ q → p ≠ h.port → t.port p = s.port p) ∧
      t = { s with ports := t.ports, arb := s.arb.restarted h.port s.setup.arbiter.idleCode
                   setup := { s.setup with ports := t.setup.ports } }

/-! ### The reads -/

/-- R25, R26, R72, R171: READ_STATUS carries the state of the clock, the pressure level and free counts, start cause, quiet state,
grant, store, counters, ports and address; READ_ROOM, READ_ENTRY and READ_NOTICE carry what they name and refuse what is not
there; none changes anything. -/
def Obligations.StatusRoomEntryAndNoticeReadsReport : Prop :=
  ∀ (s : State) (h : Header), Accepted s h .none →
    exec (.readStatus h) s = .next (s.answeredWith h 0x01 .ok (.status
      { clock := s.clock, pressure := s.pressure
        freeEntries := 384 - (s.timetables.toList.map List.length).sum
        freeCells := 1536 - s.usedCells
        startCause := s.startCause, quiet := s.quiet, holder := s.arb.holder
        waiters := s.arb.waiters.map Waiter.port, withdrawals := s.arb.withdrawals, store := s.store
        discards := s.ports.map PortRecord.discards, ports := s.setup.ports
        monitors := (s.ports.map PortRecord.monitor).set (portIndex h.port) .alive
        address := s.address, programmed := s.programmed })) ∧
    (∀ room first tag, 64 ≤ room →
      exec (.readRoom h room first) s = .next (s.answeredWith h 0x02 .noRoom .empty) ∧
      exec (.readEntry h room tag) s = .next (s.answeredWith h 0x03 .noRoom .empty)) ∧
    (∀ (r : RoomId) first, exec (.readRoom h r.val first) s = .next (s.answeredWith h 0x02 .ok (.room
      { setup := s.roomSetup r, held := s.arb.rooms.contains r, count := (s.timetable r).length
        phase := (s.eval r).phase, items := ((s.timetable r).drop first).take 16 }))) ∧
    (∀ (r : RoomId) tag, ((s.timetable r).find? (fun e => e.tag == tag) = none →
        exec (.readEntry h r.val tag) s = .next (s.answeredWith h 0x03 .noEntry .empty)) ∧
      ∀ e, (s.timetable r).find? (fun e => e.tag == tag) = some e →
        exec (.readEntry h r.val tag) s = .next (s.answeredWith h 0x03 .ok (.entry r e))) ∧
    exec (.readNotice h 0) s =
      .next (s.answeredWith h 0x06 .ok (.noticeList (s.notices.map (fun n => (n.id, n.level))))) ∧
    (∀ id, id ≠ 0 → (∀ n ∈ s.notices, n.id ≠ id) →
      exec (.readNotice h id) s = .next (s.answeredWith h 0x06 .noNotice .empty)) ∧
    (∀ before n after, s.notices = before ++ n :: after → n.id ≠ 0 → (∀ x ∈ before, x.id ≠ n.id) →
      exec (.readNotice h n.id) s = .next (s.answeredWith h 0x06 .ok (.notice n (before.length + 1))))

/-- R95, R109, R129, R150: READ_SIGN and READ_LINE carry the sign's record, place and job and the line's two parts, refuse
numbers out of range, and change nothing. That the position of a running roll call is the one whose exchange has not ended is
the model's reading (log 23). -/
def Obligations.SignAndLineReadsReport : Prop :=
  ∀ (s : State) (h : Header), Accepted s h .none →
    (∀ n, 96 ≤ n → exec (.readSign h n) s = .next (s.answeredWith h 0x04 .badValue .empty)) ∧
    (∀ n, 6 ≤ n → exec (.readLine h n) s = .next (s.answeredWith h 0x05 .badValue .empty)) ∧
    (∀ i : SignId, s.mapping i = none → exec (.readSign h i.val) s = .next (s.answeredWith h 0x04 .ok (.sign
      { number := i, mapping := none, record := s.sign i, delivery := .clean, place := none, job := none }))) ∧
    (∀ (i : SignId) m, s.mapping i = some m → exec (.readSign h i.val) s = .next (s.answeredWith h 0x04 .ok (.sign
      { number := i, mapping := some m, record := s.sign i
        delivery := if ((s.line m.line).jobs.find? (fun j => j.sign == i)).isSome then .jobbed
          else if (s.sign i).matched then .clean else .dirty
        place := ((s.line m.line).dirty.idxOf? i).map (fun n => n + 1)
        job := ((s.line m.line).jobs.find? (fun j => j.sign == i)).map (fun j => (j.kind, j.state, j.urgent)) }))) ∧
    (∀ l : LineId, exec (.readLine h l.val) s = .next (s.answeredWith h 0x05 .ok (.line
      { setup := s.lineSetup l, grouping := s.setup.grouping, budget := (s.line l).budget, dirty := (s.line l).dirty
        jobs := (s.line l).jobs.map (fun j => { sign := j.sign, kind := j.kind, cost := j.cost
                                                effective := min j.cost (s.lineSetup l).capacity
                                                urgent := j.urgent, state := j.state })
        mode := (s.line l).mode, trips := (s.line l).trips, roll := (s.line l).roll.map RollCall.next
        extras := (s.line l).extras })))

/-! ### Rooms, timetable and boards -/

/-- R12 to R15, R23: a PUT_ENTRY that passes its checks stores its entry in the order of R8, replaces the entry of its tag,
removes what it supersedes, re-evaluates the pressure level and evaluates the room. -/
def Obligations.PutEntryStores : Prop :=
  ∀ (s : State) (h : Header) (r : RoomId) (f : PutFields), Accepted s h .timetable → (s.roomSetup r).enabled = true →
    r ∉ s.arb.rooms → PutFields.InTime f → PutFields.InRange f → (s.clock.isSet = true → s.clock.day ≤ f.day) →
    PutFields.hits f (s.timetable r) = [] ∨ f.supersede = 1 →
    ((s.timetable r).any (fun x => x.tag == f.tag) = true ∨ 0 < s.freeEntries + (PutFields.hits f (s.timetable r)).length) →
    PutFields.cells f ≤ s.freeCells + PutFields.returned f (s.timetable r) →
    ∃ t, exec (.putEntry h r.val f) s = .next t ∧
      Replied s t h 0x10 .ok false (.put ((s.timetable r).any (fun x => x.tag == f.tag))
        (PutFields.hits f (s.timetable r)).length) ∧
      (∀ x, x ∈ t.timetable r ↔ x = PutFields.stored f h.port ∨
        (x ∈ s.timetable r ∧ x.tag ≠ f.tag ∧ x ∉ PutFields.hits f (s.timetable r))) ∧
      ((s.timetable r).Pairwise (fun a b => a.before b = true) →
        (t.timetable r).Pairwise (fun a b => a.before b = true)) ∧
      (∀ q, q ≠ r → t.timetable q = s.timetable q) ∧ Repressed s t ∧
      Evaluated s t (fun q => q == r) (.port h.port) false ∧ PortsAnswered s t h.port ∧
      t = { s with arb := s.arb.restarted h.port s.setup.arbiter.idleCode, ports := t.ports, timetables := t.timetables
                   evals := t.evals, pressure := t.pressure, signs := t.signs, lines := t.lines, quiet := t.quiet }

/-- R12 to R14, R16, R17, R19, R75: the refusals of the four timetable requests, in the order of their checks: NO_ROOM, HELD whichever
port sends them, and PUT_ENTRY's BAD_TIME to TEXT_FULL, NO_ENTRY, an un-cancelling overlap and a day above 15; a refused request
changes nothing. That a supersede byte above 1 is BAD_VALUE in check 3b is the model's choice (log 11). -/
def Obligations.TimetableRequestsRefuse : Prop :=
  (∀ (s : State) (h : Header) (r : RoomId) (f : PutFields), Accepted s h .timetable → (s.roomSetup r).enabled = true →
      r ∉ s.arb.rooms →
      (¬ PutFields.InTime f → exec (.putEntry h r.val f) s = .next (s.answeredWith h 0x10 .badTime .empty)) ∧
      (PutFields.InTime f → ¬ PutFields.InRange f →
        exec (.putEntry h r.val f) s = .next (s.answeredWith h 0x10 .badValue .empty)) ∧
      (PutFields.InTime f → PutFields.InRange f →
        (s.clock.isSet = true → f.day < s.clock.day →
          exec (.putEntry h r.val f) s = .next (s.answeredWith h 0x10 .past .empty)) ∧
        ((s.clock.isSet = true → s.clock.day ≤ f.day) →
          (PutFields.hits f (s.timetable r) ≠ [] → f.supersede = 0 →
            exec (.putEntry h r.val f) s = .next (s.answeredWith h 0x10 .overlap .empty)) ∧
          (PutFields.hits f (s.timetable r) = [] ∨ f.supersede = 1 →
            ((∀ x ∈ s.timetable r, x.tag ≠ f.tag) → s.freeEntries = 0 → PutFields.hits f (s.timetable r) = [] →
              exec (.putEntry h r.val f) s = .next (s.answeredWith h 0x10 .poolFull .empty)) ∧
            ((∃ x ∈ s.timetable r, x.tag = f.tag) ∨ 0 < s.freeEntries ∨ PutFields.hits f (s.timetable r) ≠ [] →
              s.freeCells + PutFields.returned f (s.timetable r) < PutFields.cells f →
              exec (.putEntry h r.val f) s = .next (s.answeredWith h 0x10 .textFull .empty)))))) ∧
  (∀ (s : State) (h : Header) (room tag day : Nat) (f : PutFields) (a b : Marks), Accepted s h .timetable →
      ((∀ r : RoomId, r.val = room → (s.roomSetup r).enabled = false) →
        exec (.putEntry h room f) s = .next (s.answeredWith h 0x10 .noRoom .empty) ∧
        exec (.dropEntry h room tag) s = .next (s.answeredWith h 0x11 .noRoom .empty) ∧
        exec (.markEntry h room tag a b) s = .next (s.answeredWith h 0x12 .noRoom .empty) ∧
        exec (.clearDay h room day) s = .next (s.answeredWith h 0x13 .noRoom .empty)) ∧
      ∀ r : RoomId, r.val = room → (s.roomSetup r).enabled = true →
        (r ∈ s.arb.rooms →
          exec (.putEntry h room f) s = .next (s.answeredWith h 0x10 .held .empty) ∧
          exec (.dropEntry h room tag) s = .next (s.answeredWith h 0x11 .held .empty) ∧
          exec (.markEntry h room tag a b) s = .next (s.answeredWith h 0x12 .held .empty) ∧
          exec (.clearDay h room day) s = .next (s.answeredWith h 0x13 .held .empty)) ∧
        (r ∉ s.arb.rooms →
          ((∀ x ∈ s.timetable r, x.tag ≠ tag) →
            exec (.dropEntry h room tag) s = .next (s.answeredWith h 0x11 .noEntry .empty) ∧
            exec (.markEntry h room tag a b) s = .next (s.answeredWith h 0x12 .noEntry .empty)) ∧
          (∀ e, (s.timetable r).find? (fun x => x.tag == tag) = some e →
            Entry.revives e (changedMarks e.marks a b) (s.timetable r) →
            exec (.markEntry h room tag a b) s = .next (s.answeredWith h 0x12 .overlap .empty)) ∧
          (15 < day → exec (.clearDay h room day) s = .next (s.answeredWith h 0x13 .badTime .empty))))

/-- R16 to R19: DROP_ENTRY and CLEAR_DAY remove what they name, MARK_ENTRY changes the marks and the origin; each evaluates the
room with the requesting port as origin, and a mark change or day clear that changes nothing changes nothing. -/
def Obligations.DropMarkAndClearChange : Prop :=
  ∀ (s : State) (h : Header) (r : RoomId), Accepted s h .timetable → (s.roomSetup r).enabled = true → r ∉ s.arb.rooms →
    (∀ tag, (∃ x ∈ s.timetable r, x.tag = tag) → ∃ t, exec (.dropEntry h r.val tag) s = .next t ∧
      Replied s t h 0x11 .ok false .empty ∧ t.timetable r = (s.timetable r).filter (fun x => x.tag != tag) ∧
      (∀ q, q ≠ r → t.timetable q = s.timetable q) ∧ Repressed s t ∧
      Evaluated s t (fun q => q == r) (.port h.port) false ∧ PortsAnswered s t h.port ∧
      t = { s with arb := s.arb.restarted h.port s.setup.arbiter.idleCode, ports := t.ports, timetables := t.timetables
                   evals := t.evals, pressure := t.pressure, signs := t.signs, lines := t.lines, quiet := t.quiet }) ∧
    (∀ tag a b e, (s.timetable r).find? (fun x => x.tag == tag) = some e →
      ¬ Entry.revives e (changedMarks e.marks a b) (s.timetable r) →
      (changedMarks e.marks a b = e.marks →
        exec (.markEntry h r.val tag a b) s = .next (s.answeredWith h 0x12 .ok (.marks e.marks))) ∧
      (changedMarks e.marks a b ≠ e.marks → ∃ t, exec (.markEntry h r.val tag a b) s = .next t ∧
        Replied s t h 0x12 .ok false (.marks (changedMarks e.marks a b)) ∧
        t.timetable r = (s.timetable r).map (fun x => if x.tag = tag ∧ x.marks ≠ changedMarks e.marks a b then
          { x with marks := changedMarks e.marks a b, origin := h.port } else x) ∧
        (∀ q, q ≠ r → t.timetable q = s.timetable q) ∧ Unpressed s t ∧
        Evaluated s t (fun q => q == r) (.port h.port) false ∧ PortsAnswered s t h.port ∧
        t = { s with arb := s.arb.restarted h.port s.setup.arbiter.idleCode, ports := t.ports, timetables := t.timetables
                     evals := t.evals, signs := t.signs, lines := t.lines, quiet := t.quiet })) ∧
    ∀ day, day ≤ 15 →
      ((∀ x ∈ s.timetable r, x.day ≠ day) →
        exec (.clearDay h r.val day) s = .next (s.answeredWith h 0x13 .ok (.count 0))) ∧
      ((∃ x ∈ s.timetable r, x.day = day) → ∃ t, exec (.clearDay h r.val day) s = .next t ∧
        Replied s t h 0x13 .ok false (.count ((s.timetable r).filter (fun x => x.day == day)).length) ∧
        t.timetable r = (s.timetable r).filter (fun x => x.day != day) ∧
        (∀ q, q ≠ r → t.timetable q = s.timetable q) ∧ Repressed s t ∧
        Evaluated s t (fun q => q == r) (.port h.port) false ∧ PortsAnswered s t h.port ∧
        t = { s with arb := s.arb.restarted h.port s.setup.arbiter.idleCode, ports := t.ports, timetables := t.timetables
                     evals := t.evals, pressure := t.pressure, signs := t.signs, lines := t.lines, quiet := t.quiet })

/-- R41 to R56: what the evaluation of a room gives: the phase, the entries it names, the gap, the headline, subline and marks, the
time field with its clamp, the follow list, the notice over them, and the digests of both forms; and which notice of the table a
room shows. -/
def Obligations.BoardsFollowTimetableAndNotices : Prop :=
  (∀ (l : List Notice) (r : RoomId), ((∀ x ∈ l, ¬ x.AimsAt r) → shownNotice l r = none) ∧
    ∀ n, ShownOf l r n → shownNotice l r = some n) ∧
  ∀ (rs : RoomSetup) (tt : List Entry) (n : Option Notice) (k : Clock) (e : EvalRecord), e = evaluation rs tt n k →
    k.minute ≤ 1439 →
    (e.plateDigests = some (formDigests .plate e.board) ∧ e.boardDigests = some (formDigests .board e.board) ∧
      e.board.phase = e.phase ∧ e.board.name = rs.name ∧ e.shown = n.map (fun x => (x.id, x.level)) ∧
      e.board.notice = n.map (fun x => (x.level, x.text))) ∧
    (∀ x, n = some x → x.level = .urgent → e.phase = .notice ∧ e.board.headline = none ∧ e.board.subline = none ∧
      e.board.time = .none ∧ e.board.cancelled = false ∧ e.board.closedDoor = false ∧ e.board.follow = []) ∧
    (k.isSet = false → e.current = none ∧ e.next = none ∧ e.gap = none ∧ ((∀ x, n = some x → x.level ≠ .urgent) →
      e.phase = .untimed ∧ e.board.headline = none ∧ e.board.subline = none ∧ e.board.time = .none ∧
      e.board.cancelled = false ∧ e.board.closedDoor = false ∧ e.board.follow = [])) ∧
    (k.isSet = true →
      (∀ m, FirstOf (Entry.Ahead (k.day * 1440 + k.minute) k.day) tt m → e.next = some m.tag) ∧
      ((∀ x ∈ tt, ¬ Entry.Ahead (k.day * 1440 + k.minute) k.day x) → e.next = none) ∧
      (∀ c left, FirstOf (Entry.Current (k.day * 1440 + k.minute)) tt c →
        left = c.day * 1440 + c.stop - (k.day * 1440 + k.minute) →
        e.current = some c.tag ∧ e.gap = none ∧ ((∀ x, n = some x → x.level ≠ .urgent) →
          e.phase = (if left ≤ rs.closing then .closing else .live) ∧ e.board.headline = some c.title ∧
          e.board.subline = c.presenter ∧ e.board.cancelled = false ∧ e.board.closedDoor = c.marks.closedDoor ∧
          e.board.time = (if left ≤ rs.closing then countTo left c.stop else .clock (c.stop / 60) (c.stop % 60)) ∧
          e.board.follow = followed tt (c.day * 1440 + c.start) k.day rs.follow)) ∧
      ((∀ x ∈ tt, ¬ Entry.Current (k.day * 1440 + k.minute) x) → e.current = none ∧
        (∀ m gap, FirstOf (Entry.Ahead (k.day * 1440 + k.minute) k.day) tt m →
          gap = m.day * 1440 + m.start - (k.day * 1440 + k.minute) →
          e.gap = some gap ∧ ((∀ x, n = some x → x.level ≠ .urgent) →
            e.phase = (if m.marks.cancelled = false ∧ gap ≤ rs.lead then .soon else .between) ∧
            e.board.headline = some m.title ∧ e.board.subline = m.presenter ∧
            e.board.cancelled = m.marks.cancelled ∧ e.board.closedDoor = m.marks.closedDoor ∧
            e.board.time = (if m.marks.cancelled = false ∧ gap ≤ rs.lead then countTo gap m.start
              else .clock (m.start / 60) (m.start % 60)) ∧
            e.board.follow = followed tt (m.day * 1440 + m.start) k.day rs.follow)) ∧
        ((∀ x ∈ tt, ¬ Entry.Ahead (k.day * 1440 + k.minute) k.day x) → e.gap = none ∧
          ((∀ x, n = some x → x.level ≠ .urgent) → e.phase = .opened ∧ e.board.headline = none ∧
            e.board.subline = none ∧ e.board.time = .none ∧ e.board.cancelled = false ∧ e.board.closedDoor = false ∧
            e.board.follow = []))))

/-- R44, R45, R47: a countdown on any board lies between 1 and 99. -/
def Obligations.CountdownsStayInRange : Prop :=
  ∀ s t : State, CountdownLaw s → step s = .next t → CountdownLaw t

/-- R3, R4, R40: SET_ROOM: its checks in their order, the clamps of L, C and F, the name stored or dropped in place, and the
room evaluated, or in the disabled form. An enable byte above 1 is the model's BAD_VALUE (log 11). -/
def Obligations.RoomIsSetUp : Prop :=
  ∀ (s : State) (h : Header) (f : RoomFields), Accepted s h .setup →
    (∀ room, 64 ≤ room → exec (.setRoom h room f) s = .next (s.answeredWith h 0x30 .noRoom .empty)) ∧
    ∀ r : RoomId,
      (1 < f.enable → exec (.setRoom h r.val f) s = .next (s.answeredWith h 0x30 .badValue .empty)) ∧
      (f.enable = 0 → (s.timetable r ≠ [] ∨ (∃ i m, s.mapping i = some m ∧ m.room = r) ∨ r ∈ s.arb.rooms) →
        exec (.setRoom h r.val f) s = .next (s.answeredWith h 0x30 .busy .empty)) ∧
      (f.enable = 0 → s.timetable r = [] → (∀ i m, s.mapping i = some m → m.room ≠ r) → r ∉ s.arb.rooms →
        ∃ t, exec (.setRoom h r.val f) s = .next t ∧
          Replied s t h 0x30 .ok (decide (240 < f.lead ∨ 120 < f.closing ∨ 3 < f.follow)) .empty ∧
          t.roomSetup r = { enabled := false, name := none, lead := min 240 f.lead, closing := min 120 f.closing
                            follow := min 3 f.follow } ∧
          (∀ q, q ≠ r → t.roomSetup q = s.roomSetup q ∧ t.eval q = s.eval q) ∧ t.eval r = .disabled ∧ Repressed s t ∧
          PortsAnswered s t h.port ∧
          t = { s with arb := s.arb.restarted h.port s.setup.arbiter.idleCode, ports := t.ports, evals := t.evals
                       pressure := t.pressure, setup := { s.setup with rooms := t.setup.rooms } }) ∧
      (f.enable = 1 →
        (f.name.length < 1 ∨ 32 < f.name.length →
          exec (.setRoom h r.val f) s = .next (s.answeredWith h 0x30 .badValue .empty)) ∧
        (1 ≤ f.name.length → f.name.length ≤ 32 →
          (s.freeCells + optCellsOf (s.roomSetup r).name < (f.name.length + 15) / 16 →
            exec (.setRoom h r.val f) s = .next (s.answeredWith h 0x30 .textFull .empty)) ∧
          ((f.name.length + 15) / 16 ≤ s.freeCells + optCellsOf (s.roomSetup r).name →
            ∃ t, exec (.setRoom h r.val f) s = .next t ∧
              Replied s t h 0x30 .ok (decide (240 < f.lead ∨ 120 < f.closing ∨ 3 < f.follow)) .empty ∧
              t.roomSetup r = { enabled := true, name := some f.name, lead := min 240 f.lead
                                closing := min 120 f.closing, follow := min 3 f.follow } ∧
              (∀ q, q ≠ r → t.roomSetup q = s.roomSetup q) ∧ Repressed s t ∧
              Evaluated s t (fun q => q == r) .setup false ∧ PortsAnswered s t h.port ∧
              t = { s with arb := s.arb.restarted h.port s.setup.arbiter.idleCode, ports := t.ports, evals := t.evals
                           pressure := t.pressure, signs := t.signs, lines := t.lines, quiet := t.quiet
                           setup := { s.setup with rooms := t.setup.rooms } })))

/-! ### The clock -/

/-- R28, R118, R155, R159: a second boundary that brings no minute boundary advances the second of a set clock, refills every
budget and counts down every retry wait. The order within the boundary is the model's (log 8). That the ends of the retry waits
are part of it is the model's reading (log 7). -/
def Obligations.SecondBoundaryCounts : Prop :=
  ∀ s : State, s.run = .running → s.clock.isSet = false ∨ s.clock.second < 59 →
    ∃ t, exec .secondBoundary s = .next t ∧
      Ticked { s with clock := if s.clock.isSet then { s.clock with second := s.clock.second + 1 } else s.clock } t

/-- R29, R69, R147: a minute boundary removes the expired notices, evaluates every enabled room with CLOCK as origin, takes the
quiet entry check in AWAKE, and does the second boundary's work. The row acts at its own moment alone (log 6). That the second
boundary brings it, the order within it, the ends of the retry waits, and the move to QUIET in the step that finds every line
asleep are the model's readings (logs 6, 8, 7, 21). -/
def Obligations.MinuteBoundaryActs : Prop :=
  ∀ s : State, s.run = .running → s.clock.isSet = true → s.clock.second = 59 → s.clock.minute < 1439 →
    ∃ v t, exec .minuteBoundary s = .next t ∧ exec .secondBoundary s = .next t ∧
      v = { s with clock := { s.clock with minute := s.clock.minute + 1, second := 0 }, notices := v.notices
                   pressure := v.pressure, ports := v.ports, evals := v.evals, signs := v.signs, lines := v.lines
                   quiet := v.quiet } ∧
      v.notices = unexpired s.notices (s.clock.day * 1440 + s.clock.minute + 1) ∧ Repressed s v ∧
      Evaluated s v (fun _ => true) .clock false ∧ Ticked { v with quiet := entryMove v } t

/-- R20, R30, R31: a day boundary purges the entries of earlier days before the minute's work; the one out of day 15 unsets the
clock, raises CLOCK on every port, evaluates every enabled room, wakes the lines and purges nothing. The rows act at their own
moments alone (log 6); the order within the boundary, the ends of the retry waits, and the move to QUIET in the step that finds
every line asleep are the model's readings (logs 8, 7, 21). -/
def Obligations.DayBoundariesAct : Prop :=
  ∀ s : State, s.run = .running → s.clock.isSet = true → s.clock.second = 59 → s.clock.minute = 1439 →
    (s.clock.day < 15 → ∃ u v t, exec .dayBoundary s = .next t ∧ exec .secondBoundary s = .next t ∧
      u = { s with timetables := purged s (s.clock.day + 1), pressure := u.pressure, ports := u.ports } ∧ Repressed s u ∧
      v = { u with clock := { isSet := true, day := s.clock.day + 1, minute := 0, second := 0 }, notices := v.notices
                   pressure := v.pressure, ports := v.ports, evals := v.evals, signs := v.signs, lines := v.lines
                   quiet := v.quiet } ∧
      v.notices = unexpired s.notices ((s.clock.day + 1) * 1440) ∧ Repressed u v ∧
      Evaluated s v (fun _ => true) .clock false ∧ Ticked { v with quiet := entryMove v } t) ∧
    (s.clock.day = 15 → ∃ v t, exec .dayBoundaryOutOfDay15 s = .next t ∧ exec .secondBoundary s = .next t ∧
      v = { s with clock := { isSet := false, day := 0, minute := 0, second := 0 }, ports := v.ports, evals := v.evals
                   signs := v.signs, lines := v.lines, quiet := v.quiet } ∧
      (∀ q, v.port q = { s.port q with raised := (s.port q).raised ||| Source.flag .clock }) ∧
      Evaluated s v (fun _ => true) .clock true ∧ Ticked v t)

/-- R33, R34: SET_CLOCK, direct and as a broadcast: a port without either role or a value out of range is refused, or dropped and
counted; a valid set purges, loads the clock, expires notices, evaluates every enabled room and clears CLOCK on every port, with
the pressure level re-evaluated after the purge and after the expiry and PACE raised on every port when it changes. -/
def Obligations.ClockIsSet : Prop :=
  ∀ (s : State) (h : Header) (day minute second : Nat),
    (Direct s h → h.bodyFits = true → (s.portSetup h.port).roles.timetable = false →
      (s.portSetup h.port).roles.setup = false →
      exec (.setClock h day minute second) s = .next (s.answeredWith h 0x14 .denied .empty)) ∧
    (Accepted s h .timetableOrSetup →
      (15 < day ∨ 1439 < minute ∨ 59 < second →
        exec (.setClock h day minute second) s = .next (s.answeredWith h 0x14 .badTime .empty)) ∧
      (day ≤ 15 → minute ≤ 1439 → second ≤ 59 → ∃ t, exec (.setClock h day minute second) s = .next t ∧
        Replied s t h 0x14 .ok false (.count (s.usedEntries - t.usedEntries)) ∧ Jumped s t day minute second ∧
        PortsAnswered s t h.port ∧
        t = { s with arb := s.arb.restarted h.port s.setup.arbiter.idleCode, ports := t.ports, clock := t.clock
                     timetables := t.timetables, notices := t.notices, pressure := t.pressure, evals := t.evals
                     signs := t.signs, lines := t.lines, quiet := t.quiet })) ∧
    (Cast s h →
      ((¬ ((s.portSetup h.port).roles.timetable = true ∨ (s.portSetup h.port).roles.setup = true) ∨
          15 < day ∨ 1439 < minute ∨ 59 < second) →
        exec (.setClock h day minute second) s = exec (.broadcastDropped h.port) s) ∧
      ((s.portSetup h.port).roles.timetable = true ∨ (s.portSetup h.port).roles.setup = true →
        day ≤ 15 → minute ≤ 1439 → second ≤ 59 → ∃ t, exec (.setClock h day minute second) s = .next t ∧
          Jumped s t day minute second ∧ PortsCast s t h.port ∧
          t = { s with arb := s.arb.restarted h.port s.setup.arbiter.idleCode, ports := t.ports, clock := t.clock
                       timetables := t.timetables, notices := t.notices, pressure := t.pressure, evals := t.evals
                       signs := t.signs, lines := t.lines, quiet := t.quiet }))

/-! ### Notices -/

/-- R60, R61, R65 to R67: a POST_NOTICE that passes its checks stores its record at the end of the posting order, in place of the
record of its id, and evaluates what either targets; as a broadcast it is untied with SETUP as origin of the evaluation. -/
def Obligations.NoticeIsPosted : Prop :=
  ∀ (s : State) (h : Header) (f : PostFields) (lvl : Level) (rooms : List RoomId), 1 ≤ f.id → f.id ≤ 255 →
    level? f.level = some lvl → 1 ≤ f.text.length → f.text.length ≤ 96 → f.target = rooms.map Fin.val →
    rooms.length ≤ 16 → f.tied ≤ 1 → (∀ r ∈ rooms, (s.roomSetup r).enabled = true) → rooms.Nodup →
    (f.expiry ≠ 0 → s.clock.isSet = true ∧ s.clock.day * 1440 + s.clock.minute < f.expiry ∧ f.expiry ≤ 23039) →
    ((∃ n ∈ s.notices, n.id = f.id) ∨ s.notices.length < 16) →
    (f.text.length + 15) / 16 ≤ s.freeCells + (match s.notices.find? (fun n => n.id == f.id) with
      | none => 0
      | some n => (n.text.length + 15) / 16) →
    (Accepted s h .notice → ∃ t, exec (.postNotice h f) s = .next t ∧
      Replied s t h 0x20 .ok false (.posted (s.notices.any (fun n => n.id == f.id)) t.notices.length) ∧
      t.notices = s.notices.filter (fun n => n.id != f.id) ++
        [{ id := f.id, level := lvl, target := if rooms = [] then .all else .rooms rooms, text := f.text
           expiry := if f.expiry = 0 then none else some f.expiry, tied := f.tied == 1, origin := h.port
           broadcast := false }] ∧
      Repressed s t ∧
      Evaluated s t (fun r => rooms = [] || rooms.contains r ||
        (s.notices.find? (fun n => n.id == f.id)).any (fun n => n.targets r)) (.port h.port) true ∧ PortsAnswered s t h.port ∧
      t = { s with arb := s.arb.restarted h.port s.setup.arbiter.idleCode, ports := t.ports, notices := t.notices
                   pressure := t.pressure, evals := t.evals, signs := t.signs, lines := t.lines, quiet := t.quiet }) ∧
    (Cast s h → (s.portSetup h.port).roles.notice = true → rooms = [] → ∃ t, exec (.postNotice h f) s = .next t ∧
      t.notices = s.notices.filter (fun n => n.id != f.id) ++
        [{ id := f.id, level := lvl, target := .all, text := f.text
           expiry := if f.expiry = 0 then none else some f.expiry, tied := false, origin := h.port, broadcast := true }] ∧
      Repressed s t ∧ Evaluated s t (fun _ => true) .setup true ∧ PortsCast s t h.port ∧
      t = { s with arb := s.arb.restarted h.port s.setup.arbiter.idleCode, ports := t.ports, notices := t.notices
                   pressure := t.pressure, evals := t.evals, signs := t.signs, lines := t.lines, quiet := t.quiet })

/-- R61 to R64, R67: the refusals of a direct POST_NOTICE, each with the checks before it passed, and the broadcasts of it that
are dropped and counted. A tied byte above 1 is the model's BAD_VALUE (log 11). -/
def Obligations.PostNoticeRefusals : Prop :=
  ∀ (s : State) (h : Header) (f : PostFields),
    (Cast s h → (s.portSetup h.port).roles.notice = false ∨ f.target ≠ [] ∨
        (f.id = 0 ∨ 255 < f.id ∨ 2 < f.level ∨ f.text = [] ∨ 96 < f.text.length ∨ 1 < f.tied) ∨
        (f.expiry ≠ 0 ∧ (s.clock.isSet = false ∨ f.expiry ≤ s.clock.day * 1440 + s.clock.minute ∨ 23039 < f.expiry)) ∨
        ((∀ n ∈ s.notices, n.id ≠ f.id) ∧ 16 ≤ s.notices.length) ∨
        s.freeCells + (match s.notices.find? (fun n => n.id == f.id) with
          | none => 0
          | some n => (n.text.length + 15) / 16) < (f.text.length + 15) / 16 →
      exec (.postNotice h f) s = exec (.broadcastDropped h.port) s) ∧
    (Accepted s h .notice →
      (f.id = 0 ∨ 255 < f.id ∨ 2 < f.level ∨ f.text = [] ∨ 96 < f.text.length ∨ 16 < f.target.length ∨ 1 < f.tied →
        exec (.postNotice h f) s = .next (s.answeredWith h 0x20 .badValue .empty)) ∧
      (1 ≤ f.id → f.id ≤ 255 → f.level ≤ 2 → f.text ≠ [] → f.text.length ≤ 96 → f.target.length ≤ 16 → f.tied ≤ 1 →
        ((∃ n ∈ f.target, ∀ r : RoomId, r.val = n → (s.roomSetup r).enabled = false) →
          exec (.postNotice h f) s = .next (s.answeredWith h 0x20 .noRoom .empty)) ∧
        ((∀ n ∈ f.target, ∃ r : RoomId, r.val = n ∧ (s.roomSetup r).enabled = true) →
          (¬ f.target.Nodup → exec (.postNotice h f) s = .next (s.answeredWith h 0x20 .badValue .empty)) ∧
          (f.target.Nodup →
            (f.expiry ≠ 0 → s.clock.isSet = false →
              exec (.postNotice h f) s = .next (s.answeredWith h 0x20 .untimed .empty)) ∧
            (f.expiry ≠ 0 → s.clock.isSet = true →
              f.expiry ≤ s.clock.day * 1440 + s.clock.minute ∨ 23039 < f.expiry →
              exec (.postNotice h f) s = .next (s.answeredWith h 0x20 .badTime .empty)) ∧
            (f.expiry = 0 ∨ (s.clock.isSet = true ∧ s.clock.day * 1440 + s.clock.minute < f.expiry ∧ f.expiry ≤ 23039) →
              ((∀ n ∈ s.notices, n.id ≠ f.id) → 16 ≤ s.notices.length →
                exec (.postNotice h f) s = .next (s.answeredWith h 0x20 .tableFull .empty)) ∧
              ((∃ n ∈ s.notices, n.id = f.id) ∨ s.notices.length < 16 →
                s.freeCells + (match s.notices.find? (fun n => n.id == f.id) with
                  | none => 0
                  | some n => (n.text.length + 15) / 16) < (f.text.length + 15) / 16 →
                exec (.postNotice h f) s = .next (s.answeredWith h 0x20 .textFull .empty)))))))

/-- R60, R68: WITHDRAW_NOTICE removes the notice of its id, whoever posted it, and evaluates its targets; direct with the port as
origin, as a broadcast with SETUP; a broadcast whose id is not in the table is taken with the restarts of any broadcast, has no
other effect, and is not counted. -/
def Obligations.NoticeIsWithdrawn : Prop :=
  ∀ (s : State) (h : Header) (id : Nat),
    (Direct s h → h.bodyFits = true → (s.portSetup h.port).roles.notice = false →
      exec (.withdrawNotice h id) s = .next (s.answeredWith h 0x21 .denied .empty)) ∧
    (Accepted s h .notice →
      (id = 0 ∨ (∀ n ∈ s.notices, n.id ≠ id) →
        exec (.withdrawNotice h id) s = .next (s.answeredWith h 0x21 .noNotice .empty)) ∧
      (id ≠ 0 → (∃ n ∈ s.notices, n.id = id) → ∃ t, exec (.withdrawNotice h id) s = .next t ∧
        Replied s t h 0x21 .ok false (.smallCount t.notices.length) ∧
        t.notices = s.notices.filter (fun n => n.id != id) ∧ Repressed s t ∧
        Evaluated s t (fun r => s.notices.any (fun n => n.id == id && n.targets r)) (.port h.port) false ∧
        PortsAnswered s t h.port ∧
        t = { s with arb := s.arb.restarted h.port s.setup.arbiter.idleCode, ports := t.ports, notices := t.notices
                     pressure := t.pressure, evals := t.evals, signs := t.signs, lines := t.lines, quiet := t.quiet })) ∧
    (Cast s h →
      ((s.portSetup h.port).roles.notice = false →
        exec (.withdrawNotice h id) s = exec (.broadcastDropped h.port) s) ∧
      ((s.portSetup h.port).roles.notice = true → (∀ n ∈ s.notices, n.id ≠ id) →
        exec (.withdrawNotice h id) s = .next { s.setPort h.port { s.port h.port with
            reception := .hunting, buffer := [], monitor := .alive
            heartbeat := heartbeatTime (s.portSetup h.port).interval } with
          arb := s.arb.restarted h.port s.setup.arbiter.idleCode }) ∧
      ((s.portSetup h.port).roles.notice = true → (∃ n ∈ s.notices, n.id = id) →
        ∃ t, exec (.withdrawNotice h id) s = .next t ∧
        t.notices = s.notices.filter (fun n => n.id != id) ∧ Repressed s t ∧
        Evaluated s t (fun r => s.notices.any (fun n => n.id == id && n.targets r)) .setup false ∧
        PortsCast s t h.port ∧
        t = { s with arb := s.arb.restarted h.port s.setup.arbiter.idleCode, ports := t.ports, notices := t.notices
                     pressure := t.pressure, evals := t.evals, signs := t.signs, lines := t.lines, quiet := t.quiet }))

/-! ### The batch arbiter -/

/-- R76: OPEN_BATCH: its checks in their order, the grant when there is no holder, and else a place at the end of the wait
list. -/
def Obligations.BatchIsOpened : Prop :=
  ∀ (s : State) (h : Header) (rooms : List Nat), Accepted s h .timetable →
    (s.arb.holder = some h.port ∨ (∃ w ∈ s.arb.waiters, w.port = h.port) →
      exec (.openBatch h rooms) s = .next (s.answeredWith h 0x18 .busy .empty)) ∧
    (s.arb.holder ≠ some h.port → (∀ w ∈ s.arb.waiters, w.port ≠ h.port) →
      (rooms = [] ∨ 8 < rooms.length → exec (.openBatch h rooms) s = .next (s.answeredWith h 0x18 .badValue .empty)) ∧
      (rooms ≠ [] → rooms.length ≤ 8 →
        ((∃ n ∈ rooms, ∀ r : RoomId, r.val = n → (s.roomSetup r).enabled = false) →
          exec (.openBatch h rooms) s = .next (s.answeredWith h 0x18 .noRoom .empty)) ∧
        ∀ rs : List RoomId, rooms = rs.map Fin.val → (∀ r ∈ rs, (s.roomSetup r).enabled = true) →
          (¬ rs.Nodup → exec (.openBatch h rooms) s = .next (s.answeredWith h 0x18 .badValue .empty)) ∧
          (rs.Nodup → s.arb.holder = none → ∃ t, exec (.openBatch h rooms) s = .next t ∧
            Replied s t h 0x18 .ok false .empty ∧
            t.arb = { s.arb with holder := some h.port, rooms := rs, staging := []
                                 idle := some (idleTime s.setup.arbiter.idleCode) } ∧
            Unpressed s t ∧ PortsAnswered s t h.port ∧ t = { s with arb := t.arb, ports := t.ports }) ∧
          (rs.Nodup → s.arb.holder ≠ none → ∃ t, exec (.openBatch h rooms) s = .next t ∧
            Replied s t h 0x18 .queued false (.queuedAt (s.arb.waiters.length + 1)) ∧
            t.arb = { s.arb with waiters := s.arb.waiters ++ [{ port := h.port, rooms := rs }] } ∧
            Unpressed s t ∧ PortsAnswered s t h.port ∧ t = { s with arb := t.arb, ports := t.ports })))

/-- R84, R85: the four staging requests: NOT_HOLDER, OUT_OF_BATCH, the range checks, STAGE_FULL, and otherwise the record at the
end of the staging list, which is all that changes. That STAGE_PUT's supersede byte above 1 is BAD_VALUE in check 3b is the
model's choice (log 11). -/
def Obligations.StagingAppends : Prop :=
  ∀ (s : State) (h : Header) (room : Nat) (c : Instr) (code : Nat) (need : Need) (x : RoomId → Staged)
    (range : Option Status), requestOf c = some (h, code, need) → Accepted s h .timetable →
    ((∃ f, c = .stagePut h room f ∧ x = (fun r => .put r f) ∧ (¬ PutFields.InTime f → range = some .badTime) ∧
        (PutFields.InTime f → ¬ PutFields.InRange f → range = some .badValue) ∧
        (PutFields.InTime f → PutFields.InRange f → range = none)) ∨
      (∃ tag, c = .stageDrop h room tag ∧ x = (fun r => .drop r tag) ∧
        range = if 1 ≤ tag ∧ tag ≤ 65535 then none else some .badValue) ∨
      (∃ tag a b, c = .stageMark h room tag a b ∧ x = (fun r => .mark r tag a b) ∧
        range = if 1 ≤ tag ∧ tag ≤ 65535 then none else some .badValue) ∨
      (∃ day, c = .stageClearDay h room day ∧ x = (fun r => .clearDay r day) ∧
        range = if day ≤ 15 then none else some .badTime)) →
    (s.arb.holder ≠ some h.port → exec c s = .next (s.answeredWith h code .notHolder .empty)) ∧
    (s.arb.holder = some h.port →
      ((∀ r ∈ s.arb.rooms, r.val ≠ room) → exec c s = .next (s.answeredWith h code .outOfBatch .empty)) ∧
      ∀ r ∈ s.arb.rooms, r.val = room →
        (∀ st, range = some st → exec c s = .next (s.answeredWith h code st .empty)) ∧
        (range = none →
          (32 < s.arb.staging.length + 1 ∨ 1024 < stagedBytes (s.arb.staging ++ [x r]) →
            exec c s = .next (s.answeredWith h code .stageFull .empty)) ∧
          (s.arb.staging.length < 32 → stagedBytes (s.arb.staging ++ [x r]) ≤ 1024 → ∃ t, exec c s = .next t ∧
            Replied s t h code .ok false (.staged s.arb.staging.length (s.arb.staging.length + 1)
              (stagedBytes (s.arb.staging ++ [x r]))) ∧
            t.arb = { s.arb with staging := s.arb.staging ++ [x r]
                                 idle := some (idleTime s.setup.arbiter.idleCode) } ∧
            Unpressed s t ∧ PortsAnswered s t h.port ∧ t = { s with arb := t.arb, ports := t.ports })))

/-- R86 to R89: COMMIT_BATCH applies every staged record or none: a failing record leaves everything but the staging list, and
a trial that passes becomes the timetable, with each batch room evaluated and the grant released. What counts as removed, and
that a failed commit restarts the idle timer also at its end, are the model's readings (logs 22, 26). -/
def Obligations.CommitAppliesAllOrNothing : Prop :=
  ∀ (s : State) (h : Header), Accepted s h .timetable →
    (s.arb.holder ≠ some h.port → exec (.commitBatch h) s = .next (s.answeredWith h 0x1D .notHolder .empty)) ∧
    (s.arb.holder = some h.port →
      (∀ i st, Trial.run h.port { st := s, stored := [], removed := 0 } 0 s.arb.staging = .error (i, st) →
        ∃ t, exec (.commitBatch h) s = .next t ∧ Replied s t h 0x1D .commitFailed false (.commitFailure i st) ∧
          t.arb = { s.arb with staging := [], idle := some (idleTime s.setup.arbiter.idleCode) } ∧
          Unpressed s t ∧ PortsAnswered s t h.port ∧ t = { s with arb := t.arb, ports := t.ports }) ∧
      (∀ tr, Trial.run h.port { st := s, stored := [], removed := 0 } 0 s.arb.staging = .ok tr →
        ∃ v t, exec (.commitBatch h) s = .next t ∧
          Replied s t h 0x1D .ok false (.committed s.arb.staging.length tr.removed) ∧
          v = { s with timetables := tr.st.timetables, pressure := v.pressure, ports := v.ports, evals := v.evals
                       signs := v.signs, lines := v.lines, quiet := v.quiet } ∧
          (∀ r, r ∉ s.arb.rooms → (∀ x ∈ s.arb.staging, stagedRoom x ≠ r) → t.timetable r = s.timetable r) ∧
          Repressed s v ∧ Evaluated s v (fun r => s.arb.rooms.contains r) (.port h.port) false ∧
          Released v t s.arb.withdrawals ∧ PortsAnswered s t h.port ∧
          t = { v with arb := t.arb, ports := t.ports }))

/-- R87: a record of the trial is checked and takes its effect on a state as its single request does on that state with the
record's room not held: HELD is left out, and so a room of the batch is no obstacle. What the trial counts as removed is the
model's reading of R89 (log 22). -/
def Obligations.TrialTreatsRecordsAsRequests : Prop :=
  ∀ (s u : State) (h : Header) (r : RoomId) (f : PutFields) (tag day : Nat) (a b : Marks), Accepted s h .timetable →
    u = { s with arb := { s.arb with rooms := s.arb.rooms.filter (fun x => x != r) } } →
    ((s.timetable r).map Entry.tag).Nodup → PutFields.InTime f → PutFields.InRange f → day ≤ 15 →
    (∀ st, Trial.record { st := s, stored := [], removed := 0 } h.port (.put r f) = .error st →
      exec (.putEntry h r.val f) u = .next (u.answeredWith h 0x10 st .empty)) ∧
    (∀ tr, Trial.record { st := s, stored := [], removed := 0 } h.port (.put r f) = .ok tr →
      ∃ t, exec (.putEntry h r.val f) u = .next t ∧ t.timetables = tr.st.timetables ∧
        tr.removed = (PutFields.hits f (s.timetable r)).length) ∧
    (∀ st, Trial.record { st := s, stored := [], removed := 0 } h.port (.drop r tag) = .error st →
      exec (.dropEntry h r.val tag) u = .next (u.answeredWith h 0x11 st .empty)) ∧
    (∀ tr, Trial.record { st := s, stored := [], removed := 0 } h.port (.drop r tag) = .ok tr →
      ∃ t, exec (.dropEntry h r.val tag) u = .next t ∧ t.timetables = tr.st.timetables ∧ tr.removed = 1) ∧
    (∀ st, Trial.record { st := s, stored := [], removed := 0 } h.port (.mark r tag a b) = .error st →
      exec (.markEntry h r.val tag a b) u = .next (u.answeredWith h 0x12 st .empty)) ∧
    (∀ tr, Trial.record { st := s, stored := [], removed := 0 } h.port (.mark r tag a b) = .ok tr →
      ∃ t, exec (.markEntry h r.val tag a b) u = .next t ∧ t.timetables = tr.st.timetables ∧ tr.removed = 0) ∧
    (∀ st, Trial.record { st := s, stored := [], removed := 0 } h.port (.clearDay r day) = .error st →
      exec (.clearDay h r.val day) u = .next (u.answeredWith h 0x13 st .empty)) ∧
    (∀ tr, Trial.record { st := s, stored := [], removed := 0 } h.port (.clearDay r day) = .ok tr →
      ∃ t, exec (.clearDay h r.val day) u = .next t ∧ t.timetables = tr.st.timetables ∧
        tr.removed = ((s.timetable r).filter (fun x => x.day == day)).length ∧
        Replied u t h 0x13 .ok false (.count tr.removed))

/-- R78 to R80, R90: ABANDON_BATCH releases the grant without a trace on the timetable, and so does the idle timer, which also
counts a withdrawal and raises WITHDRAW on the port that held the grant; the next holder is chosen in the same step. -/
def Obligations.AbandonAndIdleExpiryRelease : Prop :=
  ∀ s : State,
    (∀ h, Accepted s h .timetable →
      (s.arb.holder ≠ some h.port → exec (.abandonBatch h) s = .next (s.answeredWith h 0x1E .notHolder .empty)) ∧
      (s.arb.holder = some h.port → ∃ t, exec (.abandonBatch h) s = .next t ∧ Replied s t h 0x1E .ok false .empty ∧
        Released s t s.arb.withdrawals ∧ PortsAnswered s t h.port ∧ t = { s with arb := t.arb, ports := t.ports })) ∧
    (∀ p, s.run = .running → s.arb.holder = some p → s.arb.idle.isSome = true →
      ∃ t, exec .idleTimerExpiry s = .next t ∧
        Released (s.setPort p { s.port p with raised := (s.port p).raised ||| Source.flag .withdraw }) t
          (min 255 (s.arb.withdrawals + 1)) ∧
        (∀ q, t.port q = { s.port q with raised := (t.port q).raised }) ∧ t = { s with arb := t.arb, ports := t.ports })

/-- R82, R152: SET_ARBITER and SET_FAULT_MODE store their settings whole, with their clamps, touch no running timer or hold, and
refuse values out of range. A fairness byte above 1 is the model's BAD_VALUE (log 11). -/
def Obligations.ArbiterAndFaultSettingsAreStored : Prop :=
  ∀ (s : State) (h : Header), Accepted s h .setup →
    (∀ code fairness, 1 < fairness →
      exec (.setArbiter h code fairness) s = .next (s.answeredWith h 0x3A .badValue .empty)) ∧
    (∀ code fairness, fairness ≤ 1 → ∃ t, exec (.setArbiter h code fairness) s = .next t ∧
      Replied s t h 0x3A .ok (decide (3 < code)) .empty ∧
      t.setup = { s.setup with arbiter := { idleCode := min 3 code, fairness := fairness == 1 } } ∧ Unpressed s t ∧
      PortsAnswered s t h.port ∧
      t = { s with arb := s.arb.restarted h.port s.setup.arbiter.idleCode, ports := t.ports, setup := t.setup }) ∧
    ∀ f : ModeFields,
      (3 < f.noAnswer ∨ 3 < f.slow ∨ 3 < f.mismatch ∨ 3 < f.absent ∨ 3 < f.trip ∨ f.retryTime ∉ [5, 15, 60, 300] →
        exec (.setFaultMode h f) s = .next (s.answeredWith h 0x36 .badValue .empty)) ∧
      ∀ a b c d e, mode? f.noAnswer = some a → mode? f.slow = some b → mode? f.mismatch = some c → mode? f.absent = some d →
        mode? f.trip = some e → f.retryTime ∈ [5, 15, 60, 300] → ∃ t x, exec (.setFaultMode h f) s = .next t ∧
          x = { noAnswer := a, slow := b, mismatch := c, absent := d, retryTime := f.retryTime
                trip := if e = .latch then .latch else .retry : FaultSetup } ∧
          Replied s t h 0x36 .ok (decide (e = .report ∨ e = .ignore)) (.modes x) ∧
          t.setup = { s.setup with fault := x } ∧ Unpressed s t ∧ PortsAnswered s t h.port ∧
          t = { s with arb := s.arb.restarted h.port s.setup.arbiter.idleCode, ports := t.ports, setup := t.setup }

/-! ### Signs -/

/-- R101 to R103: MAP_SIGN and its unmap form: the checks in their order, and what a new place or no place does to the sign's
record, its READY job, the queues and the extras list; no room is evaluated. That a running roll call forgets what it found at
the position is the model's reading of R149 (log 32). That a mapping ends a pending ABSENT is its reading too (log 31). -/
def Obligations.SignsAreMapped : Prop :=
  ∀ (s : State) (h : Header), Accepted s h .setup →
    (∀ sign f, 95 < sign ∨ 5 < f.line ∨ 15 < f.position ∨ 1 < f.role ∨ 2 < f.cls →
      exec (.mapSign h sign f) s = .next (s.answeredWith h 0x31 .badValue .empty)) ∧
    (∀ (i : SignId) (f : PlaceFields) (l : LineId) (pos : Position) (role : Role) (cls : SignClass), f.line = l.val →
      f.position = pos.val → role? f.role = some role → class? f.cls = some cls →
      ((∀ r : RoomId, r.val = f.room → (s.roomSetup r).enabled = false) →
        exec (.mapSign h i.val f) s = .next (s.answeredWith h 0x31 .noRoom .empty)) ∧
      ∀ r : RoomId, r.val = f.room → (s.roomSetup r).enabled = true →
        ((∃ j m, j ≠ i ∧ s.mapping j = some m ∧ m.line = l ∧ m.position = pos) →
          exec (.mapSign h i.val f) s = .next (s.answeredWith h 0x31 .inUse .empty)) ∧
        ((∀ j m, j ≠ i → s.mapping j = some m → m.line = l → m.position ≠ pos) →
          ((∃ j, s.jobOf i = some j ∧ j.state ≠ .ready) →
            exec (.mapSign h i.val f) s = .next (s.answeredWith h 0x31 .busy .empty)) ∧
          ((∀ j, s.jobOf i = some j → j.state = .ready) → ∃ t, exec (.mapSign h i.val f) s = .next t ∧
            Replied s t h 0x31 .ok false .empty ∧
            t.mapping i = some { line := l, position := pos, room := r, role := role, cls := cls } ∧
            t.sign i = { s.sign i with
              link := .unknown, reported := none, fault := .none, failures := 0, retry := .stopped, pendingAbsent := none
              delivered := none, origin := .setup
              wanted := if (s.sign i).test = none then (s.eval r).digests role else (s.sign i).wanted } ∧
            (∀ j, j ≠ i → t.mapping j = s.mapping j ∧ t.sign j = s.sign j) ∧
            i ∈ (t.line l).dirty ∧ (t.line l).extras = (s.line l).extras.filter (fun p => p != pos) ∧
            (t.line l).roll = (s.line l).roll.map (fun rc => { rc with found := rc.found.filter (fun p => p != pos) }) ∧
            (∀ k, k ≠ l → (t.line k).extras = (s.line k).extras ∧ (t.line k).roll = (s.line k).roll) ∧
            (∀ m, s.mapping i = some m → (∀ j ∈ (t.line m.line).jobs, j.sign ≠ i) ∧
              (m.line ≠ l → i ∉ (t.line m.line).dirty)) ∧
            (∀ k j, j ≠ i → (j ∈ (t.line k).dirty ↔ j ∈ (s.line k).dirty)) ∧
            (∀ k, (t.line k).budget = (s.line k).budget ∧ (t.line k).mode = (s.line k).mode) ∧
            Unpressed s t ∧ PortsAnswered s t h.port ∧
            t = { s with arb := s.arb.restarted h.port s.setup.arbiter.idleCode, ports := t.ports, signs := t.signs
                         lines := t.lines, setup := { s.setup with signMap := t.setup.signMap } }))) ∧
    (∀ sign, 95 < sign → exec (.mapSignUnmap h sign) s = .next (s.answeredWith h 0x31 .badValue .empty)) ∧
    ∀ i : SignId,
      (s.mapping i = none → exec (.mapSignUnmap h i.val) s = .next (s.answeredWith h 0x31 .ok .empty)) ∧
      ((∃ j, s.jobOf i = some j ∧ j.state ≠ .ready) →
        exec (.mapSignUnmap h i.val) s = .next (s.answeredWith h 0x31 .busy .empty)) ∧
      (∀ m, s.mapping i = some m → (∀ j, s.jobOf i = some j → j.state = .ready) →
        ∃ t, exec (.mapSignUnmap h i.val) s = .next t ∧ Replied s t h 0x31 .ok false .empty ∧ t.mapping i = none ∧
          t.sign i = { SignRecord.fresh with lastFault := (s.sign i).lastFault } ∧
          (∀ j, j ≠ i → t.mapping j = s.mapping j ∧ t.sign j = s.sign j) ∧
          i ∉ (t.line m.line).dirty ∧ (∀ j ∈ (t.line m.line).jobs, j.sign ≠ i) ∧
          (∀ k, k ≠ m.line → t.line k = s.line k) ∧ (t.line m.line).budget = (s.line m.line).budget ∧
          (t.line m.line).extras = (s.line m.line).extras ∧ Unpressed s t ∧ PortsAnswered s t h.port ∧
          t = { s with arb := s.arb.restarted h.port s.setup.arbiter.idleCode, ports := t.ports, signs := t.signs
                       lines := t.lines, setup := { s.setup with signMap := t.setup.signMap } })

/-- R106 to R108: SET_TEST with a pattern and with OFF, on a list of signs: each is skipped, left as it is, or applied with the
card's digests, or those of the room's last evaluation, and SETUP as origin; a bad list or pattern is refused whole. -/
def Obligations.TestPatternsAreSet : Prop :=
  ∀ (s : State) (h : Header), Accepted s h .setup →
    (∀ signs pattern, signs = [] ∨ (∃ n ∈ signs, 95 < n) ∨ ¬ signs.Nodup ∨ 3 < pattern →
      exec (.setTest h signs pattern) s = .next (s.answeredWith h 0x32 .badValue .empty)) ∧
    (∀ signs, signs = [] ∨ (∃ n ∈ signs, 95 < n) ∨ ¬ signs.Nodup →
      exec (.setTestOff h signs) s = .next (s.answeredWith h 0x32 .badValue .empty)) ∧
    ∀ l : List SignId, l ≠ [] → l.Nodup →
      (∀ pattern c, c = (match pattern with
          | 0 => TestCard.white
          | 1 => .black
          | 2 => .checker
          | _ => .ident s.address) → pattern ≤ 3 →
        ∃ t, exec (.setTest h (l.map Fin.val) pattern) s = .next t ∧
          Replied s t h 0x32 .ok false (.tested
            (l.countP (fun i => (s.mapping i).isSome && decide ((s.sign i).fault ≠ .latched) &&
              decide (patternCode (s.sign i).test ≠ pattern + 1)))
            (l.countP (fun i => (s.mapping i).isSome && decide ((s.sign i).fault ≠ .latched) &&
              decide (patternCode (s.sign i).test = pattern + 1)))
            (l.countP (fun i => (s.mapping i).isSome && decide ((s.sign i).fault = .latched)))
            (l.countP (fun i => (s.mapping i).isNone))) ∧
          (∀ i, t.sign i = if i ∈ l ∧ s.mapping i ≠ none ∧ (s.sign i).fault ≠ .latched ∧
              patternCode (s.sign i).test ≠ pattern + 1 then
            { s.sign i with test := some c, origin := .setup
                            wanted := some { body := cardDigest c i, full := cardDigest c i } } else s.sign i) ∧
          (∀ k, (s.line k).Still (t.line k)) ∧ Unpressed s t ∧ PortsAnswered s t h.port ∧
          t = { s with arb := s.arb.restarted h.port s.setup.arbiter.idleCode, ports := t.ports, signs := t.signs
                       lines := t.lines }) ∧
      ∃ t, exec (.setTestOff h (l.map Fin.val)) s = .next t ∧
        Replied s t h 0x32 .ok false (.tested
          (l.countP (fun i => (s.mapping i).isSome && (s.sign i).test.isSome))
          (l.countP (fun i => (s.mapping i).isSome && (s.sign i).test.isNone)) 0
          (l.countP (fun i => (s.mapping i).isNone))) ∧
        (∀ i, t.sign i = match s.mapping i with
          | none => s.sign i
          | some m => if i ∈ l ∧ (s.sign i).test ≠ none then
              { s.sign i with test := none, origin := .setup, wanted := (s.eval m.room).digests m.role } else s.sign i) ∧
        (∀ k, (s.line k).Still (t.line k)) ∧ Unpressed s t ∧ PortsAnswered s t h.port ∧
        t = { s with arb := s.arb.restarted h.port s.setup.arbiter.idleCode, ports := t.ports, signs := t.signs
                     lines := t.lines }

/-- R98, R110, R116, R117: what becomes of a sign that is handed a board while it is not in test, by its job and fault state.
That a job takes the wanted digests as its target, present or not, is the model's reading (log 28). -/
def Obligations.HandedSignsAreSettled : Prop :=
  ∀ (s : State) (i : SignId) (m : Mapping) (d : Option Digests) (o : Origin), s.mapping i = some m →
    (s.sign i).test = none → ((s.line m.line).jobs.map Job.sign).Nodup →
    (s.hand i d o false).sign i = { s.sign i with wanted := d, origin := o } ∧
    (∀ l, l ≠ m.line → (s.hand i d o false).line l = s.line l) ∧
    ((s.line m.line).jobOf i = none →
      ((s.sign i).fault = .none → ({ s.sign i with wanted := d } : SignRecord).matched = true →
        i ∉ ((s.hand i d o false).line m.line).dirty) ∧
      ((s.sign i).fault = .none → ({ s.sign i with wanted := d } : SignRecord).matched = false →
        ((s.hand i d o false).line m.line).dirty =
          if i ∈ (s.line m.line).dirty then (s.line m.line).dirty else (s.line m.line).dirty ++ [i]) ∧
      ((s.sign i).fault ≠ .none → (s.hand i d o false).lines = s.lines)) ∧
    ∀ j, (s.line m.line).jobOf i = some j →
      (j.state ≠ .ready → i ∈ ((s.hand i d o false).line m.line).dirty ∧
        ((s.hand i d o false).line m.line).jobs = (s.line m.line).jobs) ∧
      (j.state = .ready → ((s.hand i d o false).line m.line).dirty = (s.line m.line).dirty ∧
        (({ s.sign i with wanted := d } : SignRecord).matched = true →
          ((s.hand i d o false).line m.line).jobs = (s.line m.line).jobs.filter (fun x => x.sign != i)) ∧
        (({ s.sign i with wanted := d } : SignRecord).matched = false → ∃ k,
          ((s.hand i d o false).line m.line).jobs = (s.line m.line).jobs.map (fun x => if x.sign = i then k else x) ∧
          k = { j with kind := ({ s.sign i with wanted := d } : SignRecord).jobKind
                       cost := jobCost ({ s.sign i with wanted := d } : SignRecord).jobKind m.cls
                       urgent := (s.eval m.room).shown.any (fun n => n.2 == .urgent)
                       target := d, time := (s.eval m.room).board.time, origin := o }))

/-! ### Delivery -/

/-- R112 to R115: JOB_CREATION makes one job on an ACTIVE line with a free slot, from the urgent sign nearest the head of the
queue among those that may be taken, else the one nearest the head; otherwise it does nothing. The kind is TEST in test,
PARTIAL where the delivered body digest is known and equal to the wanted one, else FULL, and the cost follows kind and class.
That it is a command of its own is the model's reading (log 5). So is that the job takes the wanted digests as its target,
present or not (log 28). -/
def Obligations.JobsAreMade : Prop :=
  (∀ g : SignRecord, (g.test ≠ none → g.jobKind = .testJob) ∧
    (g.test = none → g.delivered = none → g.jobKind = .fullJob) ∧
    ∀ d w, g.test = none → g.delivered = some d → g.wanted = some w →
      g.jobKind = if d.body = w.body then .partialJob else .fullJob) ∧
  (jobCost .fullJob .small = 3 ∧ jobCost .fullJob .medium = 6 ∧ jobCost .fullJob .large = 14 ∧
    jobCost .testJob .small = 3 ∧ jobCost .testJob .medium = 6 ∧ jobCost .testJob .large = 14 ∧
    jobCost .partialJob .small = 1 ∧ jobCost .partialJob .medium = 1 ∧ jobCost .partialJob .large = 2) ∧
  ∀ (s : State) (l : LineId), s.run = .running →
    ((s.line l).mode ≠ .active ∨ 8 ≤ (s.line l).jobs.length ∨
      (∀ i ∈ (s.line l).dirty, (∃ j ∈ (s.line l).jobs, j.sign = i) ∨ (s.sign i).link = .absent) →
      exec (.jobCreation l) s = .next s) ∧
    ∀ i m before after, (s.line l).mode = .active → (s.line l).jobs.length < 8 → (s.line l).dirty = before ++ i :: after →
      s.mapping i = some m → (∀ j ∈ (s.line l).jobs, j.sign ≠ i) → (s.sign i).link ≠ .absent →
      ((s.urgentSign i = true ∧ ∀ k ∈ before, s.urgentSign k = true →
          (∃ j ∈ (s.line l).jobs, j.sign = k) ∨ (s.sign k).link = .absent) ∨
        ((∀ k ∈ before, (∃ j ∈ (s.line l).jobs, j.sign = k) ∨ (s.sign k).link = .absent) ∧
          ∀ k ∈ i :: after, s.urgentSign k = true → (∃ j ∈ (s.line l).jobs, j.sign = k) ∨ (s.sign k).link = .absent)) →
      exec (.jobCreation l) s = .next (s.setLine l { s.line l with
        dirty := (s.line l).dirty.filter (fun k => k != i)
        jobs := (s.line l).jobs ++ [{
          sign := i, kind := (s.sign i).jobKind, cost := jobCost (s.sign i).jobKind m.cls, urgent := s.urgentSign i
          target := (s.sign i).wanted
          time := if (s.sign i).test = none then (s.eval m.room).board.time else .none
          content := none, state := .ready, resends := 0, origin := (s.sign i).origin, refresh := none }] })

/-- R119 to R121, R136: JOB_START starts the earliest urgent READY job that keeps b at or above the negative of the capacity,
else the earliest other READY job that b pays for; b falls by the effective cost and the first frame goes out, or waits for a
poll. Nothing starts on a line that is not ACTIVE, calls the roll, is SENDING or is at its in-flight limit; and a candidate
that fails its budget check lets no later job of its urgency start, an urgent one no job at all. That an outstanding poll does
not keep a job from starting is the model's reading of R119 and R136 (log 38). JOB_START is a command of its own (log 5). -/
def Obligations.JobsAreStarted : Prop :=
  ∀ (s : State) (l : LineId), s.run = .running →
    ((s.line l).mode ≠ .active ∨ (s.line l).roll ≠ none ∨ (∃ j ∈ (s.line l).jobs, j.state = .sending) ∨
      (s.lineSetup l).limit ≤ (s.line l).inFlight → exec (.jobStart l) s = .next s) ∧
    ((∀ k ∈ (s.line l).jobs, k.state ≠ .ready) → exec (.jobStart l) s = .next s) ∧
    (∀ j before after, (s.line l).jobs = before ++ j :: after → j.state = .ready → j.urgent = true →
      (∀ k ∈ before, k.state = .ready → k.urgent = false) →
      (s.line l).budget - (min j.cost (s.lineSetup l).capacity : Nat) < -((s.lineSetup l).capacity : Int) →
      exec (.jobStart l) s = .next s) ∧
    (∀ j before after, (s.line l).jobs = before ++ j :: after → j.state = .ready →
      (∀ k ∈ (s.line l).jobs, k.state = .ready → k.urgent = false) → (∀ k ∈ before, k.state ≠ .ready) →
      (s.line l).budget < ((min j.cost (s.lineSetup l).capacity : Nat) : Int) → exec (.jobStart l) s = .next s) ∧
    ∀ j m before after, (s.line l).mode = .active → (s.line l).roll = none → (∀ k ∈ (s.line l).jobs, k.state ≠ .sending) →
      (s.line l).inFlight < (s.lineSetup l).limit → (s.line l).jobs = before ++ j :: after →
      ((s.line l).jobs.map Job.sign).Nodup → s.mapping j.sign = some m → j.state = .ready →
      ((j.urgent = true ∧ (∀ k ∈ before, k.state = .ready → k.urgent = false) ∧
          -((s.lineSetup l).capacity : Int) ≤ (s.line l).budget - (min j.cost (s.lineSetup l).capacity : Nat)) ∨
        (j.urgent = false ∧ (∀ k ∈ before, k.state = .ready → k.urgent = true) ∧
          (∀ k ∈ (s.line l).jobs, k.state = .ready → k.urgent = false) ∧
          ((min j.cost (s.lineSetup l).capacity : Nat) : Int) ≤ (s.line l).budget)) →
      exec (.jobStart l) s = .next (s.setLine l { s.line l with
        budget := (s.line l).budget - (min j.cost (s.lineSetup l).capacity : Nat)
        jobs := before ++ { j with state := .sending, resends := 0, content := some (match j.kind with
          | .fullJob => .board (boardBytes m.role (s.eval m.room).board)
          | .partialJob => .time j.time
          | .testJob => match (s.sign j.sign).test with
            | some c => .card c
            | none => .time j.time) } :: after
        transmitter := match (s.line l).transmitter with
          | none => some (.job j.sign 0)
          | some x => some x })

/-- R136, R137: an ACK sends the next frame, or makes the job REFRESHING with its refresh timer and the poll timer running; a
wait that ends sends the frame again once and then fails the job with NO_ANSWER. That an ACK which names another position has
no effect, and the answer wait runs on, is the model's reading (log 17). -/
def Obligations.FramesAreAcknowledged : Prop :=
  ∀ (s : State) (l : LineId) (i : SignId) (m : Mapping) (j : Job) (k : Nat), HasJob s l i m j → j.state = .sending →
    (s.line l).transmitter = some (.job i k) →
    (∀ pos, pos ≠ m.position → exec (.ack l pos) s = .next s) ∧
    (k + 1 < frameCount j.content → exec (.ack l m.position) s = .next (s.setLine l { s.line l with
      jobs := (s.line l).jobs.map (fun x => if x.sign = i then { x with resends := 0 } else x)
      transmitter := some (.job i (k + 1)) })) ∧
    (frameCount j.content ≤ k + 1 → exec (.ack l m.position) s = .next (s.setLine l { s.line l with
      jobs := (s.line l).jobs.map (fun x => if x.sign = i then
        { x with state := .refreshing, refresh := some (s.lineSetup l).refreshLimit, resends := 0 } else x)
      transmitter := none, pollTimer := true })) ∧
    (j.resends = 0 → exec (.ackWaitExpiry l) s = .next (s.setLine l { s.line l with
      jobs := (s.line l).jobs.map (fun x => if x.sign = i then { x with resends := 1 } else x) })) ∧
    (j.resends ≠ 0 → ∃ t, exec (.ackWaitExpiry l) s = .next t ∧ JobFailed s t l j .noAnswer ∧
      (t.line l).transmitter = nextExchange (t.line l).jobs)

/-- R138, R139: the poll timer makes a round of the REFRESHING jobs due unless one is unfinished; a poll goes out when nothing
else holds the line and no job would start first (R137); BUSY keeps the job REFRESHING; a wait that ends sends the poll again
once and then fails the job with NO_ANSWER, and a poll whose job was SLOW only frees the transmitter. That POLL_EXCHANGE is a
command of its own, which does nothing where it may not poll, is the model's reading (log 5), and so are the expiry of a
stopped poll timer that does nothing (log 4) and the round that counts as unfinished while its poll, or a stale one, is
outstanding (log 18). -/
def Obligations.PollsGoRound : Prop :=
  ∀ (s : State) (l : LineId), s.run = .running →
    ((s.line l).pollTimer = true → (s.line l).round = [] → (∀ i b, (s.line l).transmitter ≠ some (.poll i b)) →
      exec (.pollTimerExpiry l) s = .next (s.setLine l { s.line l with
        round := ((s.line l).jobs.filter (fun j => j.state == .refreshing)).map Job.sign })) ∧
    ((s.line l).pollTimer = false ∨ (s.line l).round ≠ [] → exec (.pollTimerExpiry l) s = .next s) ∧
    ((s.line l).transmitter ≠ none ∨ (s.line l).roll ≠ none ∨ (∃ j ∈ (s.line l).jobs, j.state = .sending) ∨
      (s.line l).round = [] → exec (.pollExchange l) s = .next s) ∧
    (∀ i rest, (s.line l).transmitter = none → (s.line l).roll = none → (∀ j ∈ (s.line l).jobs, j.state ≠ .sending) →
      startCandidate (s.lineSetup l) (s.line l) = none → (s.line l).round = i :: rest → exec (.pollExchange l) s = .next (s.setLine l { s.line l with
        round := rest, transmitter := some (.poll i true) })) ∧
    (∀ i m j, HasJob s l i m j → (s.line l).transmitter = some (.poll i true) →
      (∃ t, exec (.busyAnswer l m.position) s = .next t ∧ t = s.setLine l { s.line l with
        jobs := (s.line l).jobs.map (fun x => if x.sign = i then { x with resends := 0 } else x)
        transmitter := nextExchange (t.line l).jobs }) ∧
      (j.resends = 0 → exec (.pollAnswerWaitExpiry l) s = .next (s.setLine l { s.line l with
        jobs := (s.line l).jobs.map (fun x => if x.sign = i then { x with resends := 1 } else x) })) ∧
      (j.resends ≠ 0 → ∃ t, exec (.pollAnswerWaitExpiry l) s = .next t ∧ JobFailed s t l j .noAnswer ∧
        (t.line l).transmitter = nextExchange (t.line l).jobs)) ∧
    (∀ i, (s.line l).transmitter = some (.poll i false) → exec (.pollAnswerWaitExpiry l) s =
      .next (s.setLine l { s.line l with transmitter := nextExchange (s.line l).jobs }))

/-- R122, R123, R139, R157: DONE or IDLE with the target's full digest retires the job as successful and settles the sign; any
other digest fails it with MISMATCH; and the refresh timer fails it with SLOW, leaving an outstanding poll on the transmitter.
That DONE leaves a sign queued whose wanted digests differ from the target, also where they went back to those delivered
before, is the model's choice of R122 over row 2 of R128 (log 33); that a job without a target ends in MISMATCH is its reading
(log 28). -/
def Obligations.RefreshesEnd : Prop :=
  ∀ (s : State) (l : LineId) (i : SignId) (m : Mapping) (j : Job), HasJob s l i m j → j.state = .refreshing →
    (∀ d digest, (s.line l).transmitter = some (.poll i true) → j.target = some d → digest = d.full →
      ∃ t, exec (.doneOrIdle l m.position digest) s = .next t ∧
        t.sign i = { s.sign i with delivered := some d, failures := 0, pendingAbsent := none } ∧
        (∀ k, k ≠ i → t.sign k = s.sign k) ∧ (∀ k, k ≠ l → t.line k = s.line k) ∧
        (t.line l).jobs = (s.line l).jobs.filter (fun x => x.sign != i) ∧ (t.line l).budget = (s.line l).budget ∧
        (t.line l).transmitter = nextExchange (t.line l).jobs ∧
        ((t.sign i).matched = true → i ∉ (t.line l).dirty) ∧ ((t.sign i).matched = false → i ∈ (t.line l).dirty) ∧
        (∀ k, k ≠ i → (k ∈ (t.line l).dirty ↔ k ∈ (s.line l).dirty)) ∧
        t = { s with signs := t.signs, lines := t.lines }) ∧
    (∀ digest, (s.line l).transmitter = some (.poll i true) → j.target.map Digests.full ≠ some digest →
      ∃ t, exec (.doneOrIdle l m.position digest) s = .next t ∧ JobFailed s t l j .mismatch ∧
        (t.line l).transmitter = nextExchange (t.line l).jobs) ∧
    (∃ t, exec (.refreshTimerExpiry l i) s = .next t ∧ JobFailed s t l j .slow ∧
      (t.line l).transmitter =
        if (s.line l).transmitter = some (.poll i true) then some (.poll i false) else (s.line l).transmitter)

/-! ### Lines -/

/-- R134, R140 to R142, R156, R157: a roll call begins when the settle time ends in WAKING or the interval ends in ACTIVE; each
position's answer or second silence moves it on; an answer finds its sign PRESENT, silence finds it ABSENT whether its fault
state is NONE, LATCHED or RETRY_WAIT, and a position with no sign counts for the extras. That the first ROLL in ACTIVE is a
command of its own is the model's reading (log 5). That a CLASS which names another position has no effect is too (log 17). -/
def Obligations.RollCallsFindSigns : Prop :=
  ∀ (s : State) (l : LineId), s.run = .running →
    ((s.line l).mode = .waking → (s.line l).settle = true → exec (.settleTimerExpiry l) s = .next (s.setLine l { s.line l with
      roll := some { next := 0, resent := false, found := [] }, settle := false, transmitter := some (.roll 0) })) ∧
    ((s.line l).mode = .active → (s.line l).interval ≠ none → (s.line l).roll = none →
      exec (.rollCallIntervalExpiry l) s = .next (s.setLine l { s.line l with
        roll := some { next := 0, resent := false, found := [] }, interval := none })) ∧
    (∀ rc, (s.line l).mode = .active → (s.line l).roll = some rc → (s.line l).transmitter = none →
      (∀ j ∈ (s.line l).jobs, j.state ≠ .sending) →
      exec (.rollCallStart l) s = .next (s.setLine l { s.line l with transmitter := some (.roll rc.next) })) ∧
    ∀ rc pos, (s.line l).roll = some rc → (s.line l).transmitter = some (.roll pos) →
      (rc.resent = false → exec (.rollAnswerWaitExpiry l) s =
        .next (s.setLine l { s.line l with roll := some { rc with resent := true } })) ∧
      (∀ cls other, other ≠ pos → exec (.classAnswer l other cls) s = .next s) ∧
      ((∀ i m, s.mapping i = some m → m.line = l → m.position ≠ pos) →
        (∀ cls, ∃ t, exec (.classAnswer l pos cls) s = .next t ∧ RollMoved s t l pos (rc.found ++ [pos]) ∧
          t = { s with lines := t.lines, ports := t.ports }) ∧
        (rc.resent = true → ∃ t, exec (.rollAnswerWaitExpiry l) s = .next t ∧ RollMoved s t l pos rc.found ∧
          t = { s with lines := t.lines, ports := t.ports })) ∧
      ∀ i m, s.mapping i = some m → m.line = l → m.position = pos →
        (∀ j n, s.mapping j = some n → n.line = l → n.position = pos → j = i) →
        (∀ cls, ∃ u t, exec (.classAnswer l pos cls) s = .next t ∧ RollMoved u t l pos rc.found ∧
          t = { u with lines := t.lines, ports := t.ports } ∧
          u = { s with signs := u.signs, lines := u.lines, ports := u.ports } ∧
          u.sign i = { s.sign i with
            link := .present, reported := some cls, pendingAbsent := none
            delivered := if (s.sign i).link = .present then (s.sign i).delivered else none
            fault := if (s.sign i).link ≠ .present ∧ (s.sign i).fault = .retryWait ∧ (s.sign i).retry = .presence then
              .none else (s.sign i).fault
            retry := if (s.sign i).link ≠ .present ∧ (s.sign i).fault = .retryWait ∧ (s.sign i).retry = .presence then
              .stopped else (s.sign i).retry } ∧
          (∀ j, j ≠ i → u.sign j = s.sign j) ∧ (∀ k, (s.line k).Still (u.line k)) ∧
          ((s.sign i).link = .present → u.lines = s.lines) ∧
          ((s.sign i).link ≠ .present → (s.line l).jobOf i = none → (u.sign i).fault = .none → i ∈ (u.line l).dirty) ∧
          (∀ q, u.port q = if (s.sign i).reported ≠ some cls ∧ cls ≠ m.cls ∧ (s.portSetup q).roles.setup = true then
            { s.port q with raised := (s.port q).raised ||| Source.flag .line } else s.port q)) ∧
        (rc.resent = true → ∃ u t, exec (.rollAnswerWaitExpiry l) s = .next t ∧ RollMoved u t l pos rc.found ∧
          t = { u with lines := t.lines, ports := t.ports } ∧
          u = { s with signs := u.signs, lines := u.lines, ports := u.ports } ∧
          ((s.sign i).link = .absent → u = s) ∧
          ((s.sign i).link ≠ .absent → (s.sign i).fault = .none → ((s.line l).jobs.map Job.sign).Nodup →
            ((∀ j, (s.line l).jobOf i = some j → j.state = .ready) →
              Faulted s u l i { s.sign i with link := .absent } .absent (s.sign i).origin ∧
              (u.line l).jobs = (s.line l).jobs.filter (fun j => j.sign != i)) ∧
            (∀ j, (s.line l).jobOf i = some j → j.state ≠ .ready →
              u.sign i = { s.sign i with link := .absent, pendingAbsent := some (s.sign i).origin } ∧
              u.lines = s.lines ∧ u.ports = s.ports ∧ ∀ k, k ≠ i → u.sign k = s.sign k)) ∧
          ((s.sign i).link ≠ .absent → (s.sign i).fault = .latched → (s.line l).jobOf i = none →
            u.sign i = { s.sign i with link := .absent, lastFault := some .absent } ∧ u.lines = s.lines ∧
            u.ports = s.ports ∧ ∀ k, k ≠ i → u.sign k = s.sign k) ∧
          ((s.sign i).link ≠ .absent → (s.sign i).fault = .retryWait → (s.line l).jobOf i = none →
            u.sign i = SignRecord.faulted { s.sign i with link := .absent } .absent s.setup.fault.absent
              s.setup.fault.retryTime ∧
            (∀ k, k ≠ i → u.sign k = s.sign k) ∧
            (∀ q, u.port q = if (s.sign i).reports s.setup.fault.absent && s.faultPort (s.sign i).origin q then
              (s.port q).faultTaken i .absent else s.port q) ∧
            (s.setup.fault.absent = .latch ∨ s.setup.fault.absent = .retry → u.lines = (s.setLine l { s.line l with
              dirty := (s.line l).dirty.filter (fun k => k != i) }).lines) ∧
            (s.setup.fault.absent = .report ∨ s.setup.fault.absent = .ignore → u.lines = s.lines)))

/-- R126, R127, R130, R133, R140: SET_LINE: its checks in their order, its clamps, the budget clamped into the capacity, the
line woken or switched off, and the budget in the reply. An enabled byte above 1 is the model's BAD_VALUE (log 11). That the
budget is clamped also where the capacity stays, and that a changed interval starts the timer also while a roll call runs, are
the model's readings (logs 31, 19). -/
def Obligations.LineSettingsTakeEffect : Prop :=
  ∀ (s : State) (h : Header) (f : LineFields), Accepted s h .setup →
    (∀ line, 5 < line ∨ 1 < f.enabled ∨ f.refreshLimit ∉ [2, 4, 8, 16] ∨ 60 < f.interval ∨ f.filter ∉ [1, 2, 4, 8] ∨
        1 < f.grouping → exec (.setLine h line f) s = .next (s.answeredWith h 0x33 .badValue .empty)) ∧
    ∀ (l : LineId) (c : LineSetup), f.enabled ≤ 1 → f.refreshLimit ∈ [2, 4, 8, 16] → f.interval ≤ 60 →
      f.filter ∈ [1, 2, 4, 8] → f.grouping ≤ 1 →
      c = { enabled := f.enabled == 1, capacity := max 8 f.capacity, refill := min 31 f.refill
            limit := max 1 (min 4 f.limit), refreshLimit := f.refreshLimit, interval := f.interval, filter := f.filter } →
      ((f.enabled = 0 ∧ 0 < (s.line l).inFlight) ∨ c.limit < (s.line l).inFlight →
        exec (.setLine h l.val f) s = .next (s.answeredWith h 0x33 .busy .empty)) ∧
      ((f.enabled = 0 → (s.line l).inFlight = 0) → (s.line l).inFlight ≤ c.limit →
        ∃ t, exec (.setLine h l.val f) s = .next t ∧
          Replied s t h 0x33 .ok (decide (f.capacity < 8 ∨ 31 < f.refill ∨ f.limit < 1 ∨ 4 < f.limit))
            (.budget (t.line l).budget) ∧
          t.lineSetup l = c ∧ (∀ k, k ≠ l → t.lineSetup k = s.lineSetup k) ∧
          t.setup.grouping = (if f.grouping = 0 then .separate else .paired) ∧
          (t.line l).budget = max (-(c.capacity : Int)) (min (s.line l).budget c.capacity) ∧
          (∀ k, k ≠ l → t.line k = s.line k) ∧
          (f.enabled = 1 → (s.line l).mode ≠ .off → t.line l = { s.line l with
            budget := (t.line l).budget
            interval := if (s.lineSetup l).interval = f.interval then (s.line l).interval
              else if (s.line l).mode = .active ∧ f.interval ≠ 0 then some f.interval else none }) ∧
          (f.enabled = 1 → (s.line l).mode = .off → (t.line l).mode = .waking ∧ (t.line l).settle = true ∧
            (t.line l).transmitter = none ∧ (t.line l).roll = none ∧ (t.line l).hold = .none ∧
            (t.line l).jobs = (s.line l).jobs ∧ (t.line l).dirty = (s.line l).dirty) ∧
          (f.enabled = 0 → (t.line l).mode = .off) ∧
          (f.enabled = 0 → (s.line l).mode ≠ .off → (t.line l).transmitter = none ∧ (t.line l).settle = false ∧
            (t.line l).pollTimer = false ∧ (t.line l).roll = none ∧ (t.line l).interval = none ∧
            (t.line l).hold = .none ∧ (t.line l).jobs = [] ∧
            ∀ i, i ∈ (t.line l).dirty ↔ i ∈ (s.line l).dirty ∨ i ∈ (s.line l).jobs.map Job.sign) ∧
          (t.line l).trips = (s.line l).trips ∧ (t.line l).extras = (s.line l).extras ∧
          (s.quiet ≠ .settling → t.quiet = s.quiet) ∧ Unpressed s t ∧ PortsAnswered s t h.port ∧
          t = { s with arb := s.arb.restarted h.port s.setup.arbiter.idleCode, ports := t.ports, lines := t.lines
                       quiet := t.quiet, setup := { s.setup with lines := t.setup.lines, grouping := t.setup.grouping } })

/-- R146 to R148: SET_QUIET stores its clamped thresholds and moves the quiet state; WAKE_LINES wakes the QUIET lines in
SETTLING or QUIET and does nothing else; LINE_SLEEP puts an empty ACTIVE line to sleep, and the controller is QUIET when every
enabled line is QUIET or TRIPPED. An enable byte above 1 is the model's BAD_VALUE (log 11), and LINE_SLEEP a command of its own
(log 5). That the controller becomes QUIET in the step that finds every enabled line QUIET or TRIPPED is the model's reading
(log 21). -/
def Obligations.LinesSleepAndWake : Prop :=
  (∀ (s : State) (h : Header), Accepted s h .setup →
    (∀ enable a b, 1 < enable → exec (.setQuiet h enable a b) s = .next (s.answeredWith h 0x34 .badValue .empty)) ∧
    (∀ enable a b en ex, enable ≤ 1 → en = max 30 (min 480 a) →
      ex = (if en ≤ max 10 (min 470 b) then en - 1 else max 10 (min 470 b)) →
      ∃ t, exec (.setQuiet h enable a b) s = .next t ∧ Replied s t h 0x34 .ok (decide (en ≠ a ∨ ex ≠ b)) .empty ∧
        t.setup = { s.setup with quiet := { enable := enable == 1, qEnter := en, qExit := ex } } ∧
        (enable = 1 → s.quiet = .disabled → t.quiet = .awake ∧ t.lines = s.lines) ∧
        (enable = 0 → t.quiet = .disabled) ∧ (enable = 0 → s.quiet = .disabled ∨ s.quiet = .awake → t.lines = s.lines) ∧
        (enable = 0 → s.quiet = .settling ∨ s.quiet = .quiet → WokenFrom s t) ∧
        (enable = 1 → s.quiet = .awake → t.quiet = .awake ∧ t.lines = s.lines) ∧
        (enable = 1 → s.quiet = .settling ∨ s.quiet = .quiet →
          ((∃ r, (s.roomSetup r).enabled = true ∧ roomWakes t.setup.quiet (s.eval r) = true) →
            t.quiet = .awake ∧ WokenFrom s t) ∧
          ((∀ r, (s.roomSetup r).enabled = true → roomWakes t.setup.quiet (s.eval r) = false) →
            t.quiet = s.quiet ∧ t.lines = s.lines)) ∧
        Unpressed s t ∧ PortsAnswered s t h.port ∧
        t = { s with arb := s.arb.restarted h.port s.setup.arbiter.idleCode, ports := t.ports, lines := t.lines
                     quiet := t.quiet, setup := t.setup }) ∧
    (s.quiet = .disabled ∨ s.quiet = .awake →
      exec (.wakeLines h) s = .next (s.answeredWith h 0x35 .ok (.smallCount 0))) ∧
    (s.quiet = .settling ∨ s.quiet = .quiet → ∃ t, exec (.wakeLines h) s = .next t ∧
      Replied s t h 0x35 .ok false (.smallCount (s.lines.toList.countP (fun ln => ln.mode == .quiet))) ∧
      t.quiet = .awake ∧ WokenFrom s t ∧ Unpressed s t ∧ PortsAnswered s t h.port ∧
      t = { s with arb := s.arb.restarted h.port s.setup.arbiter.idleCode, ports := t.ports, lines := t.lines
                   quiet := t.quiet })) ∧
  ∀ (s : State) (l : LineId), s.run = .running →
    (s.quiet = .settling ∨ s.quiet = .quiet → (s.lineSetup l).enabled = true → (s.line l).mode = .active →
      (s.line l).jobs = [] → (s.line l).dirty = [] → (s.line l).roll = none → ∃ t, exec (.lineSleep l) s = .next t ∧
        t.line l = { s.line l with mode := .quiet, transmitter := none, settle := false, pollTimer := false, round := []
                                   interval := none, excess := false } ∧
        (∀ k, k ≠ l → t.line k = s.line k) ∧
        t.quiet = (if ∀ k, (s.lineSetup k).enabled = true → k = l ∨ (s.line k).mode = .quiet ∨ (s.line k).mode = .tripped
          then .quiet else s.quiet) ∧
        t = { s with lines := t.lines, quiet := t.quiet }) ∧
    (s.quiet = .disabled ∨ s.quiet = .awake ∨ (s.line l).mode ≠ .active ∨ (s.line l).jobs ≠ [] ∨ (s.line l).dirty ≠ [] ∨
      (s.line l).roll ≠ none → exec (.lineSleep l) s = .next s)

/-- R124, R143 to R145, R159, R161: a trip switches the line off, fails its jobs in flight without a fault, counts, raises LINE
on the SETUP ports, holds the line and, when PAIRED, trips a powered partner; the end of the hold, or CLEAR_FAULT of the line,
restores it to WAKING. An excess that ends sooner has no effect. The watch of the current is a flag here (log 20). That TRIP of
an unpowered line and the expiry of a wait that does not run do nothing is the model's reading (log 4), and so is the expiry as
the boundary that ends the wait (log 7). -/
def Obligations.LinesTripAndAreRestored : Prop :=
  (∀ (s : State) (l : LineId), s.run = .running →
    ((s.line l).mode = .waking ∨ (s.line l).mode = .active →
      exec (.excessCurrentOnset l) s = .next (s.setLine l { s.line l with excess := true }) ∧
      ((s.line l).excess = true → ((s.line l).jobs.map Job.sign).Nodup →
        ((s.line (partner l)).jobs.map Job.sign).Nodup → ∃ t, exec (.trip l) s = .next t ∧ TrippedFrom s t l ∧
          (t.line l).trips = min 255 ((s.line l).trips + 1) ∧
          (s.setup.grouping = .paired → (s.line (partner l)).mode = .waking ∨ (s.line (partner l)).mode = .active →
            TrippedFrom s t (partner l) ∧ (t.line (partner l)).trips = (s.line (partner l)).trips) ∧
          (s.setup.grouping = .separate ∨
            ((s.line (partner l)).mode ≠ .waking ∧ (s.line (partner l)).mode ≠ .active) →
            t.line (partner l) = s.line (partner l)) ∧
          (∀ k, k ≠ l → k ≠ partner l → t.line k = s.line k) ∧
          (∀ q, t.port q = if (s.portSetup q).roles.setup = true then
            { s.port q with raised := (s.port q).raised ||| Source.flag .line } else s.port q) ∧
          (s.quiet ≠ .settling → t.quiet = s.quiet) ∧
          t = { s with lines := t.lines, signs := t.signs, ports := t.ports, quiet := t.quiet })) ∧
    ((s.line l).mode ≠ .waking → (s.line l).mode ≠ .active →
      exec (.trip l) s = .next s ∧ exec (.excessCurrentOnset l) s = .next s) ∧
    exec (.excessCurrentEnd l) s = .next (s.setLine l { s.line l with excess := false }) ∧
    ((s.line l).hold = .waiting 1 → exec (.lineRetryWaitExpiry l) s = .next (s.setLine l (restored (s.line l)))) ∧
    ((s.line l).hold = .none → exec (.lineRetryWaitExpiry l) s = .next s)) ∧
  ∀ (s : State) (h : Header), Accepted s h .setup →
    (∀ n, 5 < n → exec (.clearFaultLine h n) s = .next (s.answeredWith h 0x37 .badValue .empty)) ∧
    ∀ l : LineId,
      ((s.line l).hold = .none → exec (.clearFaultLine h l.val) s = .next (s.answeredWith h 0x37 .ok .empty)) ∧
      ((s.line l).hold ≠ .none → exec (.clearFaultLine h l.val) s =
        .next ((s.answeredWith h 0x37 .ok .empty).setLine l (restored (s.line l))))

/-- R155, R160: CLEAR_FAULT of a LATCHED or RETRY_WAIT sign clears its fault and count, makes its delivered digests unknown and
queues it, and of any other sign changes nothing; the end of a sign's retry wait clears the fault and settles it, with the
count kept. The expiry is the boundary that ends the wait (log 7). The expiry of a timer that does not run does nothing (log
4). -/
def Obligations.SignFaultsEnd : Prop :=
  (∀ (s : State) (h : Header), Accepted s h .setup →
    (∀ n, 95 < n → exec (.clearFaultSign h n) s = .next (s.answeredWith h 0x37 .badValue .empty)) ∧
    ∀ i : SignId,
      (s.mapping i = none ∨ (s.sign i).fault = .none →
        exec (.clearFaultSign h i.val) s = .next (s.answeredWith h 0x37 .ok .empty)) ∧
      ∀ m, s.mapping i = some m → (s.sign i).fault ≠ .none →
        exec (.clearFaultSign h i.val) s = .next (((s.answeredWith h 0x37 .ok .empty).setSign i
          { s.sign i with fault := .none, retry := .stopped, failures := 0, delivered := none }).setLine m.line
          { s.line m.line with dirty := if i ∈ (s.line m.line).dirty then (s.line m.line).dirty
                                        else (s.line m.line).dirty ++ [i] })) ∧
  ∀ (s : State) (i : SignId) (m : Mapping), s.run = .running → s.mapping i = some m → (s.line m.line).jobOf i = none →
    ((s.sign i).retry = .running 1 → exec (.retryTimerExpiry i) s = .next ((s.setSign i
      { s.sign i with fault := .none, retry := .stopped }).setLine m.line { s.line m.line with
        dirty := if (s.sign i).matched = true then (s.line m.line).dirty.filter (fun k => k != i)
          else if i ∈ (s.line m.line).dirty then (s.line m.line).dirty else (s.line m.line).dirty ++ [i] })) ∧
    ((s.sign i).retry = .stopped ∨ (s.sign i).retry = .presence → exec (.retryTimerExpiry i) s = .next s)

/-! ### Setup store and starts -/

/-- R5, R105, R177 to R180: SAVE_SETUP and its completion make the stored copy the working setup; LOAD_SETUP is refused while a
grant or a job stands; its completion fails with BAD_STORE, BUSY or TEXT_FULL and changes nothing else, or applies the stored
setup. The check code of the stored copy is the CRC-16 (R185) of the image's bytes, whose layout is a free value, and there is
none while a save runs (log 15). -/
def Obligations.SetupIsSavedAndLoaded : Prop :=
  (∀ (s : State) (h : Header), Accepted s h .setup →
    (∃ t, exec (.saveSetup h) s = .next t ∧ Replied s t h 0x3B .ok false .empty ∧ t.store = .saving h.port ∧
      t.stored = { image := s.setup, check := none } ∧ t.stored.valid = false ∧ Unpressed s t ∧ PortsAnswered s t h.port ∧
      t = { s with arb := s.arb.restarted h.port s.setup.arbiter.idleCode, ports := t.ports, store := t.store
                   stored := t.stored }) ∧
    (s.arb.holder ≠ none ∨ (∃ l, (s.line l).jobs ≠ []) →
      exec (.loadSetup h) s = .next (s.answeredWith h 0x3C .busy .empty)) ∧
    (s.arb.holder = none → (∀ l, (s.line l).jobs = []) → exec (.loadSetup h) s =
      .next { s.answeredWith h 0x3C .ok .empty with store := .loading h.port })) ∧
  ∀ (s : State) (p : Port), s.run = .running →
    (s.store = .saving p → ∃ c : StoredCopy, exec .saveCompletion s = .next { s.setPort p { s.port p with
        outcome := some (.save, .ok), raised := (s.port p).raised ||| Source.flag .store } with
      store := .idle, stored := c } ∧
      c = { image := s.stored.image, check := some (crc16 (Config.imageBytes s.stored.image)) } ∧ c.valid = true) ∧
    (s.store = .loading p →
      (s.stored.valid = false → exec .loadCompletion s = .next { s.setPort p { s.port p with
          outcome := some (.load, .badStore), raised := (s.port p).raised ||| Source.flag .store } with store := .blank }) ∧
      (s.stored.valid = true →
        (s.arb.holder ≠ none ∨ (∃ l, (s.line l).jobs ≠ []) → exec .loadCompletion s = .next { s.setPort p { s.port p with
            outcome := some (.load, .busy), raised := (s.port p).raised ||| Source.flag .store } with store := .idle }) ∧
        (s.arb.holder = none → (∀ l, (s.line l).jobs = []) →
          (s.freeCells + nameCells s.setup.rooms + s.doomedCells s.stored.image < nameCells s.stored.image.rooms →
            exec .loadCompletion s = .next { s.setPort p { s.port p with
              outcome := some (.load, .textFull), raised := (s.port p).raised ||| Source.flag .store } with
              store := .idle }) ∧
          (nameCells s.stored.image.rooms ≤ s.freeCells + nameCells s.setup.rooms + s.doomedCells s.stored.image →
            ∃ t, exec .loadCompletion s = .next t ∧ t.setup = s.stored.image ∧ t.store = .idle ∧
              (t.port p).outcome = some (.load, .ok) ∧
              (∀ q, (t.port q).raised = (if t.pressure = s.pressure then (s.port q).raised
                else (s.port q).raised ||| Source.flag .pace) ||| (if q = p then Source.flag .store else 0#8)) ∧
              (∀ r, t.timetable r = if (t.roomSetup r).enabled = true then s.timetable r else []) ∧
              t.pressure = nextPressure s.pressure t.freeEntries t.freeCells ∧
              (∀ r, t.eval r = if (t.roomSetup r).enabled = true then
                evaluation (t.roomSetup r) (t.timetable r) (shownNotice s.notices r) s.clock else .disabled) ∧
              (∀ i m, t.mapping i = some m → (t.roomSetup m.room).enabled = true → (t.sign i).delivered = none ∧
                (t.sign i).test = (s.sign i).test ∧
                ((t.sign i).test = none → (t.sign i).wanted = (t.eval m.room).digests m.role ∧
                  (t.sign i).origin = .setup) ∧
                ((∃ n, s.mapping i = some n ∧ n.line = m.line ∧ n.position = m.position) →
                  (t.sign i).fault = (s.sign i).fault ∧ (t.sign i).link = (s.sign i).link) ∧
                ((∀ n, s.mapping i = some n → n.line = m.line → n.position ≠ m.position) →
                  (t.sign i).fault = .none ∧ (t.sign i).link = .unknown) ∧
                ((t.sign i).fault = .none → i ∈ (t.line m.line).dirty)) ∧
              (∀ i, t.mapping i = none → t.sign i = { SignRecord.fresh with lastFault := (s.sign i).lastFault }) ∧
              (∀ l, (t.line l).jobs = [] ∧ (t.line l).trips = (s.line l).trips ∧
                (∀ pos, pos ∈ (t.line l).extras ↔ pos ∈ (s.line l).extras ∧
                  ∀ i m, t.mapping i = some m → m.line = l → m.position ≠ pos) ∧
                (t.line l).budget = max (-((t.lineSetup l).capacity : Int)) (min (s.line l).budget (t.lineSetup l).capacity) ∧
                ((t.lineSetup l).enabled = false → (t.line l).mode = .off) ∧
                ((t.lineSetup l).enabled = true → (s.line l).mode = .off → (t.line l).mode = .waking)) ∧
              t = { s with setup := t.setup, store := t.store, ports := t.ports, timetables := t.timetables
                           pressure := t.pressure, evals := t.evals, signs := t.signs, lines := t.lines
                           quiet := t.quiet }))))

/-- R91, R181, R182: SOFT_CLEAR empties the arbiter, the timetable and the notices, ends test, removes the READY jobs and hands every
mapped sign its board; the start-up sequence puts every block at its value after reset, from the stored copy or the blank
defaults, with the address of the straps at power-on and the one in force at the reset pin; the reset pin and a power loss stop
the hub. That a hub powered on with the reset pin asserted is held, with the straps read, until the pin is released is the model's
reading (log 3), and so is that the baud strap is read at power-on alone (log 39); what an unpowered or held hub holds is the model's
choice (log 14). -/
def Obligations.HubIsClearedStartedAndStopped : Prop :=
  (∀ (s : State) (h : Header), Accepted s h .setup → ∃ t, exec (.softClear h) s = .next t ∧
    Replied s t h 0x3D .ok false .empty ∧ t.startCause = .soft ∧
    t.arb = { holder := none, rooms := [], waiters := [], staging := [], idle := none, withdrawals := s.arb.withdrawals } ∧
    (∀ r, t.timetable r = []) ∧ t.notices = [] ∧ Repressed s t ∧
    (∀ r, t.eval r = if (s.roomSetup r).enabled = true then evaluation (s.roomSetup r) [] none s.clock else .disabled) ∧
    (∀ i m, s.mapping i = some m → (s.roomSetup m.room).enabled = true → t.sign i = { s.sign i with
      test := none, wanted := (t.eval m.room).digests m.role, delivered := none, origin := .setup }) ∧
    (∀ l, ((s.line l).jobs.map Job.sign).Nodup → (t.line l).jobs = (s.line l).jobs.filter Job.inFlight) ∧
    (∀ l, (t.line l).mode = (s.line l).mode ∧ (t.line l).budget = (s.line l).budget ∧
      (t.line l).transmitter = (s.line l).transmitter ∧ (t.line l).trips = (s.line l).trips) ∧
    PortsAnswered s t h.port ∧
    t = { s with arb := t.arb, ports := t.ports, timetables := t.timetables, notices := t.notices, pressure := t.pressure
                 evals := t.evals, signs := t.signs, lines := t.lines, startCause := t.startCause }) ∧
  (∀ (s : State) (straps : Fin 8) (baud : Baud),
    (s.run = .off → s.resetPin = false →
      ∃ t, exec (.powerOn straps baud) s = .next t ∧ Started s t .power baud straps.val false) ∧
    (s.run = .off → s.resetPin = true → exec (.powerOn straps baud) s =
      .next { s with run := .held, baud := baud, address := straps.val, programmed := false }) ∧
    (s.run ≠ .off → exec (.powerOn straps baud) s = .next s)) ∧
  (∀ s : State,
    (s.run = .held → ∃ t, exec .resetPinRelease s = .next t ∧ Started s t .pin s.baud s.address s.programmed) ∧
    (s.run ≠ .held → exec .resetPinRelease s = .next { s with resetPin := false }) ∧
    (s.run = .running → ∃ t, exec .resetPinAssert s = .next t ∧ t.run = .held ∧ t.resetPin = true ∧ t.stored = s.stored ∧
      t.address = s.address ∧ t.programmed = s.programmed ∧ t.baud = s.baud ∧ t.pending = s.pending ∧
      ∀ l, (t.line l).mode = .off) ∧
    (s.run ≠ .running → exec .resetPinAssert s = .next { s with resetPin := true })) ∧
  ∀ s : State, s.run ≠ .off → ∃ t, exec .powerLoss s = .next t ∧ t.run = .off ∧ t.resetPin = s.resetPin ∧
    t.stored = s.stored ∧ t.programmed = false ∧ t.pending = s.pending ∧ ∀ l, (t.line l).mode = .off

end
end

