-- ==== Sys2Proof/Laws/State.lean ====
section
/-! SUPPORT. One lemma per field per update of State, and what each named item reads after each named update. -/

namespace Sys2Proof.Machine

/-! ### State.setPort -/

@[simp] theorem State.setPort_pending (s : State) (p : Port) (x : PortRecord) : (s.setPort p x).pending = s.pending := rfl
@[simp] theorem State.setPort_run (s : State) (p : Port) (x : PortRecord) : (s.setPort p x).run = s.run := rfl
@[simp] theorem State.setPort_resetPin (s : State) (p : Port) (x : PortRecord) : (s.setPort p x).resetPin = s.resetPin := rfl
@[simp] theorem State.setPort_baud (s : State) (p : Port) (x : PortRecord) : (s.setPort p x).baud = s.baud := rfl
@[simp] theorem State.setPort_setup (s : State) (p : Port) (x : PortRecord) : (s.setPort p x).setup = s.setup := rfl
@[simp] theorem State.setPort_stored (s : State) (p : Port) (x : PortRecord) : (s.setPort p x).stored = s.stored := rfl
@[simp] theorem State.setPort_store (s : State) (p : Port) (x : PortRecord) : (s.setPort p x).store = s.store := rfl
@[simp] theorem State.setPort_startCause (s : State) (p : Port) (x : PortRecord) : (s.setPort p x).startCause = s.startCause := rfl
@[simp] theorem State.setPort_address (s : State) (p : Port) (x : PortRecord) : (s.setPort p x).address = s.address := rfl
@[simp] theorem State.setPort_programmed (s : State) (p : Port) (x : PortRecord) : (s.setPort p x).programmed = s.programmed := rfl
@[simp] theorem State.setPort_clock (s : State) (p : Port) (x : PortRecord) : (s.setPort p x).clock = s.clock := rfl
@[simp] theorem State.setPort_timetables (s : State) (p : Port) (x : PortRecord) : (s.setPort p x).timetables = s.timetables := rfl
@[simp] theorem State.setPort_evals (s : State) (p : Port) (x : PortRecord) : (s.setPort p x).evals = s.evals := rfl
@[simp] theorem State.setPort_pressure (s : State) (p : Port) (x : PortRecord) : (s.setPort p x).pressure = s.pressure := rfl
@[simp] theorem State.setPort_notices (s : State) (p : Port) (x : PortRecord) : (s.setPort p x).notices = s.notices := rfl
@[simp] theorem State.setPort_arb (s : State) (p : Port) (x : PortRecord) : (s.setPort p x).arb = s.arb := rfl
@[simp] theorem State.setPort_signs (s : State) (p : Port) (x : PortRecord) : (s.setPort p x).signs = s.signs := rfl
@[simp] theorem State.setPort_lines (s : State) (p : Port) (x : PortRecord) : (s.setPort p x).lines = s.lines := rfl
@[simp] theorem State.setPort_quiet (s : State) (p : Port) (x : PortRecord) : (s.setPort p x).quiet = s.quiet := rfl
@[simp] theorem State.setPort_timetable (s : State) (p : Port) (x : PortRecord) (r' : RoomId) : (s.setPort p x).timetable r' = s.timetable r' := rfl
@[simp] theorem State.setPort_eval (s : State) (p : Port) (x : PortRecord) (r' : RoomId) : (s.setPort p x).eval r' = s.eval r' := rfl
@[simp] theorem State.setPort_sign (s : State) (p : Port) (x : PortRecord) (i' : SignId) : (s.setPort p x).sign i' = s.sign i' := rfl
@[simp] theorem State.setPort_line (s : State) (p : Port) (x : PortRecord) (l' : LineId) : (s.setPort p x).line l' = s.line l' := rfl
@[simp] theorem State.setPort_roomSetup (s : State) (p : Port) (x : PortRecord) (r' : RoomId) : (s.setPort p x).roomSetup r' = s.roomSetup r' := rfl
@[simp] theorem State.setPort_mapping (s : State) (p : Port) (x : PortRecord) (i' : SignId) : (s.setPort p x).mapping i' = s.mapping i' := rfl
@[simp] theorem State.setPort_lineSetup (s : State) (p : Port) (x : PortRecord) (l' : LineId) : (s.setPort p x).lineSetup l' = s.lineSetup l' := rfl
@[simp] theorem State.setPort_portSetup (s : State) (p : Port) (x : PortRecord) (q : Port) : (s.setPort p x).portSetup q = s.portSetup q := rfl

/-! ### State.updPort -/

@[simp] theorem State.updPort_pending (s : State) (p : Port) (f : PortRecord → PortRecord) : (s.updPort p f).pending = s.pending := rfl
@[simp] theorem State.updPort_run (s : State) (p : Port) (f : PortRecord → PortRecord) : (s.updPort p f).run = s.run := rfl
@[simp] theorem State.updPort_resetPin (s : State) (p : Port) (f : PortRecord → PortRecord) : (s.updPort p f).resetPin = s.resetPin := rfl
@[simp] theorem State.updPort_baud (s : State) (p : Port) (f : PortRecord → PortRecord) : (s.updPort p f).baud = s.baud := rfl
@[simp] theorem State.updPort_setup (s : State) (p : Port) (f : PortRecord → PortRecord) : (s.updPort p f).setup = s.setup := rfl
@[simp] theorem State.updPort_stored (s : State) (p : Port) (f : PortRecord → PortRecord) : (s.updPort p f).stored = s.stored := rfl
@[simp] theorem State.updPort_store (s : State) (p : Port) (f : PortRecord → PortRecord) : (s.updPort p f).store = s.store := rfl
@[simp] theorem State.updPort_startCause (s : State) (p : Port) (f : PortRecord → PortRecord) : (s.updPort p f).startCause = s.startCause := rfl
@[simp] theorem State.updPort_address (s : State) (p : Port) (f : PortRecord → PortRecord) : (s.updPort p f).address = s.address := rfl
@[simp] theorem State.updPort_programmed (s : State) (p : Port) (f : PortRecord → PortRecord) : (s.updPort p f).programmed = s.programmed := rfl
@[simp] theorem State.updPort_clock (s : State) (p : Port) (f : PortRecord → PortRecord) : (s.updPort p f).clock = s.clock := rfl
@[simp] theorem State.updPort_timetables (s : State) (p : Port) (f : PortRecord → PortRecord) : (s.updPort p f).timetables = s.timetables := rfl
@[simp] theorem State.updPort_evals (s : State) (p : Port) (f : PortRecord → PortRecord) : (s.updPort p f).evals = s.evals := rfl
@[simp] theorem State.updPort_pressure (s : State) (p : Port) (f : PortRecord → PortRecord) : (s.updPort p f).pressure = s.pressure := rfl
@[simp] theorem State.updPort_notices (s : State) (p : Port) (f : PortRecord → PortRecord) : (s.updPort p f).notices = s.notices := rfl
@[simp] theorem State.updPort_arb (s : State) (p : Port) (f : PortRecord → PortRecord) : (s.updPort p f).arb = s.arb := rfl
@[simp] theorem State.updPort_signs (s : State) (p : Port) (f : PortRecord → PortRecord) : (s.updPort p f).signs = s.signs := rfl
@[simp] theorem State.updPort_lines (s : State) (p : Port) (f : PortRecord → PortRecord) : (s.updPort p f).lines = s.lines := rfl
@[simp] theorem State.updPort_quiet (s : State) (p : Port) (f : PortRecord → PortRecord) : (s.updPort p f).quiet = s.quiet := rfl
@[simp] theorem State.updPort_timetable (s : State) (p : Port) (f : PortRecord → PortRecord) (r' : RoomId) : (s.updPort p f).timetable r' = s.timetable r' := rfl
@[simp] theorem State.updPort_eval (s : State) (p : Port) (f : PortRecord → PortRecord) (r' : RoomId) : (s.updPort p f).eval r' = s.eval r' := rfl
@[simp] theorem State.updPort_sign (s : State) (p : Port) (f : PortRecord → PortRecord) (i' : SignId) : (s.updPort p f).sign i' = s.sign i' := rfl
@[simp] theorem State.updPort_line (s : State) (p : Port) (f : PortRecord → PortRecord) (l' : LineId) : (s.updPort p f).line l' = s.line l' := rfl
@[simp] theorem State.updPort_roomSetup (s : State) (p : Port) (f : PortRecord → PortRecord) (r' : RoomId) : (s.updPort p f).roomSetup r' = s.roomSetup r' := rfl
@[simp] theorem State.updPort_mapping (s : State) (p : Port) (f : PortRecord → PortRecord) (i' : SignId) : (s.updPort p f).mapping i' = s.mapping i' := rfl
@[simp] theorem State.updPort_lineSetup (s : State) (p : Port) (f : PortRecord → PortRecord) (l' : LineId) : (s.updPort p f).lineSetup l' = s.lineSetup l' := rfl
@[simp] theorem State.updPort_portSetup (s : State) (p : Port) (f : PortRecord → PortRecord) (q : Port) : (s.updPort p f).portSetup q = s.portSetup q := rfl

/-! ### State.setTimetable -/

@[simp] theorem State.setTimetable_pending (s : State) (r : RoomId) (x : List Entry) : (s.setTimetable r x).pending = s.pending := rfl
@[simp] theorem State.setTimetable_run (s : State) (r : RoomId) (x : List Entry) : (s.setTimetable r x).run = s.run := rfl
@[simp] theorem State.setTimetable_resetPin (s : State) (r : RoomId) (x : List Entry) : (s.setTimetable r x).resetPin = s.resetPin := rfl
@[simp] theorem State.setTimetable_baud (s : State) (r : RoomId) (x : List Entry) : (s.setTimetable r x).baud = s.baud := rfl
@[simp] theorem State.setTimetable_setup (s : State) (r : RoomId) (x : List Entry) : (s.setTimetable r x).setup = s.setup := rfl
@[simp] theorem State.setTimetable_stored (s : State) (r : RoomId) (x : List Entry) : (s.setTimetable r x).stored = s.stored := rfl
@[simp] theorem State.setTimetable_store (s : State) (r : RoomId) (x : List Entry) : (s.setTimetable r x).store = s.store := rfl
@[simp] theorem State.setTimetable_startCause (s : State) (r : RoomId) (x : List Entry) : (s.setTimetable r x).startCause = s.startCause := rfl
@[simp] theorem State.setTimetable_address (s : State) (r : RoomId) (x : List Entry) : (s.setTimetable r x).address = s.address := rfl
@[simp] theorem State.setTimetable_programmed (s : State) (r : RoomId) (x : List Entry) : (s.setTimetable r x).programmed = s.programmed := rfl
@[simp] theorem State.setTimetable_clock (s : State) (r : RoomId) (x : List Entry) : (s.setTimetable r x).clock = s.clock := rfl
@[simp] theorem State.setTimetable_evals (s : State) (r : RoomId) (x : List Entry) : (s.setTimetable r x).evals = s.evals := rfl
@[simp] theorem State.setTimetable_pressure (s : State) (r : RoomId) (x : List Entry) : (s.setTimetable r x).pressure = s.pressure := rfl
@[simp] theorem State.setTimetable_notices (s : State) (r : RoomId) (x : List Entry) : (s.setTimetable r x).notices = s.notices := rfl
@[simp] theorem State.setTimetable_arb (s : State) (r : RoomId) (x : List Entry) : (s.setTimetable r x).arb = s.arb := rfl
@[simp] theorem State.setTimetable_signs (s : State) (r : RoomId) (x : List Entry) : (s.setTimetable r x).signs = s.signs := rfl
@[simp] theorem State.setTimetable_lines (s : State) (r : RoomId) (x : List Entry) : (s.setTimetable r x).lines = s.lines := rfl
@[simp] theorem State.setTimetable_quiet (s : State) (r : RoomId) (x : List Entry) : (s.setTimetable r x).quiet = s.quiet := rfl
@[simp] theorem State.setTimetable_ports (s : State) (r : RoomId) (x : List Entry) : (s.setTimetable r x).ports = s.ports := rfl
@[simp] theorem State.setTimetable_port (s : State) (r : RoomId) (x : List Entry) (q : Port) : (s.setTimetable r x).port q = s.port q := rfl
@[simp] theorem State.setTimetable_eval (s : State) (r : RoomId) (x : List Entry) (r' : RoomId) : (s.setTimetable r x).eval r' = s.eval r' := rfl
@[simp] theorem State.setTimetable_sign (s : State) (r : RoomId) (x : List Entry) (i' : SignId) : (s.setTimetable r x).sign i' = s.sign i' := rfl
@[simp] theorem State.setTimetable_line (s : State) (r : RoomId) (x : List Entry) (l' : LineId) : (s.setTimetable r x).line l' = s.line l' := rfl
@[simp] theorem State.setTimetable_roomSetup (s : State) (r : RoomId) (x : List Entry) (r' : RoomId) : (s.setTimetable r x).roomSetup r' = s.roomSetup r' := rfl
@[simp] theorem State.setTimetable_mapping (s : State) (r : RoomId) (x : List Entry) (i' : SignId) : (s.setTimetable r x).mapping i' = s.mapping i' := rfl
@[simp] theorem State.setTimetable_lineSetup (s : State) (r : RoomId) (x : List Entry) (l' : LineId) : (s.setTimetable r x).lineSetup l' = s.lineSetup l' := rfl
@[simp] theorem State.setTimetable_portSetup (s : State) (r : RoomId) (x : List Entry) (q : Port) : (s.setTimetable r x).portSetup q = s.portSetup q := rfl

/-! ### State.setEval -/

@[simp] theorem State.setEval_pending (s : State) (r : RoomId) (x : EvalRecord) : (s.setEval r x).pending = s.pending := rfl
@[simp] theorem State.setEval_run (s : State) (r : RoomId) (x : EvalRecord) : (s.setEval r x).run = s.run := rfl
@[simp] theorem State.setEval_resetPin (s : State) (r : RoomId) (x : EvalRecord) : (s.setEval r x).resetPin = s.resetPin := rfl
@[simp] theorem State.setEval_baud (s : State) (r : RoomId) (x : EvalRecord) : (s.setEval r x).baud = s.baud := rfl
@[simp] theorem State.setEval_setup (s : State) (r : RoomId) (x : EvalRecord) : (s.setEval r x).setup = s.setup := rfl
@[simp] theorem State.setEval_stored (s : State) (r : RoomId) (x : EvalRecord) : (s.setEval r x).stored = s.stored := rfl
@[simp] theorem State.setEval_store (s : State) (r : RoomId) (x : EvalRecord) : (s.setEval r x).store = s.store := rfl
@[simp] theorem State.setEval_startCause (s : State) (r : RoomId) (x : EvalRecord) : (s.setEval r x).startCause = s.startCause := rfl
@[simp] theorem State.setEval_address (s : State) (r : RoomId) (x : EvalRecord) : (s.setEval r x).address = s.address := rfl
@[simp] theorem State.setEval_programmed (s : State) (r : RoomId) (x : EvalRecord) : (s.setEval r x).programmed = s.programmed := rfl
@[simp] theorem State.setEval_clock (s : State) (r : RoomId) (x : EvalRecord) : (s.setEval r x).clock = s.clock := rfl
@[simp] theorem State.setEval_timetables (s : State) (r : RoomId) (x : EvalRecord) : (s.setEval r x).timetables = s.timetables := rfl
@[simp] theorem State.setEval_pressure (s : State) (r : RoomId) (x : EvalRecord) : (s.setEval r x).pressure = s.pressure := rfl
@[simp] theorem State.setEval_notices (s : State) (r : RoomId) (x : EvalRecord) : (s.setEval r x).notices = s.notices := rfl
@[simp] theorem State.setEval_arb (s : State) (r : RoomId) (x : EvalRecord) : (s.setEval r x).arb = s.arb := rfl
@[simp] theorem State.setEval_signs (s : State) (r : RoomId) (x : EvalRecord) : (s.setEval r x).signs = s.signs := rfl
@[simp] theorem State.setEval_lines (s : State) (r : RoomId) (x : EvalRecord) : (s.setEval r x).lines = s.lines := rfl
@[simp] theorem State.setEval_quiet (s : State) (r : RoomId) (x : EvalRecord) : (s.setEval r x).quiet = s.quiet := rfl
@[simp] theorem State.setEval_ports (s : State) (r : RoomId) (x : EvalRecord) : (s.setEval r x).ports = s.ports := rfl
@[simp] theorem State.setEval_port (s : State) (r : RoomId) (x : EvalRecord) (q : Port) : (s.setEval r x).port q = s.port q := rfl
@[simp] theorem State.setEval_timetable (s : State) (r : RoomId) (x : EvalRecord) (r' : RoomId) : (s.setEval r x).timetable r' = s.timetable r' := rfl
@[simp] theorem State.setEval_sign (s : State) (r : RoomId) (x : EvalRecord) (i' : SignId) : (s.setEval r x).sign i' = s.sign i' := rfl
@[simp] theorem State.setEval_line (s : State) (r : RoomId) (x : EvalRecord) (l' : LineId) : (s.setEval r x).line l' = s.line l' := rfl
@[simp] theorem State.setEval_roomSetup (s : State) (r : RoomId) (x : EvalRecord) (r' : RoomId) : (s.setEval r x).roomSetup r' = s.roomSetup r' := rfl
@[simp] theorem State.setEval_mapping (s : State) (r : RoomId) (x : EvalRecord) (i' : SignId) : (s.setEval r x).mapping i' = s.mapping i' := rfl
@[simp] theorem State.setEval_lineSetup (s : State) (r : RoomId) (x : EvalRecord) (l' : LineId) : (s.setEval r x).lineSetup l' = s.lineSetup l' := rfl
@[simp] theorem State.setEval_portSetup (s : State) (r : RoomId) (x : EvalRecord) (q : Port) : (s.setEval r x).portSetup q = s.portSetup q := rfl

/-! ### State.setSign -/

@[simp] theorem State.setSign_pending (s : State) (i : SignId) (x : SignRecord) : (s.setSign i x).pending = s.pending := rfl
@[simp] theorem State.setSign_run (s : State) (i : SignId) (x : SignRecord) : (s.setSign i x).run = s.run := rfl
@[simp] theorem State.setSign_resetPin (s : State) (i : SignId) (x : SignRecord) : (s.setSign i x).resetPin = s.resetPin := rfl
@[simp] theorem State.setSign_baud (s : State) (i : SignId) (x : SignRecord) : (s.setSign i x).baud = s.baud := rfl
@[simp] theorem State.setSign_setup (s : State) (i : SignId) (x : SignRecord) : (s.setSign i x).setup = s.setup := rfl
@[simp] theorem State.setSign_stored (s : State) (i : SignId) (x : SignRecord) : (s.setSign i x).stored = s.stored := rfl
@[simp] theorem State.setSign_store (s : State) (i : SignId) (x : SignRecord) : (s.setSign i x).store = s.store := rfl
@[simp] theorem State.setSign_startCause (s : State) (i : SignId) (x : SignRecord) : (s.setSign i x).startCause = s.startCause := rfl
@[simp] theorem State.setSign_address (s : State) (i : SignId) (x : SignRecord) : (s.setSign i x).address = s.address := rfl
@[simp] theorem State.setSign_programmed (s : State) (i : SignId) (x : SignRecord) : (s.setSign i x).programmed = s.programmed := rfl
@[simp] theorem State.setSign_clock (s : State) (i : SignId) (x : SignRecord) : (s.setSign i x).clock = s.clock := rfl
@[simp] theorem State.setSign_timetables (s : State) (i : SignId) (x : SignRecord) : (s.setSign i x).timetables = s.timetables := rfl
@[simp] theorem State.setSign_evals (s : State) (i : SignId) (x : SignRecord) : (s.setSign i x).evals = s.evals := rfl
@[simp] theorem State.setSign_pressure (s : State) (i : SignId) (x : SignRecord) : (s.setSign i x).pressure = s.pressure := rfl
@[simp] theorem State.setSign_notices (s : State) (i : SignId) (x : SignRecord) : (s.setSign i x).notices = s.notices := rfl
@[simp] theorem State.setSign_arb (s : State) (i : SignId) (x : SignRecord) : (s.setSign i x).arb = s.arb := rfl
@[simp] theorem State.setSign_lines (s : State) (i : SignId) (x : SignRecord) : (s.setSign i x).lines = s.lines := rfl
@[simp] theorem State.setSign_quiet (s : State) (i : SignId) (x : SignRecord) : (s.setSign i x).quiet = s.quiet := rfl
@[simp] theorem State.setSign_ports (s : State) (i : SignId) (x : SignRecord) : (s.setSign i x).ports = s.ports := rfl
@[simp] theorem State.setSign_port (s : State) (i : SignId) (x : SignRecord) (q : Port) : (s.setSign i x).port q = s.port q := rfl
@[simp] theorem State.setSign_timetable (s : State) (i : SignId) (x : SignRecord) (r' : RoomId) : (s.setSign i x).timetable r' = s.timetable r' := rfl
@[simp] theorem State.setSign_eval (s : State) (i : SignId) (x : SignRecord) (r' : RoomId) : (s.setSign i x).eval r' = s.eval r' := rfl
@[simp] theorem State.setSign_line (s : State) (i : SignId) (x : SignRecord) (l' : LineId) : (s.setSign i x).line l' = s.line l' := rfl
@[simp] theorem State.setSign_roomSetup (s : State) (i : SignId) (x : SignRecord) (r' : RoomId) : (s.setSign i x).roomSetup r' = s.roomSetup r' := rfl
@[simp] theorem State.setSign_mapping (s : State) (i : SignId) (x : SignRecord) (i' : SignId) : (s.setSign i x).mapping i' = s.mapping i' := rfl
@[simp] theorem State.setSign_lineSetup (s : State) (i : SignId) (x : SignRecord) (l' : LineId) : (s.setSign i x).lineSetup l' = s.lineSetup l' := rfl
@[simp] theorem State.setSign_portSetup (s : State) (i : SignId) (x : SignRecord) (q : Port) : (s.setSign i x).portSetup q = s.portSetup q := rfl

/-! ### State.updSign -/

@[simp] theorem State.updSign_pending (s : State) (i : SignId) (f : SignRecord → SignRecord) : (s.updSign i f).pending = s.pending := rfl
@[simp] theorem State.updSign_run (s : State) (i : SignId) (f : SignRecord → SignRecord) : (s.updSign i f).run = s.run := rfl
@[simp] theorem State.updSign_resetPin (s : State) (i : SignId) (f : SignRecord → SignRecord) : (s.updSign i f).resetPin = s.resetPin := rfl
@[simp] theorem State.updSign_baud (s : State) (i : SignId) (f : SignRecord → SignRecord) : (s.updSign i f).baud = s.baud := rfl
@[simp] theorem State.updSign_setup (s : State) (i : SignId) (f : SignRecord → SignRecord) : (s.updSign i f).setup = s.setup := rfl
@[simp] theorem State.updSign_stored (s : State) (i : SignId) (f : SignRecord → SignRecord) : (s.updSign i f).stored = s.stored := rfl
@[simp] theorem State.updSign_store (s : State) (i : SignId) (f : SignRecord → SignRecord) : (s.updSign i f).store = s.store := rfl
@[simp] theorem State.updSign_startCause (s : State) (i : SignId) (f : SignRecord → SignRecord) : (s.updSign i f).startCause = s.startCause := rfl
@[simp] theorem State.updSign_address (s : State) (i : SignId) (f : SignRecord → SignRecord) : (s.updSign i f).address = s.address := rfl
@[simp] theorem State.updSign_programmed (s : State) (i : SignId) (f : SignRecord → SignRecord) : (s.updSign i f).programmed = s.programmed := rfl
@[simp] theorem State.updSign_clock (s : State) (i : SignId) (f : SignRecord → SignRecord) : (s.updSign i f).clock = s.clock := rfl
@[simp] theorem State.updSign_timetables (s : State) (i : SignId) (f : SignRecord → SignRecord) : (s.updSign i f).timetables = s.timetables := rfl
@[simp] theorem State.updSign_evals (s : State) (i : SignId) (f : SignRecord → SignRecord) : (s.updSign i f).evals = s.evals := rfl
@[simp] theorem State.updSign_pressure (s : State) (i : SignId) (f : SignRecord → SignRecord) : (s.updSign i f).pressure = s.pressure := rfl
@[simp] theorem State.updSign_notices (s : State) (i : SignId) (f : SignRecord → SignRecord) : (s.updSign i f).notices = s.notices := rfl
@[simp] theorem State.updSign_arb (s : State) (i : SignId) (f : SignRecord → SignRecord) : (s.updSign i f).arb = s.arb := rfl
@[simp] theorem State.updSign_lines (s : State) (i : SignId) (f : SignRecord → SignRecord) : (s.updSign i f).lines = s.lines := rfl
@[simp] theorem State.updSign_quiet (s : State) (i : SignId) (f : SignRecord → SignRecord) : (s.updSign i f).quiet = s.quiet := rfl
@[simp] theorem State.updSign_ports (s : State) (i : SignId) (f : SignRecord → SignRecord) : (s.updSign i f).ports = s.ports := rfl
@[simp] theorem State.updSign_port (s : State) (i : SignId) (f : SignRecord → SignRecord) (q : Port) : (s.updSign i f).port q = s.port q := rfl
@[simp] theorem State.updSign_timetable (s : State) (i : SignId) (f : SignRecord → SignRecord) (r' : RoomId) : (s.updSign i f).timetable r' = s.timetable r' := rfl
@[simp] theorem State.updSign_eval (s : State) (i : SignId) (f : SignRecord → SignRecord) (r' : RoomId) : (s.updSign i f).eval r' = s.eval r' := rfl
@[simp] theorem State.updSign_line (s : State) (i : SignId) (f : SignRecord → SignRecord) (l' : LineId) : (s.updSign i f).line l' = s.line l' := rfl
@[simp] theorem State.updSign_roomSetup (s : State) (i : SignId) (f : SignRecord → SignRecord) (r' : RoomId) : (s.updSign i f).roomSetup r' = s.roomSetup r' := rfl
@[simp] theorem State.updSign_mapping (s : State) (i : SignId) (f : SignRecord → SignRecord) (i' : SignId) : (s.updSign i f).mapping i' = s.mapping i' := rfl
@[simp] theorem State.updSign_lineSetup (s : State) (i : SignId) (f : SignRecord → SignRecord) (l' : LineId) : (s.updSign i f).lineSetup l' = s.lineSetup l' := rfl
@[simp] theorem State.updSign_portSetup (s : State) (i : SignId) (f : SignRecord → SignRecord) (q : Port) : (s.updSign i f).portSetup q = s.portSetup q := rfl

/-! ### State.setLine -/

@[simp] theorem State.setLine_pending (s : State) (l : LineId) (x : LineRecord) : (s.setLine l x).pending = s.pending := rfl
@[simp] theorem State.setLine_run (s : State) (l : LineId) (x : LineRecord) : (s.setLine l x).run = s.run := rfl
@[simp] theorem State.setLine_resetPin (s : State) (l : LineId) (x : LineRecord) : (s.setLine l x).resetPin = s.resetPin := rfl
@[simp] theorem State.setLine_baud (s : State) (l : LineId) (x : LineRecord) : (s.setLine l x).baud = s.baud := rfl
@[simp] theorem State.setLine_setup (s : State) (l : LineId) (x : LineRecord) : (s.setLine l x).setup = s.setup := rfl
@[simp] theorem State.setLine_stored (s : State) (l : LineId) (x : LineRecord) : (s.setLine l x).stored = s.stored := rfl
@[simp] theorem State.setLine_store (s : State) (l : LineId) (x : LineRecord) : (s.setLine l x).store = s.store := rfl
@[simp] theorem State.setLine_startCause (s : State) (l : LineId) (x : LineRecord) : (s.setLine l x).startCause = s.startCause := rfl
@[simp] theorem State.setLine_address (s : State) (l : LineId) (x : LineRecord) : (s.setLine l x).address = s.address := rfl
@[simp] theorem State.setLine_programmed (s : State) (l : LineId) (x : LineRecord) : (s.setLine l x).programmed = s.programmed := rfl
@[simp] theorem State.setLine_clock (s : State) (l : LineId) (x : LineRecord) : (s.setLine l x).clock = s.clock := rfl
@[simp] theorem State.setLine_timetables (s : State) (l : LineId) (x : LineRecord) : (s.setLine l x).timetables = s.timetables := rfl
@[simp] theorem State.setLine_evals (s : State) (l : LineId) (x : LineRecord) : (s.setLine l x).evals = s.evals := rfl
@[simp] theorem State.setLine_pressure (s : State) (l : LineId) (x : LineRecord) : (s.setLine l x).pressure = s.pressure := rfl
@[simp] theorem State.setLine_notices (s : State) (l : LineId) (x : LineRecord) : (s.setLine l x).notices = s.notices := rfl
@[simp] theorem State.setLine_arb (s : State) (l : LineId) (x : LineRecord) : (s.setLine l x).arb = s.arb := rfl
@[simp] theorem State.setLine_signs (s : State) (l : LineId) (x : LineRecord) : (s.setLine l x).signs = s.signs := rfl
@[simp] theorem State.setLine_quiet (s : State) (l : LineId) (x : LineRecord) : (s.setLine l x).quiet = s.quiet := rfl
@[simp] theorem State.setLine_ports (s : State) (l : LineId) (x : LineRecord) : (s.setLine l x).ports = s.ports := rfl
@[simp] theorem State.setLine_port (s : State) (l : LineId) (x : LineRecord) (q : Port) : (s.setLine l x).port q = s.port q := rfl
@[simp] theorem State.setLine_timetable (s : State) (l : LineId) (x : LineRecord) (r' : RoomId) : (s.setLine l x).timetable r' = s.timetable r' := rfl
@[simp] theorem State.setLine_eval (s : State) (l : LineId) (x : LineRecord) (r' : RoomId) : (s.setLine l x).eval r' = s.eval r' := rfl
@[simp] theorem State.setLine_sign (s : State) (l : LineId) (x : LineRecord) (i' : SignId) : (s.setLine l x).sign i' = s.sign i' := rfl
@[simp] theorem State.setLine_roomSetup (s : State) (l : LineId) (x : LineRecord) (r' : RoomId) : (s.setLine l x).roomSetup r' = s.roomSetup r' := rfl
@[simp] theorem State.setLine_mapping (s : State) (l : LineId) (x : LineRecord) (i' : SignId) : (s.setLine l x).mapping i' = s.mapping i' := rfl
@[simp] theorem State.setLine_lineSetup (s : State) (l : LineId) (x : LineRecord) (l' : LineId) : (s.setLine l x).lineSetup l' = s.lineSetup l' := rfl
@[simp] theorem State.setLine_portSetup (s : State) (l : LineId) (x : LineRecord) (q : Port) : (s.setLine l x).portSetup q = s.portSetup q := rfl

/-! ### State.updLine -/

@[simp] theorem State.updLine_pending (s : State) (l : LineId) (f : LineRecord → LineRecord) : (s.updLine l f).pending = s.pending := rfl
@[simp] theorem State.updLine_run (s : State) (l : LineId) (f : LineRecord → LineRecord) : (s.updLine l f).run = s.run := rfl
@[simp] theorem State.updLine_resetPin (s : State) (l : LineId) (f : LineRecord → LineRecord) : (s.updLine l f).resetPin = s.resetPin := rfl
@[simp] theorem State.updLine_baud (s : State) (l : LineId) (f : LineRecord → LineRecord) : (s.updLine l f).baud = s.baud := rfl
@[simp] theorem State.updLine_setup (s : State) (l : LineId) (f : LineRecord → LineRecord) : (s.updLine l f).setup = s.setup := rfl
@[simp] theorem State.updLine_stored (s : State) (l : LineId) (f : LineRecord → LineRecord) : (s.updLine l f).stored = s.stored := rfl
@[simp] theorem State.updLine_store (s : State) (l : LineId) (f : LineRecord → LineRecord) : (s.updLine l f).store = s.store := rfl
@[simp] theorem State.updLine_startCause (s : State) (l : LineId) (f : LineRecord → LineRecord) : (s.updLine l f).startCause = s.startCause := rfl
@[simp] theorem State.updLine_address (s : State) (l : LineId) (f : LineRecord → LineRecord) : (s.updLine l f).address = s.address := rfl
@[simp] theorem State.updLine_programmed (s : State) (l : LineId) (f : LineRecord → LineRecord) : (s.updLine l f).programmed = s.programmed := rfl
@[simp] theorem State.updLine_clock (s : State) (l : LineId) (f : LineRecord → LineRecord) : (s.updLine l f).clock = s.clock := rfl
@[simp] theorem State.updLine_timetables (s : State) (l : LineId) (f : LineRecord → LineRecord) : (s.updLine l f).timetables = s.timetables := rfl
@[simp] theorem State.updLine_evals (s : State) (l : LineId) (f : LineRecord → LineRecord) : (s.updLine l f).evals = s.evals := rfl
@[simp] theorem State.updLine_pressure (s : State) (l : LineId) (f : LineRecord → LineRecord) : (s.updLine l f).pressure = s.pressure := rfl
@[simp] theorem State.updLine_notices (s : State) (l : LineId) (f : LineRecord → LineRecord) : (s.updLine l f).notices = s.notices := rfl
@[simp] theorem State.updLine_arb (s : State) (l : LineId) (f : LineRecord → LineRecord) : (s.updLine l f).arb = s.arb := rfl
@[simp] theorem State.updLine_signs (s : State) (l : LineId) (f : LineRecord → LineRecord) : (s.updLine l f).signs = s.signs := rfl
@[simp] theorem State.updLine_quiet (s : State) (l : LineId) (f : LineRecord → LineRecord) : (s.updLine l f).quiet = s.quiet := rfl
@[simp] theorem State.updLine_ports (s : State) (l : LineId) (f : LineRecord → LineRecord) : (s.updLine l f).ports = s.ports := rfl
@[simp] theorem State.updLine_port (s : State) (l : LineId) (f : LineRecord → LineRecord) (q : Port) : (s.updLine l f).port q = s.port q := rfl
@[simp] theorem State.updLine_timetable (s : State) (l : LineId) (f : LineRecord → LineRecord) (r' : RoomId) : (s.updLine l f).timetable r' = s.timetable r' := rfl
@[simp] theorem State.updLine_eval (s : State) (l : LineId) (f : LineRecord → LineRecord) (r' : RoomId) : (s.updLine l f).eval r' = s.eval r' := rfl
@[simp] theorem State.updLine_sign (s : State) (l : LineId) (f : LineRecord → LineRecord) (i' : SignId) : (s.updLine l f).sign i' = s.sign i' := rfl
@[simp] theorem State.updLine_roomSetup (s : State) (l : LineId) (f : LineRecord → LineRecord) (r' : RoomId) : (s.updLine l f).roomSetup r' = s.roomSetup r' := rfl
@[simp] theorem State.updLine_mapping (s : State) (l : LineId) (f : LineRecord → LineRecord) (i' : SignId) : (s.updLine l f).mapping i' = s.mapping i' := rfl
@[simp] theorem State.updLine_lineSetup (s : State) (l : LineId) (f : LineRecord → LineRecord) (l' : LineId) : (s.updLine l f).lineSetup l' = s.lineSetup l' := rfl
@[simp] theorem State.updLine_portSetup (s : State) (l : LineId) (f : LineRecord → LineRecord) (q : Port) : (s.updLine l f).portSetup q = s.portSetup q := rfl

/-! ### State.setRoomSetup -/

@[simp] theorem State.setRoomSetup_pending (s : State) (r : RoomId) (x : RoomSetup) : (s.setRoomSetup r x).pending = s.pending := rfl
@[simp] theorem State.setRoomSetup_run (s : State) (r : RoomId) (x : RoomSetup) : (s.setRoomSetup r x).run = s.run := rfl
@[simp] theorem State.setRoomSetup_resetPin (s : State) (r : RoomId) (x : RoomSetup) : (s.setRoomSetup r x).resetPin = s.resetPin := rfl
@[simp] theorem State.setRoomSetup_baud (s : State) (r : RoomId) (x : RoomSetup) : (s.setRoomSetup r x).baud = s.baud := rfl
@[simp] theorem State.setRoomSetup_stored (s : State) (r : RoomId) (x : RoomSetup) : (s.setRoomSetup r x).stored = s.stored := rfl
@[simp] theorem State.setRoomSetup_store (s : State) (r : RoomId) (x : RoomSetup) : (s.setRoomSetup r x).store = s.store := rfl
@[simp] theorem State.setRoomSetup_startCause (s : State) (r : RoomId) (x : RoomSetup) : (s.setRoomSetup r x).startCause = s.startCause := rfl
@[simp] theorem State.setRoomSetup_address (s : State) (r : RoomId) (x : RoomSetup) : (s.setRoomSetup r x).address = s.address := rfl
@[simp] theorem State.setRoomSetup_programmed (s : State) (r : RoomId) (x : RoomSetup) : (s.setRoomSetup r x).programmed = s.programmed := rfl
@[simp] theorem State.setRoomSetup_clock (s : State) (r : RoomId) (x : RoomSetup) : (s.setRoomSetup r x).clock = s.clock := rfl
@[simp] theorem State.setRoomSetup_timetables (s : State) (r : RoomId) (x : RoomSetup) : (s.setRoomSetup r x).timetables = s.timetables := rfl
@[simp] theorem State.setRoomSetup_evals (s : State) (r : RoomId) (x : RoomSetup) : (s.setRoomSetup r x).evals = s.evals := rfl
@[simp] theorem State.setRoomSetup_pressure (s : State) (r : RoomId) (x : RoomSetup) : (s.setRoomSetup r x).pressure = s.pressure := rfl
@[simp] theorem State.setRoomSetup_notices (s : State) (r : RoomId) (x : RoomSetup) : (s.setRoomSetup r x).notices = s.notices := rfl
@[simp] theorem State.setRoomSetup_arb (s : State) (r : RoomId) (x : RoomSetup) : (s.setRoomSetup r x).arb = s.arb := rfl
@[simp] theorem State.setRoomSetup_signs (s : State) (r : RoomId) (x : RoomSetup) : (s.setRoomSetup r x).signs = s.signs := rfl
@[simp] theorem State.setRoomSetup_lines (s : State) (r : RoomId) (x : RoomSetup) : (s.setRoomSetup r x).lines = s.lines := rfl
@[simp] theorem State.setRoomSetup_quiet (s : State) (r : RoomId) (x : RoomSetup) : (s.setRoomSetup r x).quiet = s.quiet := rfl
@[simp] theorem State.setRoomSetup_ports (s : State) (r : RoomId) (x : RoomSetup) : (s.setRoomSetup r x).ports = s.ports := rfl
@[simp] theorem State.setRoomSetup_setup_signMap (s : State) (r : RoomId) (x : RoomSetup) : (s.setRoomSetup r x).setup.signMap = s.setup.signMap := rfl
@[simp] theorem State.setRoomSetup_setup_lines (s : State) (r : RoomId) (x : RoomSetup) : (s.setRoomSetup r x).setup.lines = s.setup.lines := rfl
@[simp] theorem State.setRoomSetup_setup_grouping (s : State) (r : RoomId) (x : RoomSetup) : (s.setRoomSetup r x).setup.grouping = s.setup.grouping := rfl
@[simp] theorem State.setRoomSetup_setup_fault (s : State) (r : RoomId) (x : RoomSetup) : (s.setRoomSetup r x).setup.fault = s.setup.fault := rfl
@[simp] theorem State.setRoomSetup_setup_ports (s : State) (r : RoomId) (x : RoomSetup) : (s.setRoomSetup r x).setup.ports = s.setup.ports := rfl
@[simp] theorem State.setRoomSetup_setup_arbiter (s : State) (r : RoomId) (x : RoomSetup) : (s.setRoomSetup r x).setup.arbiter = s.setup.arbiter := rfl
@[simp] theorem State.setRoomSetup_setup_quiet (s : State) (r : RoomId) (x : RoomSetup) : (s.setRoomSetup r x).setup.quiet = s.setup.quiet := rfl
@[simp] theorem State.setRoomSetup_port (s : State) (r : RoomId) (x : RoomSetup) (q : Port) : (s.setRoomSetup r x).port q = s.port q := rfl
@[simp] theorem State.setRoomSetup_timetable (s : State) (r : RoomId) (x : RoomSetup) (r' : RoomId) : (s.setRoomSetup r x).timetable r' = s.timetable r' := rfl
@[simp] theorem State.setRoomSetup_eval (s : State) (r : RoomId) (x : RoomSetup) (r' : RoomId) : (s.setRoomSetup r x).eval r' = s.eval r' := rfl
@[simp] theorem State.setRoomSetup_sign (s : State) (r : RoomId) (x : RoomSetup) (i' : SignId) : (s.setRoomSetup r x).sign i' = s.sign i' := rfl
@[simp] theorem State.setRoomSetup_line (s : State) (r : RoomId) (x : RoomSetup) (l' : LineId) : (s.setRoomSetup r x).line l' = s.line l' := rfl
@[simp] theorem State.setRoomSetup_mapping (s : State) (r : RoomId) (x : RoomSetup) (i' : SignId) : (s.setRoomSetup r x).mapping i' = s.mapping i' := rfl
@[simp] theorem State.setRoomSetup_lineSetup (s : State) (r : RoomId) (x : RoomSetup) (l' : LineId) : (s.setRoomSetup r x).lineSetup l' = s.lineSetup l' := rfl
@[simp] theorem State.setRoomSetup_portSetup (s : State) (r : RoomId) (x : RoomSetup) (q : Port) : (s.setRoomSetup r x).portSetup q = s.portSetup q := rfl

/-! ### State.setMapping -/

@[simp] theorem State.setMapping_pending (s : State) (i : SignId) (x : Option Mapping) : (s.setMapping i x).pending = s.pending := rfl
@[simp] theorem State.setMapping_run (s : State) (i : SignId) (x : Option Mapping) : (s.setMapping i x).run = s.run := rfl
@[simp] theorem State.setMapping_resetPin (s : State) (i : SignId) (x : Option Mapping) : (s.setMapping i x).resetPin = s.resetPin := rfl
@[simp] theorem State.setMapping_baud (s : State) (i : SignId) (x : Option Mapping) : (s.setMapping i x).baud = s.baud := rfl
@[simp] theorem State.setMapping_stored (s : State) (i : SignId) (x : Option Mapping) : (s.setMapping i x).stored = s.stored := rfl
@[simp] theorem State.setMapping_store (s : State) (i : SignId) (x : Option Mapping) : (s.setMapping i x).store = s.store := rfl
@[simp] theorem State.setMapping_startCause (s : State) (i : SignId) (x : Option Mapping) : (s.setMapping i x).startCause = s.startCause := rfl
@[simp] theorem State.setMapping_address (s : State) (i : SignId) (x : Option Mapping) : (s.setMapping i x).address = s.address := rfl
@[simp] theorem State.setMapping_programmed (s : State) (i : SignId) (x : Option Mapping) : (s.setMapping i x).programmed = s.programmed := rfl
@[simp] theorem State.setMapping_clock (s : State) (i : SignId) (x : Option Mapping) : (s.setMapping i x).clock = s.clock := rfl
@[simp] theorem State.setMapping_timetables (s : State) (i : SignId) (x : Option Mapping) : (s.setMapping i x).timetables = s.timetables := rfl
@[simp] theorem State.setMapping_evals (s : State) (i : SignId) (x : Option Mapping) : (s.setMapping i x).evals = s.evals := rfl
@[simp] theorem State.setMapping_pressure (s : State) (i : SignId) (x : Option Mapping) : (s.setMapping i x).pressure = s.pressure := rfl
@[simp] theorem State.setMapping_notices (s : State) (i : SignId) (x : Option Mapping) : (s.setMapping i x).notices = s.notices := rfl
@[simp] theorem State.setMapping_arb (s : State) (i : SignId) (x : Option Mapping) : (s.setMapping i x).arb = s.arb := rfl
@[simp] theorem State.setMapping_signs (s : State) (i : SignId) (x : Option Mapping) : (s.setMapping i x).signs = s.signs := rfl
@[simp] theorem State.setMapping_lines (s : State) (i : SignId) (x : Option Mapping) : (s.setMapping i x).lines = s.lines := rfl
@[simp] theorem State.setMapping_quiet (s : State) (i : SignId) (x : Option Mapping) : (s.setMapping i x).quiet = s.quiet := rfl
@[simp] theorem State.setMapping_ports (s : State) (i : SignId) (x : Option Mapping) : (s.setMapping i x).ports = s.ports := rfl
@[simp] theorem State.setMapping_setup_rooms (s : State) (i : SignId) (x : Option Mapping) : (s.setMapping i x).setup.rooms = s.setup.rooms := rfl
@[simp] theorem State.setMapping_setup_lines (s : State) (i : SignId) (x : Option Mapping) : (s.setMapping i x).setup.lines = s.setup.lines := rfl
@[simp] theorem State.setMapping_setup_grouping (s : State) (i : SignId) (x : Option Mapping) : (s.setMapping i x).setup.grouping = s.setup.grouping := rfl
@[simp] theorem State.setMapping_setup_fault (s : State) (i : SignId) (x : Option Mapping) : (s.setMapping i x).setup.fault = s.setup.fault := rfl
@[simp] theorem State.setMapping_setup_ports (s : State) (i : SignId) (x : Option Mapping) : (s.setMapping i x).setup.ports = s.setup.ports := rfl
@[simp] theorem State.setMapping_setup_arbiter (s : State) (i : SignId) (x : Option Mapping) : (s.setMapping i x).setup.arbiter = s.setup.arbiter := rfl
@[simp] theorem State.setMapping_setup_quiet (s : State) (i : SignId) (x : Option Mapping) : (s.setMapping i x).setup.quiet = s.setup.quiet := rfl
@[simp] theorem State.setMapping_port (s : State) (i : SignId) (x : Option Mapping) (q : Port) : (s.setMapping i x).port q = s.port q := rfl
@[simp] theorem State.setMapping_timetable (s : State) (i : SignId) (x : Option Mapping) (r' : RoomId) : (s.setMapping i x).timetable r' = s.timetable r' := rfl
@[simp] theorem State.setMapping_eval (s : State) (i : SignId) (x : Option Mapping) (r' : RoomId) : (s.setMapping i x).eval r' = s.eval r' := rfl
@[simp] theorem State.setMapping_sign (s : State) (i : SignId) (x : Option Mapping) (i' : SignId) : (s.setMapping i x).sign i' = s.sign i' := rfl
@[simp] theorem State.setMapping_line (s : State) (i : SignId) (x : Option Mapping) (l' : LineId) : (s.setMapping i x).line l' = s.line l' := rfl
@[simp] theorem State.setMapping_roomSetup (s : State) (i : SignId) (x : Option Mapping) (r' : RoomId) : (s.setMapping i x).roomSetup r' = s.roomSetup r' := rfl
@[simp] theorem State.setMapping_lineSetup (s : State) (i : SignId) (x : Option Mapping) (l' : LineId) : (s.setMapping i x).lineSetup l' = s.lineSetup l' := rfl
@[simp] theorem State.setMapping_portSetup (s : State) (i : SignId) (x : Option Mapping) (q : Port) : (s.setMapping i x).portSetup q = s.portSetup q := rfl

/-! ### State.setLineSetup -/

@[simp] theorem State.setLineSetup_pending (s : State) (l : LineId) (x : LineSetup) : (s.setLineSetup l x).pending = s.pending := rfl
@[simp] theorem State.setLineSetup_run (s : State) (l : LineId) (x : LineSetup) : (s.setLineSetup l x).run = s.run := rfl
@[simp] theorem State.setLineSetup_resetPin (s : State) (l : LineId) (x : LineSetup) : (s.setLineSetup l x).resetPin = s.resetPin := rfl
@[simp] theorem State.setLineSetup_baud (s : State) (l : LineId) (x : LineSetup) : (s.setLineSetup l x).baud = s.baud := rfl
@[simp] theorem State.setLineSetup_stored (s : State) (l : LineId) (x : LineSetup) : (s.setLineSetup l x).stored = s.stored := rfl
@[simp] theorem State.setLineSetup_store (s : State) (l : LineId) (x : LineSetup) : (s.setLineSetup l x).store = s.store := rfl
@[simp] theorem State.setLineSetup_startCause (s : State) (l : LineId) (x : LineSetup) : (s.setLineSetup l x).startCause = s.startCause := rfl
@[simp] theorem State.setLineSetup_address (s : State) (l : LineId) (x : LineSetup) : (s.setLineSetup l x).address = s.address := rfl
@[simp] theorem State.setLineSetup_programmed (s : State) (l : LineId) (x : LineSetup) : (s.setLineSetup l x).programmed = s.programmed := rfl
@[simp] theorem State.setLineSetup_clock (s : State) (l : LineId) (x : LineSetup) : (s.setLineSetup l x).clock = s.clock := rfl
@[simp] theorem State.setLineSetup_timetables (s : State) (l : LineId) (x : LineSetup) : (s.setLineSetup l x).timetables = s.timetables := rfl
@[simp] theorem State.setLineSetup_evals (s : State) (l : LineId) (x : LineSetup) : (s.setLineSetup l x).evals = s.evals := rfl
@[simp] theorem State.setLineSetup_pressure (s : State) (l : LineId) (x : LineSetup) : (s.setLineSetup l x).pressure = s.pressure := rfl
@[simp] theorem State.setLineSetup_notices (s : State) (l : LineId) (x : LineSetup) : (s.setLineSetup l x).notices = s.notices := rfl
@[simp] theorem State.setLineSetup_arb (s : State) (l : LineId) (x : LineSetup) : (s.setLineSetup l x).arb = s.arb := rfl
@[simp] theorem State.setLineSetup_signs (s : State) (l : LineId) (x : LineSetup) : (s.setLineSetup l x).signs = s.signs := rfl
@[simp] theorem State.setLineSetup_lines (s : State) (l : LineId) (x : LineSetup) : (s.setLineSetup l x).lines = s.lines := rfl
@[simp] theorem State.setLineSetup_quiet (s : State) (l : LineId) (x : LineSetup) : (s.setLineSetup l x).quiet = s.quiet := rfl
@[simp] theorem State.setLineSetup_ports (s : State) (l : LineId) (x : LineSetup) : (s.setLineSetup l x).ports = s.ports := rfl
@[simp] theorem State.setLineSetup_setup_rooms (s : State) (l : LineId) (x : LineSetup) : (s.setLineSetup l x).setup.rooms = s.setup.rooms := rfl
@[simp] theorem State.setLineSetup_setup_signMap (s : State) (l : LineId) (x : LineSetup) : (s.setLineSetup l x).setup.signMap = s.setup.signMap := rfl
@[simp] theorem State.setLineSetup_setup_grouping (s : State) (l : LineId) (x : LineSetup) : (s.setLineSetup l x).setup.grouping = s.setup.grouping := rfl
@[simp] theorem State.setLineSetup_setup_fault (s : State) (l : LineId) (x : LineSetup) : (s.setLineSetup l x).setup.fault = s.setup.fault := rfl
@[simp] theorem State.setLineSetup_setup_ports (s : State) (l : LineId) (x : LineSetup) : (s.setLineSetup l x).setup.ports = s.setup.ports := rfl
@[simp] theorem State.setLineSetup_setup_arbiter (s : State) (l : LineId) (x : LineSetup) : (s.setLineSetup l x).setup.arbiter = s.setup.arbiter := rfl
@[simp] theorem State.setLineSetup_setup_quiet (s : State) (l : LineId) (x : LineSetup) : (s.setLineSetup l x).setup.quiet = s.setup.quiet := rfl
@[simp] theorem State.setLineSetup_port (s : State) (l : LineId) (x : LineSetup) (q : Port) : (s.setLineSetup l x).port q = s.port q := rfl
@[simp] theorem State.setLineSetup_timetable (s : State) (l : LineId) (x : LineSetup) (r' : RoomId) : (s.setLineSetup l x).timetable r' = s.timetable r' := rfl
@[simp] theorem State.setLineSetup_eval (s : State) (l : LineId) (x : LineSetup) (r' : RoomId) : (s.setLineSetup l x).eval r' = s.eval r' := rfl
@[simp] theorem State.setLineSetup_sign (s : State) (l : LineId) (x : LineSetup) (i' : SignId) : (s.setLineSetup l x).sign i' = s.sign i' := rfl
@[simp] theorem State.setLineSetup_line (s : State) (l : LineId) (x : LineSetup) (l' : LineId) : (s.setLineSetup l x).line l' = s.line l' := rfl
@[simp] theorem State.setLineSetup_roomSetup (s : State) (l : LineId) (x : LineSetup) (r' : RoomId) : (s.setLineSetup l x).roomSetup r' = s.roomSetup r' := rfl
@[simp] theorem State.setLineSetup_mapping (s : State) (l : LineId) (x : LineSetup) (i' : SignId) : (s.setLineSetup l x).mapping i' = s.mapping i' := rfl
@[simp] theorem State.setLineSetup_portSetup (s : State) (l : LineId) (x : LineSetup) (q : Port) : (s.setLineSetup l x).portSetup q = s.portSetup q := rfl

/-! ### State.setPortSetup -/

@[simp] theorem State.setPortSetup_pending (s : State) (p : Port) (x : PortSetup) : (s.setPortSetup p x).pending = s.pending := rfl
@[simp] theorem State.setPortSetup_run (s : State) (p : Port) (x : PortSetup) : (s.setPortSetup p x).run = s.run := rfl
@[simp] theorem State.setPortSetup_resetPin (s : State) (p : Port) (x : PortSetup) : (s.setPortSetup p x).resetPin = s.resetPin := rfl
@[simp] theorem State.setPortSetup_baud (s : State) (p : Port) (x : PortSetup) : (s.setPortSetup p x).baud = s.baud := rfl
@[simp] theorem State.setPortSetup_stored (s : State) (p : Port) (x : PortSetup) : (s.setPortSetup p x).stored = s.stored := rfl
@[simp] theorem State.setPortSetup_store (s : State) (p : Port) (x : PortSetup) : (s.setPortSetup p x).store = s.store := rfl
@[simp] theorem State.setPortSetup_startCause (s : State) (p : Port) (x : PortSetup) : (s.setPortSetup p x).startCause = s.startCause := rfl
@[simp] theorem State.setPortSetup_address (s : State) (p : Port) (x : PortSetup) : (s.setPortSetup p x).address = s.address := rfl
@[simp] theorem State.setPortSetup_programmed (s : State) (p : Port) (x : PortSetup) : (s.setPortSetup p x).programmed = s.programmed := rfl
@[simp] theorem State.setPortSetup_clock (s : State) (p : Port) (x : PortSetup) : (s.setPortSetup p x).clock = s.clock := rfl
@[simp] theorem State.setPortSetup_timetables (s : State) (p : Port) (x : PortSetup) : (s.setPortSetup p x).timetables = s.timetables := rfl
@[simp] theorem State.setPortSetup_evals (s : State) (p : Port) (x : PortSetup) : (s.setPortSetup p x).evals = s.evals := rfl
@[simp] theorem State.setPortSetup_pressure (s : State) (p : Port) (x : PortSetup) : (s.setPortSetup p x).pressure = s.pressure := rfl
@[simp] theorem State.setPortSetup_notices (s : State) (p : Port) (x : PortSetup) : (s.setPortSetup p x).notices = s.notices := rfl
@[simp] theorem State.setPortSetup_arb (s : State) (p : Port) (x : PortSetup) : (s.setPortSetup p x).arb = s.arb := rfl
@[simp] theorem State.setPortSetup_signs (s : State) (p : Port) (x : PortSetup) : (s.setPortSetup p x).signs = s.signs := rfl
@[simp] theorem State.setPortSetup_lines (s : State) (p : Port) (x : PortSetup) : (s.setPortSetup p x).lines = s.lines := rfl
@[simp] theorem State.setPortSetup_quiet (s : State) (p : Port) (x : PortSetup) : (s.setPortSetup p x).quiet = s.quiet := rfl
@[simp] theorem State.setPortSetup_ports (s : State) (p : Port) (x : PortSetup) : (s.setPortSetup p x).ports = s.ports := rfl
@[simp] theorem State.setPortSetup_setup_rooms (s : State) (p : Port) (x : PortSetup) : (s.setPortSetup p x).setup.rooms = s.setup.rooms := rfl
@[simp] theorem State.setPortSetup_setup_signMap (s : State) (p : Port) (x : PortSetup) : (s.setPortSetup p x).setup.signMap = s.setup.signMap := rfl
@[simp] theorem State.setPortSetup_setup_lines (s : State) (p : Port) (x : PortSetup) : (s.setPortSetup p x).setup.lines = s.setup.lines := rfl
@[simp] theorem State.setPortSetup_setup_grouping (s : State) (p : Port) (x : PortSetup) : (s.setPortSetup p x).setup.grouping = s.setup.grouping := rfl
@[simp] theorem State.setPortSetup_setup_fault (s : State) (p : Port) (x : PortSetup) : (s.setPortSetup p x).setup.fault = s.setup.fault := rfl
@[simp] theorem State.setPortSetup_setup_arbiter (s : State) (p : Port) (x : PortSetup) : (s.setPortSetup p x).setup.arbiter = s.setup.arbiter := rfl
@[simp] theorem State.setPortSetup_setup_quiet (s : State) (p : Port) (x : PortSetup) : (s.setPortSetup p x).setup.quiet = s.setup.quiet := rfl
@[simp] theorem State.setPortSetup_port (s : State) (p : Port) (x : PortSetup) (q : Port) : (s.setPortSetup p x).port q = s.port q := rfl
@[simp] theorem State.setPortSetup_timetable (s : State) (p : Port) (x : PortSetup) (r' : RoomId) : (s.setPortSetup p x).timetable r' = s.timetable r' := rfl
@[simp] theorem State.setPortSetup_eval (s : State) (p : Port) (x : PortSetup) (r' : RoomId) : (s.setPortSetup p x).eval r' = s.eval r' := rfl
@[simp] theorem State.setPortSetup_sign (s : State) (p : Port) (x : PortSetup) (i' : SignId) : (s.setPortSetup p x).sign i' = s.sign i' := rfl
@[simp] theorem State.setPortSetup_line (s : State) (p : Port) (x : PortSetup) (l' : LineId) : (s.setPortSetup p x).line l' = s.line l' := rfl
@[simp] theorem State.setPortSetup_roomSetup (s : State) (p : Port) (x : PortSetup) (r' : RoomId) : (s.setPortSetup p x).roomSetup r' = s.roomSetup r' := rfl
@[simp] theorem State.setPortSetup_mapping (s : State) (p : Port) (x : PortSetup) (i' : SignId) : (s.setPortSetup p x).mapping i' = s.mapping i' := rfl
@[simp] theorem State.setPortSetup_lineSetup (s : State) (p : Port) (x : PortSetup) (l' : LineId) : (s.setPortSetup p x).lineSetup l' = s.lineSetup l' := rfl

/-! ### Reading back what an update wrote -/

theorem portIndex_injective {p q : Port} (h : portIndex p = portIndex q) : p = q := by cases p <;> cases q <;> simp_all [portIndex]

@[simp] theorem State.port_setPort_self (s : State) (p : Port) (x : PortRecord) : (s.setPort p x).port p = x := by
  simp [State.port, State.setPort]

theorem State.port_setPort_of_ne (s : State) {p q : Port} (h : q ≠ p) (x : PortRecord) :
    (s.setPort p x).port q = s.port q := by
  have h2 : portIndex p ≠ portIndex q := fun e => h (portIndex_injective e).symm
  simp [State.port, State.setPort, Fin.val_ne_of_ne h2]

theorem State.port_setPort (s : State) (p q : Port) (x : PortRecord) :
    (s.setPort p x).port q = if q = p then x else s.port q := by
  split
  · next h => subst h; simp
  · next h => exact s.port_setPort_of_ne h x

@[simp] theorem State.port_updPort_self (s : State) (p : Port) (f : PortRecord → PortRecord) :
    (s.updPort p f).port p = f (s.port p) := by simp [State.updPort]

theorem State.port_updPort (s : State) (p q : Port) (f : PortRecord → PortRecord) :
    (s.updPort p f).port q = if q = p then f (s.port q) else s.port q := by
  rw [State.updPort, State.port_setPort]
  split
  · next h => subst h; rfl
  · rfl

theorem State.port_updPort_of_ne (s : State) {p q : Port} (h : q ≠ p) (f : PortRecord → PortRecord) :
    (s.updPort p f).port q = s.port q := by simp [State.port_updPort, h]

@[simp] theorem State.timetable_setTimetable_self (s : State) (r : RoomId) (x : List Entry) : (s.setTimetable r x).timetable r = x := by
  simp [State.timetable, State.setTimetable]

theorem State.timetable_setTimetable_of_ne (s : State) {r k : RoomId} (h : k ≠ r) (x : List Entry) :
    (s.setTimetable r x).timetable k = s.timetable k := by
  simp [State.timetable, State.setTimetable, Fin.val_ne_of_ne h.symm]

theorem State.timetable_setTimetable (s : State) (r k : RoomId) (x : List Entry) :
    (s.setTimetable r x).timetable k = if k = r then x else s.timetable k := by
  split
  · next h => subst h; simp
  · next h => exact s.timetable_setTimetable_of_ne h x

@[simp] theorem State.eval_setEval_self (s : State) (r : RoomId) (x : EvalRecord) : (s.setEval r x).eval r = x := by
  simp [State.eval, State.setEval]

theorem State.eval_setEval_of_ne (s : State) {r k : RoomId} (h : k ≠ r) (x : EvalRecord) :
    (s.setEval r x).eval k = s.eval k := by
  simp [State.eval, State.setEval, Fin.val_ne_of_ne h.symm]

theorem State.eval_setEval (s : State) (r k : RoomId) (x : EvalRecord) :
    (s.setEval r x).eval k = if k = r then x else s.eval k := by
  split
  · next h => subst h; simp
  · next h => exact s.eval_setEval_of_ne h x

@[simp] theorem State.sign_setSign_self (s : State) (i : SignId) (x : SignRecord) : (s.setSign i x).sign i = x := by
  simp [State.sign, State.setSign]

theorem State.sign_setSign_of_ne (s : State) {i k : SignId} (h : k ≠ i) (x : SignRecord) :
    (s.setSign i x).sign k = s.sign k := by
  simp [State.sign, State.setSign, Fin.val_ne_of_ne h.symm]

theorem State.sign_setSign (s : State) (i k : SignId) (x : SignRecord) :
    (s.setSign i x).sign k = if k = i then x else s.sign k := by
  split
  · next h => subst h; simp
  · next h => exact s.sign_setSign_of_ne h x

@[simp] theorem State.sign_updSign_self (s : State) (i : SignId) (f : SignRecord → SignRecord) :
    (s.updSign i f).sign i = f (s.sign i) := by simp [State.updSign]

theorem State.sign_updSign (s : State) (i k : SignId) (f : SignRecord → SignRecord) :
    (s.updSign i f).sign k = if k = i then f (s.sign k) else s.sign k := by
  rw [State.updSign, State.sign_setSign]
  split
  · next h => subst h; rfl
  · rfl

theorem State.sign_updSign_of_ne (s : State) {i k : SignId} (h : k ≠ i) (f : SignRecord → SignRecord) :
    (s.updSign i f).sign k = s.sign k := by simp [State.sign_updSign, h]

@[simp] theorem State.line_setLine_self (s : State) (l : LineId) (x : LineRecord) : (s.setLine l x).line l = x := by
  simp [State.line, State.setLine]

theorem State.line_setLine_of_ne (s : State) {l k : LineId} (h : k ≠ l) (x : LineRecord) :
    (s.setLine l x).line k = s.line k := by
  simp [State.line, State.setLine, Fin.val_ne_of_ne h.symm]

theorem State.line_setLine (s : State) (l k : LineId) (x : LineRecord) :
    (s.setLine l x).line k = if k = l then x else s.line k := by
  split
  · next h => subst h; simp
  · next h => exact s.line_setLine_of_ne h x

@[simp] theorem State.line_updLine_self (s : State) (l : LineId) (f : LineRecord → LineRecord) :
    (s.updLine l f).line l = f (s.line l) := by simp [State.updLine]

theorem State.line_updLine (s : State) (l k : LineId) (f : LineRecord → LineRecord) :
    (s.updLine l f).line k = if k = l then f (s.line k) else s.line k := by
  rw [State.updLine, State.line_setLine]
  split
  · next h => subst h; rfl
  · rfl

theorem State.line_updLine_of_ne (s : State) {l k : LineId} (h : k ≠ l) (f : LineRecord → LineRecord) :
    (s.updLine l f).line k = s.line k := by simp [State.line_updLine, h]

@[simp] theorem State.roomSetup_setRoomSetup_self (s : State) (r : RoomId) (x : RoomSetup) : (s.setRoomSetup r x).roomSetup r = x := by
  simp [State.roomSetup, State.setRoomSetup]

theorem State.roomSetup_setRoomSetup_of_ne (s : State) {r k : RoomId} (h : k ≠ r) (x : RoomSetup) :
    (s.setRoomSetup r x).roomSetup k = s.roomSetup k := by
  simp [State.roomSetup, State.setRoomSetup, Fin.val_ne_of_ne h.symm]

theorem State.roomSetup_setRoomSetup (s : State) (r k : RoomId) (x : RoomSetup) :
    (s.setRoomSetup r x).roomSetup k = if k = r then x else s.roomSetup k := by
  split
  · next h => subst h; simp
  · next h => exact s.roomSetup_setRoomSetup_of_ne h x

@[simp] theorem State.mapping_setMapping_self (s : State) (i : SignId) (x : Option Mapping) : (s.setMapping i x).mapping i = x := by
  simp [State.mapping, State.setMapping]

theorem State.mapping_setMapping_of_ne (s : State) {i k : SignId} (h : k ≠ i) (x : Option Mapping) :
    (s.setMapping i x).mapping k = s.mapping k := by
  simp [State.mapping, State.setMapping, Fin.val_ne_of_ne h.symm]

theorem State.mapping_setMapping (s : State) (i k : SignId) (x : Option Mapping) :
    (s.setMapping i x).mapping k = if k = i then x else s.mapping k := by
  split
  · next h => subst h; simp
  · next h => exact s.mapping_setMapping_of_ne h x

@[simp] theorem State.lineSetup_setLineSetup_self (s : State) (l : LineId) (x : LineSetup) : (s.setLineSetup l x).lineSetup l = x := by
  simp [State.lineSetup, State.setLineSetup]

theorem State.lineSetup_setLineSetup_of_ne (s : State) {l k : LineId} (h : k ≠ l) (x : LineSetup) :
    (s.setLineSetup l x).lineSetup k = s.lineSetup k := by
  simp [State.lineSetup, State.setLineSetup, Fin.val_ne_of_ne h.symm]

theorem State.lineSetup_setLineSetup (s : State) (l k : LineId) (x : LineSetup) :
    (s.setLineSetup l x).lineSetup k = if k = l then x else s.lineSetup k := by
  split
  · next h => subst h; simp
  · next h => exact s.lineSetup_setLineSetup_of_ne h x

theorem State.portSetup_setPortSetup (s : State) (p q : Port) (x : PortSetup) :
    (s.setPortSetup p x).portSetup q = if q = p then x else s.portSetup q := by
  split
  · next h => subst h; simp [State.portSetup, State.setPortSetup]
  · next h =>
    have h2 : portIndex p ≠ portIndex q := fun e => h (portIndex_injective e).symm
    simp [State.portSetup, State.setPortSetup, Fin.val_ne_of_ne h2]

end Sys2Proof.Machine
end

