-- ==== Sys2Proof/Laws/Frames.lean ====
section
/-! SUPPORT. What the shared operations leave alone. State.desk forgets the delivery side of the hub (evaluation records,
pressure level, signs, lines, quiet state, and the attention part of the ports); an operation of the delivery side keeps
State.desk, so it keeps the clock, the timetables, the notices, the arbiter, the setup, the store, the address, the queue
and the reception of every port. State.offBoard forgets evaluation records, signs, lines and quiet state alone. -/

namespace Sys2Proof.Machine

/-! ### Folds -/

/-- What every step of a fold keeps, the fold keeps. -/
theorem foldl_keeps {α : Type} (P : State → Prop) (f : State → α → State) (h : ∀ s a, P s → P (f s a)) (l : List α) :
    ∀ s, P s → P (l.foldl f s) := by
  induction l with
  | nil => exact fun _ hs => hs
  | cons a l ih => exact fun s hs => ih _ (h s a hs)

/-- A fold leaves what each of its steps leaves. -/
theorem foldl_same {α β : Type} (view : State → β) (f : State → α → State) (h : ∀ s a, view (f s a) = view s)
    (l : List α) (s : State) : view (l.foldl f s) = view s :=
  foldl_keeps (fun t => view t = view s) f (fun t a ht => (h t a).trans ht) l s rfl

/-! ### The two views -/

/-- A port without its attention flags, latch and later-fault counter. -/
def PortRecord.desk (x : PortRecord) : PortRecord := { x with raised := 0, latch := none, later := 0 }

/-- The hub without its delivery side. -/
def State.desk (s : State) : State :=
  { s with
    evals := Vector.replicate 64 .disabled
    pressure := .normal
    signs := Vector.replicate 96 .fresh
    lines := State.reset.lines
    quiet := .disabled
    ports := s.ports.map PortRecord.desk }

/-- The hub without evaluation records, signs, lines and quiet state. -/
def State.offBoard (s : State) : State :=
  { s with
    evals := Vector.replicate 64 .disabled
    signs := Vector.replicate 96 .fresh
    lines := State.reset.lines
    quiet := .disabled }

/-- What keeps State.offBoard keeps State.desk. -/
theorem desk_of_offBoard {s t : State} (h : t.offBoard = s.offBoard) : t.desk = s.desk := (congrArg State.desk h :)

section Views
variable {s t : State}

theorem pending_of_desk (h : t.desk = s.desk) : t.pending = s.pending := (congrArg State.pending h :)
theorem run_of_desk (h : t.desk = s.desk) : t.run = s.run := (congrArg State.run h :)
theorem resetPin_of_desk (h : t.desk = s.desk) : t.resetPin = s.resetPin := (congrArg State.resetPin h :)
theorem baud_of_desk (h : t.desk = s.desk) : t.baud = s.baud := (congrArg State.baud h :)
theorem setup_of_desk (h : t.desk = s.desk) : t.setup = s.setup := (congrArg State.setup h :)
theorem stored_of_desk (h : t.desk = s.desk) : t.stored = s.stored := (congrArg State.stored h :)
theorem store_of_desk (h : t.desk = s.desk) : t.store = s.store := (congrArg State.store h :)
theorem startCause_of_desk (h : t.desk = s.desk) : t.startCause = s.startCause := (congrArg State.startCause h :)
theorem address_of_desk (h : t.desk = s.desk) : t.address = s.address := (congrArg State.address h :)
theorem programmed_of_desk (h : t.desk = s.desk) : t.programmed = s.programmed := (congrArg State.programmed h :)
theorem clock_of_desk (h : t.desk = s.desk) : t.clock = s.clock := (congrArg State.clock h :)
theorem timetables_of_desk (h : t.desk = s.desk) : t.timetables = s.timetables := (congrArg State.timetables h :)
theorem notices_of_desk (h : t.desk = s.desk) : t.notices = s.notices := (congrArg State.notices h :)
theorem arb_of_desk (h : t.desk = s.desk) : t.arb = s.arb := (congrArg State.arb h :)

theorem port_desk_of_desk (h : t.desk = s.desk) (p : Port) : (t.port p).desk = (s.port p).desk := by
  have h2 : t.ports.map PortRecord.desk = s.ports.map PortRecord.desk := (congrArg State.ports h :)
  have h3 := congrArg (fun v : Vector PortRecord 3 => v[portIndex p]) h2
  simpa [State.port] using h3

theorem ports_of_offBoard (h : t.offBoard = s.offBoard) : t.ports = s.ports := (congrArg State.ports h :)
theorem pressure_of_offBoard (h : t.offBoard = s.offBoard) : t.pressure = s.pressure := (congrArg State.pressure h :)

theorem timetable_of_desk (h : t.desk = s.desk) (r : RoomId) : t.timetable r = s.timetable r := by
  rw [State.timetable, timetables_of_desk h]; rfl

theorem mapping_of_desk (h : t.desk = s.desk) (i : SignId) : t.mapping i = s.mapping i := by
  rw [State.mapping, setup_of_desk h]; rfl

theorem roomSetup_of_desk (h : t.desk = s.desk) (r : RoomId) : t.roomSetup r = s.roomSetup r := by
  rw [State.roomSetup, setup_of_desk h]; rfl

theorem lineSetup_of_desk (h : t.desk = s.desk) (l : LineId) : t.lineSetup l = s.lineSetup l := by
  rw [State.lineSetup, setup_of_desk h]; rfl

theorem portSetup_of_desk (h : t.desk = s.desk) (p : Port) : t.portSetup p = s.portSetup p := by
  rw [State.portSetup, setup_of_desk h]; rfl

end Views

/-! ### Updates of one item -/

@[simp] theorem State.setEval_offBoard (s : State) (r : RoomId) (x : EvalRecord) : (s.setEval r x).offBoard = s.offBoard := rfl
@[simp] theorem State.setSign_offBoard (s : State) (i : SignId) (x : SignRecord) : (s.setSign i x).offBoard = s.offBoard := rfl
@[simp] theorem State.updSign_offBoard (s : State) (i : SignId) (f : SignRecord → SignRecord) :
    (s.updSign i f).offBoard = s.offBoard := rfl
@[simp] theorem State.setLine_offBoard (s : State) (l : LineId) (x : LineRecord) : (s.setLine l x).offBoard = s.offBoard := rfl
@[simp] theorem State.updLine_offBoard (s : State) (l : LineId) (f : LineRecord → LineRecord) :
    (s.updLine l f).offBoard = s.offBoard := rfl

/-- A port change that keeps the port's desk keeps the hub's. -/
theorem State.updPort_desk (s : State) (p : Port) (f : PortRecord → PortRecord) (h : ∀ x, (f x).desk = x.desk) :
    (s.updPort p f).desk = s.desk := by
  have h2 : (s.updPort p f).ports.map PortRecord.desk = s.ports.map PortRecord.desk := by
    apply Vector.ext
    intro k hk
    simp only [State.updPort, State.setPort, Vector.getElem_map, Vector.getElem_set]
    split
    · next e => subst e; exact h _
    · rfl
  unfold State.desk
  rw [h2]
  rfl

/-! ### Flags, pressure and fault attention -/

@[simp] theorem State.raise_desk (s : State) (p : Port) (src : Source) : (s.raise p src).desk = s.desk :=
  s.updPort_desk p _ (fun _ => rfl)

@[simp] theorem State.lower_desk (s : State) (p : Port) (src : Source) : (s.lower p src).desk = s.desk :=
  s.updPort_desk p _ (fun _ => rfl)

@[simp] theorem State.raiseAll_desk (s : State) (src : Source) : (s.raiseAll src).desk = s.desk :=
  foldl_same State.desk _ (fun s p => s.raise_desk p src) allPorts s

@[simp] theorem State.lowerAll_desk (s : State) (src : Source) : (s.lowerAll src).desk = s.desk :=
  foldl_same State.desk _ (fun s p => s.lower_desk p src) allPorts s

@[simp] theorem State.raiseSetup_desk (s : State) (src : Source) : (s.raiseSetup src).desk = s.desk := by
  refine foldl_same State.desk _ (fun t p => ?_) allPorts s
  split <;> simp

@[simp] theorem PortRecord.takeFault_desk (x : PortRecord) (i : SignId) (k : FaultKind) : (x.takeFault i k).desk = x.desk := by
  unfold PortRecord.takeFault
  split <;> rfl

@[simp] theorem State.raiseFault_desk (s : State) (o : Origin) (i : SignId) (k : FaultKind) :
    (s.raiseFault o i k).desk = s.desk := by
  have one : ∀ (t : State) (p : Port), (t.updPort p (fun x => x.takeFault i k)).desk = t.desk :=
    fun t p => t.updPort_desk p _ (fun x => x.takeFault_desk i k)
  unfold State.raiseFault
  split
  · exact one _ _
  all_goals
    refine foldl_same State.desk _ (fun t p => ?_) allPorts s
    split
    · exact one t p
    · rfl

@[simp] theorem State.repress_desk (s : State) : s.repress.desk = s.desk := by
  unfold State.repress
  simp only
  split
  · rfl
  · rw [State.raiseAll_desk]; rfl

/-! ### Signs and jobs -/

@[simp] theorem State.retarget_offBoard (s : State) (i : SignId) (m : Mapping) : (s.retarget i m).offBoard = s.offBoard := rfl

@[simp] theorem State.settleSign_offBoard (s : State) (i : SignId) : (s.settleSign i).offBoard = s.offBoard := by
  unfold State.settleSign
  repeat' split
  all_goals rfl

@[simp] theorem State.hand_offBoard (s : State) (i : SignId) (d : Option Digests) (o : Origin) (forced : Bool) :
    (s.hand i d o forced).offBoard = s.offBoard := by
  unfold State.hand
  simp only
  split
  · split <;> simp
  · simp

@[simp] theorem State.createJob_offBoard (s : State) (l : LineId) : (s.createJob l).offBoard = s.offBoard := by
  unfold State.createJob
  repeat' split
  all_goals rfl

@[simp] theorem State.startJob_offBoard (s : State) (l : LineId) : (s.startJob l).offBoard = s.offBoard := by
  unfold State.startJob
  repeat' split
  all_goals rfl

@[simp] theorem State.leaveQueue_offBoard (s : State) (i : SignId) : (s.leaveQueue i).offBoard = s.offBoard := by
  unfold State.leaveQueue
  split <;> rfl

@[simp] theorem State.latchSign_offBoard (s : State) (i : SignId) : (s.latchSign i).offBoard = s.offBoard := by
  simp [State.latchSign]

@[simp] theorem State.waitSign_offBoard (s : State) (i : SignId) (k : FaultKind) : (s.waitSign i k).offBoard = s.offBoard := by
  simp [State.waitSign]

@[simp] theorem State.endRetry_offBoard (s : State) (i : SignId) : (s.endRetry i).offBoard = s.offBoard := by
  simp [State.endRetry]

@[simp] theorem State.settleFound_offBoard (s : State) (i : SignId) : (s.settleFound i).offBoard = s.offBoard := by
  unfold State.settleFound
  repeat' split
  all_goals simp

@[simp] theorem State.retireDone_offBoard (s : State) (l : LineId) (j : Job) : (s.retireDone l j).offBoard = s.offBoard := by
  simp [State.retireDone]

@[simp] theorem State.retireTrip_offBoard (s : State) (l : LineId) (i : SignId) : (s.retireTrip l i).offBoard = s.offBoard := by
  simp [State.retireTrip]

@[simp] theorem State.applyFault_desk (s : State) (i : SignId) (k : FaultKind) (o : Origin) :
    (s.applyFault i k o).desk = s.desk := by
  have h1 : (s.updSign i (fun g => g.countFault k)).desk = s.desk := desk_of_offBoard (by simp)
  unfold State.applyFault
  simp only
  split
  · rw [State.raiseFault_desk, desk_of_offBoard (State.latchSign_offBoard _ i), h1]
  · split
    · rw [State.raiseFault_desk, desk_of_offBoard (State.latchSign_offBoard _ i), h1]
    · rw [desk_of_offBoard (State.waitSign_offBoard _ i k), h1]
  · rw [State.raiseFault_desk, desk_of_offBoard (State.settleSign_offBoard _ i), h1]
  · rw [desk_of_offBoard (State.settleSign_offBoard _ i), h1]

@[simp] theorem State.applyAbsent_desk (s : State) (i : SignId) (o : Origin) : (s.applyAbsent i o).desk = s.desk := by
  unfold State.applyAbsent
  split
  · exact desk_of_offBoard (by simp)
  · simp

@[simp] theorem State.retireFailed_desk (s : State) (l : LineId) (j : Job) (k : FaultKind) :
    (s.retireFailed l j k).desk = s.desk := by
  unfold State.retireFailed
  simp only
  split
  · rw [State.applyAbsent_desk]; exact desk_of_offBoard (by simp)
  · rw [State.applyFault_desk]; exact desk_of_offBoard (by simp)

@[simp] theorem State.foundPresent_desk (s : State) (i : SignId) (m : Mapping) (c : SignClass) :
    (s.foundPresent i m c).desk = s.desk := by
  unfold State.foundPresent
  simp only
  have h1 : ∀ x, (s.setSign i x).desk = s.desk := fun x => desk_of_offBoard (by simp)
  have h2 : ∀ x (b : Prop) [Decidable b], (if b then (s.setSign i x).raiseSetup .line else s.setSign i x).desk = s.desk := by
    intro x b _
    split
    · rw [State.raiseSetup_desk, h1]
    · exact h1 x
  have h3 : ∀ (t : State) f, (t.updSign i f).desk = t.desk := fun t f => desk_of_offBoard (by simp)
  split
  · exact h2 _ _
  · rw [desk_of_offBoard (State.settleFound_offBoard _ i)]
    split
    · rw [h3, h3]; exact h2 _ _
    · rw [h3]; exact h2 _ _

@[simp] theorem State.foundSilent_desk (s : State) (i : SignId) (m : Mapping) : (s.foundSilent i m).desk = s.desk := by
  have h1 : ∀ x, (s.setSign i x).desk = s.desk := fun x => desk_of_offBoard (by simp)
  unfold State.foundSilent
  simp only
  repeat' split
  · rfl
  · rw [State.applyAbsent_desk, h1]
  · rw [State.applyAbsent_desk, desk_of_offBoard (State.updLine_offBoard _ _ _), h1]
  · exact desk_of_offBoard (by simp)

/-! ### Lines and the quiet controller -/

@[simp] theorem State.wakeLines_offBoard (s : State) : s.wakeLines.offBoard = s.offBoard := rfl

@[simp] theorem State.wakeCause_offBoard (s : State) : s.wakeCause.offBoard = s.offBoard := by
  unfold State.wakeCause
  split <;> rfl

@[simp] theorem State.exitCheck_offBoard (s : State) : s.exitCheck.offBoard = s.offBoard := by
  unfold State.exitCheck
  split <;> rfl

@[simp] theorem State.quietSettled_offBoard (s : State) : s.quietSettled.offBoard = s.offBoard := by
  unfold State.quietSettled
  split <;> rfl

@[simp] theorem State.entryCheck_offBoard (s : State) : s.entryCheck.offBoard = s.offBoard := by
  unfold State.entryCheck
  split
  · rw [State.quietSettled_offBoard]; rfl
  · rfl

@[simp] theorem State.moveQuiet_offBoard (s : State) (b : Bool) : (s.moveQuiet b).offBoard = s.offBoard := by
  unfold State.moveQuiet
  split
  all_goals first | rfl | simp

@[simp] theorem State.tripLine_offBoard (s : State) (l : LineId) : (s.tripLine l).offBoard = s.offBoard := by
  unfold State.tripLine
  simp only [State.updLine_offBoard]
  exact foldl_same State.offBoard _ (fun s i => s.retireTrip_offBoard l i) _ s

@[simp] theorem State.restoreLine_offBoard (s : State) (l : LineId) : (s.restoreLine l).offBoard = s.offBoard := by
  unfold State.restoreLine
  split <;> rfl

@[simp] theorem State.completeRoll_desk (s : State) (l : LineId) (found : List Position) :
    (s.completeRoll l found).desk = s.desk := by
  unfold State.completeRoll
  simp only
  rw [desk_of_offBoard (State.updLine_offBoard _ l _)]
  split <;> simp

@[simp] theorem State.nextRoll_desk (s : State) (l : LineId) (pos : Position) (found : List Position) :
    (s.nextRoll l pos found).desk = s.desk := by
  unfold State.nextRoll
  split
  · exact desk_of_offBoard (by simp)
  · simp

@[simp] theorem State.sleepLine_offBoard (s : State) (l : LineId) : (s.sleepLine l).offBoard = s.offBoard := by
  unfold State.sleepLine
  split <;> simp

@[simp] theorem State.trip_desk (s : State) (l : LineId) : (s.trip l).desk = s.desk := by
  unfold State.trip
  simp only
  rw [desk_of_offBoard (State.quietSettled_offBoard _)]
  unfold State.tripPartner
  split
  · rw [desk_of_offBoard (State.tripLine_offBoard _ _), State.raiseSetup_desk]; exact desk_of_offBoard (by simp)
  · rw [State.raiseSetup_desk]; exact desk_of_offBoard (by simp)

/-! ### Line events -/

@[simp] theorem State.takeAck_offBoard (s : State) (l : LineId) (pos : Position) : (s.takeAck l pos).offBoard = s.offBoard := by
  unfold State.takeAck State.acked
  repeat' split
  all_goals rfl

@[simp] theorem State.missed_desk (s : State) (l : LineId) (i : SignId) : (s.missed l i).desk = s.desk := by
  unfold State.missed
  repeat' split
  · rfl
  · exact desk_of_offBoard (by simp)
  · rw [desk_of_offBoard (State.updLine_offBoard _ l _), State.retireFailed_desk]; exact desk_of_offBoard (by simp)

@[simp] theorem State.ackMissed_desk (s : State) (l : LineId) : (s.ackMissed l).desk = s.desk := by
  unfold State.ackMissed
  split <;> simp

@[simp] theorem State.takeBusy_offBoard (s : State) (l : LineId) (pos : Position) : (s.takeBusy l pos).offBoard = s.offBoard := by
  unfold State.takeBusy
  repeat' split
  all_goals rfl

@[simp] theorem State.judge_desk (s : State) (l : LineId) (i : SignId) (d : Digest) : (s.judge l i d).desk = s.desk := by
  unfold State.judge
  simp only
  repeat' split
  · rfl
  · exact desk_of_offBoard (by simp)
  · rw [State.retireFailed_desk]; exact desk_of_offBoard (by simp)

@[simp] theorem State.takeDone_desk (s : State) (l : LineId) (pos : Position) (d : Digest) :
    (s.takeDone l pos d).desk = s.desk := by
  unfold State.takeDone
  repeat' split
  all_goals simp

@[simp] theorem State.pollMissed_desk (s : State) (l : LineId) : (s.pollMissed l).desk = s.desk := by
  unfold State.pollMissed
  repeat' split
  · simp
  · exact desk_of_offBoard (by simp)
  · rfl

@[simp] theorem State.slow_desk (s : State) (l : LineId) (i : SignId) : (s.slow l i).desk = s.desk := by
  unfold State.slow
  repeat' split
  · rfl
  · rw [State.retireFailed_desk]; exact desk_of_offBoard (by simp)
  · rfl

@[simp] theorem State.takeClass_desk (s : State) (l : LineId) (pos : Position) (c : SignClass) :
    (s.takeClass l pos c).desk = s.desk := by
  unfold State.takeClass State.rollAnswered
  repeat' split
  all_goals simp

@[simp] theorem State.rollMissed_desk (s : State) (l : LineId) : (s.rollMissed l).desk = s.desk := by
  unfold State.rollMissed State.rollSilent
  repeat' split
  · simp
  · rfl
  · simp
  · exact desk_of_offBoard (by simp)
  · rfl

/-! ### Evaluation -/

@[simp] theorem State.handRoom_offBoard (s : State) (r : RoomId) (old new : EvalRecord) (o : Origin) (forced : Bool) :
    (s.handRoom r old new o forced).offBoard = s.offBoard := by
  refine foldl_same State.offBoard _ (fun t i => ?_) allSigns s
  split
  · rfl
  · split <;> simp

@[simp] theorem State.evaluateRoom_offBoard (s : State) (r : RoomId) (o : Origin) (forced : Bool) :
    (s.evaluateRoom r o forced).offBoard = s.offBoard := by
  unfold State.evaluateRoom
  simp only
  repeat' split
  all_goals simp

@[simp] theorem State.evaluateRooms_offBoard (s : State) (p : RoomId → Bool) (o : Origin) :
    (s.evaluateRooms p o).offBoard = s.offBoard := by
  refine foldl_same State.offBoard _ (fun t r => ?_) allRooms s
  split <;> simp

@[simp] theorem State.evaluateAll_offBoard (s : State) (o : Origin) : (s.evaluateAll o).offBoard = s.offBoard :=
  s.evaluateRooms_offBoard _ o

@[simp] theorem State.forcedEvaluation_offBoard (s : State) : s.forcedEvaluation.offBoard = s.offBoard :=
  foldl_same State.offBoard _ (fun t r => t.evaluateRoom_offBoard r .setup true) allRooms s

/-! ### Timers of a second boundary -/

@[simp] theorem State.refill_offBoard (s : State) : s.refill.offBoard = s.offBoard :=
  foldl_same State.offBoard _ (fun t l => t.updLine_offBoard l _) allLines s

@[simp] theorem State.tickSign_offBoard (s : State) (i : SignId) : (s.tickSign i).offBoard = s.offBoard := by
  unfold State.tickSign
  repeat' split
  all_goals simp

@[simp] theorem State.tickLine_offBoard (s : State) (l : LineId) : (s.tickLine l).offBoard = s.offBoard := by
  unfold State.tickLine
  repeat' split
  all_goals simp

@[simp] theorem State.tickWaits_offBoard (s : State) : s.tickWaits.offBoard = s.offBoard := by
  unfold State.tickWaits
  rw [foldl_same State.offBoard _ (fun t l => t.tickLine_offBoard l) allLines,
    foldl_same State.offBoard _ (fun t i => t.tickSign_offBoard i) allSigns]

end Sys2Proof.Machine
end

