-- ==== Sys2Proof/Laws/Requests.lean ====
section
/-! SUPPORT. The request path: what taking, answering, hunting and discarding do to State, what an accepted, refused or
foreign packet comes to, and what every request keeps. -/

namespace Sys2Proof.Machine

/-! ### Taking a request -/

/-- R77, R172: everything that taking a request does. -/
theorem State.take_eq (s : State) (p : Port) :
    s.take p = { s with
      arb := s.arb.restarted p s.setup.arbiter.idleCode
      ports := s.ports.set (portIndex p)
        { s.port p with monitor := .alive, heartbeat := heartbeatTime (s.portSetup p).interval } } := by
  unfold State.take Arbiter.restarted
  by_cases h : s.arb.holder = some p
  · simp only [State.updPort_arb, h, if_pos]; rfl
  · simp only [State.updPort_arb, h, if_neg, not_false_eq_true]; rfl

@[simp] theorem State.take_pending (s : State) (p : Port) : (s.take p).pending = s.pending := by rw [State.take_eq]
@[simp] theorem State.take_run (s : State) (p : Port) : (s.take p).run = s.run := by rw [State.take_eq]
@[simp] theorem State.take_resetPin (s : State) (p : Port) : (s.take p).resetPin = s.resetPin := by rw [State.take_eq]
@[simp] theorem State.take_baud (s : State) (p : Port) : (s.take p).baud = s.baud := by rw [State.take_eq]
@[simp] theorem State.take_setup (s : State) (p : Port) : (s.take p).setup = s.setup := by rw [State.take_eq]
@[simp] theorem State.take_stored (s : State) (p : Port) : (s.take p).stored = s.stored := by rw [State.take_eq]
@[simp] theorem State.take_store (s : State) (p : Port) : (s.take p).store = s.store := by rw [State.take_eq]
@[simp] theorem State.take_startCause (s : State) (p : Port) : (s.take p).startCause = s.startCause := by rw [State.take_eq]
@[simp] theorem State.take_address (s : State) (p : Port) : (s.take p).address = s.address := by rw [State.take_eq]
@[simp] theorem State.take_programmed (s : State) (p : Port) : (s.take p).programmed = s.programmed := by rw [State.take_eq]
@[simp] theorem State.take_clock (s : State) (p : Port) : (s.take p).clock = s.clock := by rw [State.take_eq]
@[simp] theorem State.take_timetables (s : State) (p : Port) : (s.take p).timetables = s.timetables := by rw [State.take_eq]
@[simp] theorem State.take_evals (s : State) (p : Port) : (s.take p).evals = s.evals := by rw [State.take_eq]
@[simp] theorem State.take_pressure (s : State) (p : Port) : (s.take p).pressure = s.pressure := by rw [State.take_eq]
@[simp] theorem State.take_notices (s : State) (p : Port) : (s.take p).notices = s.notices := by rw [State.take_eq]
@[simp] theorem State.take_signs (s : State) (p : Port) : (s.take p).signs = s.signs := by rw [State.take_eq]
@[simp] theorem State.take_lines (s : State) (p : Port) : (s.take p).lines = s.lines := by rw [State.take_eq]
@[simp] theorem State.take_quiet (s : State) (p : Port) : (s.take p).quiet = s.quiet := by rw [State.take_eq]
@[simp] theorem State.take_timetable (s : State) (p : Port) (r : RoomId) : (s.take p).timetable r = s.timetable r := by
  rw [State.take_eq]; rfl
@[simp] theorem State.take_eval (s : State) (p : Port) (r : RoomId) : (s.take p).eval r = s.eval r := by
  rw [State.take_eq]; rfl
@[simp] theorem State.take_sign (s : State) (p : Port) (i : SignId) : (s.take p).sign i = s.sign i := by
  rw [State.take_eq]; rfl
@[simp] theorem State.take_line (s : State) (p : Port) (l : LineId) : (s.take p).line l = s.line l := by
  rw [State.take_eq]; rfl
@[simp] theorem State.take_roomSetup (s : State) (p : Port) (r : RoomId) : (s.take p).roomSetup r = s.roomSetup r := by
  rw [State.take_eq]; rfl
@[simp] theorem State.take_mapping (s : State) (p : Port) (i : SignId) : (s.take p).mapping i = s.mapping i := by
  rw [State.take_eq]; rfl
@[simp] theorem State.take_lineSetup (s : State) (p : Port) (l : LineId) : (s.take p).lineSetup l = s.lineSetup l := by
  rw [State.take_eq]; rfl
@[simp] theorem State.take_portSetup (s : State) (p : Port) (q : Port) : (s.take p).portSetup q = s.portSetup q := by
  rw [State.take_eq]; rfl

@[simp] theorem State.take_arb (s : State) (p : Port) : (s.take p).arb = s.arb.restarted p s.setup.arbiter.idleCode := by
  rw [State.take_eq]

@[simp] theorem Arbiter.restarted_holder (a : Arbiter) (p : Port) (c : Nat) : (a.restarted p c).holder = a.holder := by
  unfold Arbiter.restarted; split <;> rfl
@[simp] theorem Arbiter.restarted_rooms (a : Arbiter) (p : Port) (c : Nat) : (a.restarted p c).rooms = a.rooms := by
  unfold Arbiter.restarted; split <;> rfl
@[simp] theorem Arbiter.restarted_waiters (a : Arbiter) (p : Port) (c : Nat) : (a.restarted p c).waiters = a.waiters := by
  unfold Arbiter.restarted; split <;> rfl
@[simp] theorem Arbiter.restarted_staging (a : Arbiter) (p : Port) (c : Nat) : (a.restarted p c).staging = a.staging := by
  unfold Arbiter.restarted; split <;> rfl
@[simp] theorem Arbiter.restarted_withdrawals (a : Arbiter) (p : Port) (c : Nat) :
    (a.restarted p c).withdrawals = a.withdrawals := by
  unfold Arbiter.restarted; split <;> rfl

@[simp] theorem State.take_isHeld (s : State) (p : Port) (r : RoomId) : (s.take p).isHeld r = s.isHeld r := by
  simp [State.isHeld]

/-- R172: the port that takes a request has an ALIVE monitor with its timer restarted. -/
@[simp] theorem State.take_port_self (s : State) (p : Port) :
    (s.take p).port p = { s.port p with monitor := .alive, heartbeat := heartbeatTime (s.portSetup p).interval } := by
  rw [State.take_eq]; simp [State.port]

theorem State.take_port_of_ne (s : State) {p q : Port} (h : q ≠ p) : (s.take p).port q = s.port q := by
  have h2 : portIndex p ≠ portIndex q := fun e => h (portIndex_injective e).symm
  rw [State.take_eq]; simp [State.port, Fin.val_ne_of_ne h2]

theorem State.take_port (s : State) (p q : Port) :
    (s.take p).port q = if q = p then { s.port p with monitor := .alive, heartbeat := heartbeatTime (s.portSetup p).interval }
      else s.port q := by
  split
  · next h => subst h; simp
  · next h => exact s.take_port_of_ne h

/-! ### Answering, hunting, discarding -/

@[simp] theorem State.answer_pending (s : State) (p : Port) (c : Nat) (v : Served) : (s.answer p c v).pending = v.st.pending := rfl
@[simp] theorem State.answer_run (s : State) (p : Port) (c : Nat) (v : Served) : (s.answer p c v).run = v.st.run := rfl
@[simp] theorem State.answer_resetPin (s : State) (p : Port) (c : Nat) (v : Served) : (s.answer p c v).resetPin = v.st.resetPin := rfl
@[simp] theorem State.answer_baud (s : State) (p : Port) (c : Nat) (v : Served) : (s.answer p c v).baud = v.st.baud := rfl
@[simp] theorem State.answer_setup (s : State) (p : Port) (c : Nat) (v : Served) : (s.answer p c v).setup = v.st.setup := rfl
@[simp] theorem State.answer_stored (s : State) (p : Port) (c : Nat) (v : Served) : (s.answer p c v).stored = v.st.stored := rfl
@[simp] theorem State.answer_store (s : State) (p : Port) (c : Nat) (v : Served) : (s.answer p c v).store = v.st.store := rfl
@[simp] theorem State.answer_startCause (s : State) (p : Port) (c : Nat) (v : Served) : (s.answer p c v).startCause = v.st.startCause := rfl
@[simp] theorem State.answer_address (s : State) (p : Port) (c : Nat) (v : Served) : (s.answer p c v).address = v.st.address := rfl
@[simp] theorem State.answer_programmed (s : State) (p : Port) (c : Nat) (v : Served) : (s.answer p c v).programmed = v.st.programmed := rfl
@[simp] theorem State.answer_clock (s : State) (p : Port) (c : Nat) (v : Served) : (s.answer p c v).clock = v.st.clock := rfl
@[simp] theorem State.answer_timetables (s : State) (p : Port) (c : Nat) (v : Served) : (s.answer p c v).timetables = v.st.timetables := rfl
@[simp] theorem State.answer_evals (s : State) (p : Port) (c : Nat) (v : Served) : (s.answer p c v).evals = v.st.evals := rfl
@[simp] theorem State.answer_pressure (s : State) (p : Port) (c : Nat) (v : Served) : (s.answer p c v).pressure = v.st.pressure := rfl
@[simp] theorem State.answer_notices (s : State) (p : Port) (c : Nat) (v : Served) : (s.answer p c v).notices = v.st.notices := rfl
@[simp] theorem State.answer_arb (s : State) (p : Port) (c : Nat) (v : Served) : (s.answer p c v).arb = v.st.arb := rfl
@[simp] theorem State.answer_signs (s : State) (p : Port) (c : Nat) (v : Served) : (s.answer p c v).signs = v.st.signs := rfl
@[simp] theorem State.answer_lines (s : State) (p : Port) (c : Nat) (v : Served) : (s.answer p c v).lines = v.st.lines := rfl
@[simp] theorem State.answer_quiet (s : State) (p : Port) (c : Nat) (v : Served) : (s.answer p c v).quiet = v.st.quiet := rfl
@[simp] theorem State.answer_timetable (s : State) (p : Port) (c : Nat) (v : Served) (r : RoomId) :
    (s.answer p c v).timetable r = v.st.timetable r := rfl
@[simp] theorem State.answer_eval (s : State) (p : Port) (c : Nat) (v : Served) (r : RoomId) :
    (s.answer p c v).eval r = v.st.eval r := rfl
@[simp] theorem State.answer_sign (s : State) (p : Port) (c : Nat) (v : Served) (i : SignId) :
    (s.answer p c v).sign i = v.st.sign i := rfl
@[simp] theorem State.answer_line (s : State) (p : Port) (c : Nat) (v : Served) (l : LineId) :
    (s.answer p c v).line l = v.st.line l := rfl
@[simp] theorem State.answer_roomSetup (s : State) (p : Port) (c : Nat) (v : Served) (r : RoomId) :
    (s.answer p c v).roomSetup r = v.st.roomSetup r := rfl
@[simp] theorem State.answer_mapping (s : State) (p : Port) (c : Nat) (v : Served) (i : SignId) :
    (s.answer p c v).mapping i = v.st.mapping i := rfl
@[simp] theorem State.answer_lineSetup (s : State) (p : Port) (c : Nat) (v : Served) (l : LineId) :
    (s.answer p c v).lineSetup l = v.st.lineSetup l := rfl
@[simp] theorem State.answer_portSetup (s : State) (p : Port) (c : Nat) (v : Served) (q : Port) :
    (s.answer p c v).portSetup q = v.st.portSetup q := rfl

@[simp] theorem State.answer_port_self (s : State) (p : Port) (c : Nat) (v : Served) :
    (s.answer p c v).port p =
      { v.st.port p with reception := .answering, buffer := [], reply := some (v.reply s.address c) } := by
  simp [State.answer]

theorem State.answer_port_of_ne (s : State) {p q : Port} (h : q ≠ p) (c : Nat) (v : Served) :
    (s.answer p c v).port q = v.st.port q := by
  simp [State.answer, State.port_updPort, h]

@[simp] theorem refuse_st (s : State) (st : Status) : (refuse s st).st = s := rfl
@[simp] theorem refuse_status (s : State) (st : Status) : (refuse s st).status = st := rfl
@[simp] theorem refuse_clamped (s : State) (st : Status) : (refuse s st).clamped = false := rfl
@[simp] theorem refuse_result (s : State) (st : Status) : (refuse s st).result = .empty := rfl
@[simp] theorem okWith_st (s : State) (r : Result) : (okWith s r).st = s := rfl
@[simp] theorem okWith_status (s : State) (r : Result) : (okWith s r).status = .ok := rfl
@[simp] theorem okWith_clamped (s : State) (r : Result) : (okWith s r).clamped = false := rfl
@[simp] theorem okWith_result (s : State) (r : Result) : (okWith s r).result = r := rfl

@[simp] theorem State.hunt_pending (s : State) (p : Port) : (s.hunt p).pending = s.pending := rfl
@[simp] theorem State.hunt_run (s : State) (p : Port) : (s.hunt p).run = s.run := rfl
@[simp] theorem State.hunt_resetPin (s : State) (p : Port) : (s.hunt p).resetPin = s.resetPin := rfl
@[simp] theorem State.hunt_baud (s : State) (p : Port) : (s.hunt p).baud = s.baud := rfl
@[simp] theorem State.hunt_setup (s : State) (p : Port) : (s.hunt p).setup = s.setup := rfl
@[simp] theorem State.hunt_stored (s : State) (p : Port) : (s.hunt p).stored = s.stored := rfl
@[simp] theorem State.hunt_store (s : State) (p : Port) : (s.hunt p).store = s.store := rfl
@[simp] theorem State.hunt_startCause (s : State) (p : Port) : (s.hunt p).startCause = s.startCause := rfl
@[simp] theorem State.hunt_address (s : State) (p : Port) : (s.hunt p).address = s.address := rfl
@[simp] theorem State.hunt_programmed (s : State) (p : Port) : (s.hunt p).programmed = s.programmed := rfl
@[simp] theorem State.hunt_clock (s : State) (p : Port) : (s.hunt p).clock = s.clock := rfl
@[simp] theorem State.hunt_timetables (s : State) (p : Port) : (s.hunt p).timetables = s.timetables := rfl
@[simp] theorem State.hunt_evals (s : State) (p : Port) : (s.hunt p).evals = s.evals := rfl
@[simp] theorem State.hunt_pressure (s : State) (p : Port) : (s.hunt p).pressure = s.pressure := rfl
@[simp] theorem State.hunt_notices (s : State) (p : Port) : (s.hunt p).notices = s.notices := rfl
@[simp] theorem State.hunt_arb (s : State) (p : Port) : (s.hunt p).arb = s.arb := rfl
@[simp] theorem State.hunt_signs (s : State) (p : Port) : (s.hunt p).signs = s.signs := rfl
@[simp] theorem State.hunt_lines (s : State) (p : Port) : (s.hunt p).lines = s.lines := rfl
@[simp] theorem State.hunt_quiet (s : State) (p : Port) : (s.hunt p).quiet = s.quiet := rfl
@[simp] theorem State.hunt_timetable (s : State) (p : Port) (r : RoomId) : (s.hunt p).timetable r = s.timetable r := rfl
@[simp] theorem State.hunt_eval (s : State) (p : Port) (r : RoomId) : (s.hunt p).eval r = s.eval r := rfl
@[simp] theorem State.hunt_sign (s : State) (p : Port) (i : SignId) : (s.hunt p).sign i = s.sign i := rfl
@[simp] theorem State.hunt_line (s : State) (p : Port) (l : LineId) : (s.hunt p).line l = s.line l := rfl
@[simp] theorem State.hunt_roomSetup (s : State) (p : Port) (r : RoomId) : (s.hunt p).roomSetup r = s.roomSetup r := rfl
@[simp] theorem State.hunt_mapping (s : State) (p : Port) (i : SignId) : (s.hunt p).mapping i = s.mapping i := rfl
@[simp] theorem State.hunt_lineSetup (s : State) (p : Port) (l : LineId) : (s.hunt p).lineSetup l = s.lineSetup l := rfl
@[simp] theorem State.hunt_portSetup (s : State) (p : Port) (q : Port) : (s.hunt p).portSetup q = s.portSetup q := rfl
@[simp] theorem State.discard_pending (s : State) (p : Port) : (s.discard p).pending = s.pending := rfl
@[simp] theorem State.discard_run (s : State) (p : Port) : (s.discard p).run = s.run := rfl
@[simp] theorem State.discard_resetPin (s : State) (p : Port) : (s.discard p).resetPin = s.resetPin := rfl
@[simp] theorem State.discard_baud (s : State) (p : Port) : (s.discard p).baud = s.baud := rfl
@[simp] theorem State.discard_setup (s : State) (p : Port) : (s.discard p).setup = s.setup := rfl
@[simp] theorem State.discard_stored (s : State) (p : Port) : (s.discard p).stored = s.stored := rfl
@[simp] theorem State.discard_store (s : State) (p : Port) : (s.discard p).store = s.store := rfl
@[simp] theorem State.discard_startCause (s : State) (p : Port) : (s.discard p).startCause = s.startCause := rfl
@[simp] theorem State.discard_address (s : State) (p : Port) : (s.discard p).address = s.address := rfl
@[simp] theorem State.discard_programmed (s : State) (p : Port) : (s.discard p).programmed = s.programmed := rfl
@[simp] theorem State.discard_clock (s : State) (p : Port) : (s.discard p).clock = s.clock := rfl
@[simp] theorem State.discard_timetables (s : State) (p : Port) : (s.discard p).timetables = s.timetables := rfl
@[simp] theorem State.discard_evals (s : State) (p : Port) : (s.discard p).evals = s.evals := rfl
@[simp] theorem State.discard_pressure (s : State) (p : Port) : (s.discard p).pressure = s.pressure := rfl
@[simp] theorem State.discard_notices (s : State) (p : Port) : (s.discard p).notices = s.notices := rfl
@[simp] theorem State.discard_arb (s : State) (p : Port) : (s.discard p).arb = s.arb := rfl
@[simp] theorem State.discard_signs (s : State) (p : Port) : (s.discard p).signs = s.signs := rfl
@[simp] theorem State.discard_lines (s : State) (p : Port) : (s.discard p).lines = s.lines := rfl
@[simp] theorem State.discard_quiet (s : State) (p : Port) : (s.discard p).quiet = s.quiet := rfl
@[simp] theorem State.discard_timetable (s : State) (p : Port) (r : RoomId) : (s.discard p).timetable r = s.timetable r := rfl
@[simp] theorem State.discard_eval (s : State) (p : Port) (r : RoomId) : (s.discard p).eval r = s.eval r := rfl
@[simp] theorem State.discard_sign (s : State) (p : Port) (i : SignId) : (s.discard p).sign i = s.sign i := rfl
@[simp] theorem State.discard_line (s : State) (p : Port) (l : LineId) : (s.discard p).line l = s.line l := rfl
@[simp] theorem State.discard_roomSetup (s : State) (p : Port) (r : RoomId) : (s.discard p).roomSetup r = s.roomSetup r := rfl
@[simp] theorem State.discard_mapping (s : State) (p : Port) (i : SignId) : (s.discard p).mapping i = s.mapping i := rfl
@[simp] theorem State.discard_lineSetup (s : State) (p : Port) (l : LineId) : (s.discard p).lineSetup l = s.lineSetup l := rfl
@[simp] theorem State.discard_portSetup (s : State) (p : Port) (q : Port) : (s.discard p).portSetup q = s.portSetup q := rfl

/-- A result that leaves the state as it was taken is answered, with nothing else changed. -/
theorem State.answer_unchanged (s : State) (h : Header) (code : Nat) (v : Served) (hst : v.st = s.take h.port)
    (hc : v.clamped = false) : (s.take h.port).answer h.port code v = s.answeredWith h code v.status v.result := by
  have hp : (s.take h.port).port h.port = _ := s.take_port_self h.port
  simp only [State.answer, State.answeredWith, State.answered, State.updPort, State.setPort, Served.reply, hst, hc, hp,
    State.take_address, State.take_pressure]
  rw [State.take_eq]
  simp

/-! ### The port's judgement -/

theorem Need.eq_setup_iff (n : Need) : (n == Need.setup) = true ↔ n = .setup := by cases n <;> decide

/-- R163: when a port hears a packet. -/
theorem State.hears_iff (s : State) (p : Port) :
    s.hears p = true ↔ s.run = .running ∧ ((s.port p).reception = .hunting ∨ (s.port p).reception = .receiving) := by
  unfold State.hears
  cases s.run <;> cases (s.port p).reception <;> decide

theorem Direct.hears_eq {s : State} {h : Header} (d : Direct s h) : s.hears h.port = true :=
  (s.hears_iff h.port).2 ⟨d.running, d.hears⟩

/-- R164, outcome 4: a direct packet is taken, checked and answered. -/
theorem State.request_direct {s : State} {h : Header} (d : Direct s h) (code : Nat) (need : Need)
    (cast : State → Option State) (serve : State → Served) :
    s.request h code need cast serve = (s.take h.port).answer h.port code
      (match (s.take h.port).portCheck h need with
       | some st => refuse (s.take h.port) st
       | none => serve (s.take h.port)) := by
  have h15 : h.cabinet ≠ Config.broadcastCabinet := d.notAll
  simp only [State.request, d.hears_eq, h15, Bool.not_true, Bool.false_eq_true, if_false]
  rw [if_pos d.here]
  rfl

/-- R177: the store takes setup requests. -/
theorem State.storeBusy_false {s : State} (h : s.store = .idle ∨ s.store = .blank) : s.storeBusy = false := by
  unfold State.storeBusy; rcases h with h | h <;> rw [h]

/-- R167: an accepted request passes the port's checks. -/
theorem Accepted.portCheck_eq {s : State} {h : Header} {need : Need} (a : Accepted s h need) :
    (s.take h.port).portCheck h need = none := by
  unfold State.portCheck
  have hb : (need == .setup && (s.take h.port).storeBusy) = false := by
    by_cases hn : need = .setup
    · have := State.storeBusy_false (a.free hn)
      simp [State.storeBusy] at this ⊢
      simp [this]
    · cases need <;> first | rfl | exact absurd rfl hn
  simp [a.fits, a.role, hb]

/-- R167, R168: an accepted request is handed to its block and answered. -/
theorem State.request_accepted {s : State} {h : Header} {need : Need} (a : Accepted s h need) (code : Nat)
    (cast : State → Option State) (serve : State → Served) :
    s.request h code need cast serve = (s.take h.port).answer h.port code (serve (s.take h.port)) := by
  rw [State.request_direct a.toDirect, a.portCheck_eq]

/-- R163: a port that does not hear leaves a packet alone. -/
theorem State.request_unheard {s : State} {h : Header} (hh : s.hears h.port = false) (code : Nat) (need : Need)
    (cast : State → Option State) (serve : State → Served) : s.request h code need cast serve = s := by
  simp [State.request, hh]

/-- R164, outcome 5: a packet for another cabinet is ignored. -/
theorem State.request_foreign {s : State} {h : Header} (hh : s.hears h.port = true) (h1 : h.cabinet ≠ 15)
    (h2 : h.cabinet ≠ s.address) (code : Nat) (need : Need) (cast : State → Option State) (serve : State → Served) :
    s.request h code need cast serve = s.hunt h.port := by
  have h15 : h.cabinet ≠ Config.broadcastCabinet := h1
  simp [State.request, hh, h15, h2]

/-- R166: a broadcast. -/
theorem State.request_broadcast {s : State} {h : Header} (hh : s.hears h.port = true) (h1 : h.cabinet = 15) (code : Nat)
    (need : Need) (cast : State → Option State) (serve : State → Served) :
    s.request h code need cast serve = s.broadcast h cast := by
  have h15 : h.cabinet = Config.broadcastCabinet := h1
  simp [State.request, hh, h15]

/-! ### What every request keeps -/

/-- What the port's own work, the block and the broadcast form keep, the request keeps. -/
theorem State.request_keeps {P : State → Prop} (hport : ∀ s p f, P s → P (s.updPort p f)) (htake : ∀ s p, P s → P (s.take p))
    {s : State} {h : Header} {code : Nat} {need : Need} {cast : State → Option State} {serve : State → Served}
    (hserve : ∀ s, P s → P (serve s).st) (hcast : ∀ s t, P s → cast s = some t → P t) (hs : P s) :
    P (s.request h code need cast serve) := by
  unfold State.request
  split
  · exact hs
  split
  · unfold State.broadcast
    have h1 : P ((s.take h.port).hunt h.port) := hport _ _ _ (htake _ _ hs)
    simp only
    split
    · next t ht =>
      split at ht
      · exact hcast _ _ h1 ht
      · cases ht
    · exact hport _ _ _ h1
  split
  · unfold State.direct
    refine hport _ _ _ ?_
    split
    · exact htake _ _ hs
    · exact hserve _ (htake _ _ hs)
  · exact hport _ _ _ hs

theorem noCast_keeps {P : State → Prop} (s t : State) (_ : P s) (h : noCast s = some t) : P t := by cases h

end Sys2Proof.Machine
end

