-- ==== Sys2Proof/Laws/Board.lean ====
section
/-! SUPPORT. What evaluations, hands and wakes do to the evaluation records and the sign records: each operation's whole
effect on them, stated once. -/

namespace Sys2Proof.Machine

/-! ### Settling and hands -/

/-- R98: settling a sign changes its line alone. -/
theorem State.settleSign_eq (s : State) (i : SignId) : ∃ ls, s.settleSign i = { s with lines := ls } := by
  unfold State.settleSign
  repeat' split
  all_goals exact ⟨_, rfl⟩

@[simp] theorem State.settleSign_signs (s : State) (i : SignId) : (s.settleSign i).signs = s.signs := by
  obtain ⟨ls, h⟩ := s.settleSign_eq i; rw [h]
@[simp] theorem State.settleSign_sign (s : State) (i k : SignId) : (s.settleSign i).sign k = s.sign k := by
  obtain ⟨ls, h⟩ := s.settleSign_eq i; rw [h]; rfl
@[simp] theorem State.settleSign_evals (s : State) (i : SignId) : (s.settleSign i).evals = s.evals := by
  obtain ⟨ls, h⟩ := s.settleSign_eq i; rw [h]
@[simp] theorem State.settleSign_quiet (s : State) (i : SignId) : (s.settleSign i).quiet = s.quiet := by
  obtain ⟨ls, h⟩ := s.settleSign_eq i; rw [h]
@[simp] theorem State.settleSign_setup (s : State) (i : SignId) : (s.settleSign i).setup = s.setup := by
  obtain ⟨ls, h⟩ := s.settleSign_eq i; rw [h]
@[simp] theorem State.settleSign_mapping (s : State) (i k : SignId) : (s.settleSign i).mapping k = s.mapping k := by
  obtain ⟨ls, h⟩ := s.settleSign_eq i; rw [h]; rfl
@[simp] theorem State.settleSign_ports (s : State) (i : SignId) : (s.settleSign i).ports = s.ports := by
  obtain ⟨ls, h⟩ := s.settleSign_eq i; rw [h]
@[simp] theorem State.settleSign_notices (s : State) (i : SignId) : (s.settleSign i).notices = s.notices := by
  obtain ⟨ls, h⟩ := s.settleSign_eq i; rw [h]

/-- R98, R99, R108: the record of a sign after a hand. -/
theorem State.hand_sign_self (s : State) (i : SignId) (d : Option Digests) (o : Origin) (forced : Bool) :
    (s.hand i d o forced).sign i =
      if (s.sign i).test.isSome then (if forced then { s.sign i with delivered := none } else s.sign i)
      else { s.sign i with wanted := d, origin := o, delivered := if forced then none else (s.sign i).delivered } := by
  unfold State.hand
  simp only
  split
  · split <;> simp
  · simp

/-- A hand reaches one sign record. -/
theorem State.hand_sign_of_ne (s : State) {i k : SignId} (h : k ≠ i) (d : Option Digests) (o : Origin) (forced : Bool) :
    (s.hand i d o forced).sign k = s.sign k := by
  unfold State.hand
  simp only
  split
  · split
    · simp [State.sign_setSign, h]
    · rfl
  · simp [State.sign_setSign, h]

@[simp] theorem State.hand_evals (s : State) (i : SignId) (d : Option Digests) (o : Origin) (forced : Bool) :
    (s.hand i d o forced).evals = s.evals := by
  unfold State.hand
  simp only
  split
  · split <;> simp
  · simp

@[simp] theorem State.hand_quiet (s : State) (i : SignId) (d : Option Digests) (o : Origin) (forced : Bool) :
    (s.hand i d o forced).quiet = s.quiet := by
  unfold State.hand
  simp only
  split
  · split <;> simp
  · simp

@[simp] theorem State.hand_mapping (s : State) (i k : SignId) (d : Option Digests) (o : Origin) (forced : Bool) :
    (s.hand i d o forced).mapping k = s.mapping k :=
  mapping_of_desk (desk_of_offBoard (s.hand_offBoard i d o forced)) k

@[simp] theorem State.handRoom_evals (s : State) (r : RoomId) (old new : EvalRecord) (o : Origin) (forced : Bool) :
    (s.handRoom r old new o forced).evals = s.evals := by
  refine foldl_same State.evals _ (fun t i => ?_) allSigns s
  split
  · rfl
  · split <;> simp

@[simp] theorem State.handRoom_quiet (s : State) (r : RoomId) (old new : EvalRecord) (o : Origin) (forced : Bool) :
    (s.handRoom r old new o forced).quiet = s.quiet := by
  refine foldl_same State.quiet _ (fun t i => ?_) allSigns s
  split
  · rfl
  · split <;> simp

/-- R38: a room's hands reach the signs mapped to it alone. -/
theorem State.handRoom_sign_of_other (s : State) (r : RoomId) (old new : EvalRecord) (o : Origin) (forced : Bool) (k : SignId)
    (h : (s.mapping k).map Mapping.room ≠ some r) : (s.handRoom r old new o forced).sign k = s.sign k := by
  have key := foldl_keeps (fun t => (∀ i, t.mapping i = s.mapping i) ∧ t.sign k = s.sign k)
    (fun t i => match t.mapping i with
      | none => t
      | some m => if m.room = r ∧ (forced || formChanged old new m.role) = true then t.hand i (new.digests m.role) o forced
          else t) ?_ allSigns s ⟨fun _ => rfl, rfl⟩
  · exact key.2
  · rintro t i ⟨h1, h2⟩
    split
    · exact ⟨h1, h2⟩
    · next m hm =>
      split
      · next hr =>
        refine ⟨fun j => by rw [State.hand_mapping, h1], ?_⟩
        have hk : k ≠ i := by
          intro e
          subst e
          exact h (by rw [← h1, hm]; exact congrArg some hr.1)
        rw [State.hand_sign_of_ne _ hk, h2]
      · exact ⟨h1, h2⟩

/-! ### Waking -/

@[simp] theorem State.wakeLines_evals (s : State) : s.wakeLines.evals = s.evals := rfl
@[simp] theorem State.wakeLines_signs (s : State) : s.wakeLines.signs = s.signs := rfl
@[simp] theorem State.wakeLines_sign (s : State) (i : SignId) : s.wakeLines.sign i = s.sign i := rfl
@[simp] theorem State.wakeLines_quiet (s : State) : s.wakeLines.quiet = .awake := rfl

/-- R148: a wake sends the QUIET lines to WAKING and leaves the others. -/
theorem State.wakeLines_line (s : State) (l : LineId) :
    s.wakeLines.line l = if (s.line l).mode == .quiet then (s.line l).wake else s.line l := by
  simp [State.wakeLines, State.line]

@[simp] theorem State.wakeCause_evals (s : State) : s.wakeCause.evals = s.evals := by
  unfold State.wakeCause; split <;> rfl
@[simp] theorem State.wakeCause_sign (s : State) (i : SignId) : s.wakeCause.sign i = s.sign i := by
  unfold State.wakeCause; split <;> rfl
@[simp] theorem State.wakeCause_eval (s : State) (r : RoomId) : s.wakeCause.eval r = s.eval r := by
  unfold State.wakeCause; split <;> rfl
@[simp] theorem State.exitCheck_evals (s : State) : s.exitCheck.evals = s.evals := by
  unfold State.exitCheck; split <;> rfl
@[simp] theorem State.quietSettled_evals (s : State) : s.quietSettled.evals = s.evals := by
  unfold State.quietSettled; split <;> rfl
@[simp] theorem State.quietSettled_signs (s : State) : s.quietSettled.signs = s.signs := by
  unfold State.quietSettled; split <;> rfl
@[simp] theorem State.quietSettled_lines (s : State) : s.quietSettled.lines = s.lines := by
  unfold State.quietSettled; split <;> rfl
@[simp] theorem State.entryCheck_evals (s : State) : s.entryCheck.evals = s.evals := by
  unfold State.entryCheck; split
  · rw [State.quietSettled_evals]
  · rfl
@[simp] theorem State.entryCheck_signs (s : State) : s.entryCheck.signs = s.signs := by
  unfold State.entryCheck; split
  · rw [State.quietSettled_signs]
  · rfl
@[simp] theorem State.entryCheck_lines (s : State) : s.entryCheck.lines = s.lines := by
  unfold State.entryCheck; split
  · rw [State.quietSettled_lines]
  · rfl

/-! ### Evaluations -/

/-- R36, R38: the evaluation record that an evaluation of an enabled room writes, from what the state holds. -/
def State.computed (s : State) (r : RoomId) : EvalRecord :=
  evaluation (s.roomSetup r) (s.timetable r) (shownNotice s.notices r) s.clock

theorem computed_of_desk {s t : State} (h : t.desk = s.desk) (r : RoomId) : t.computed r = s.computed r := by
  rw [State.computed, roomSetup_of_desk h, timetable_of_desk h, notices_of_desk h, clock_of_desk h]; rfl

theorem State.evaluateRoom_desk (s : State) (r : RoomId) (o : Origin) (forced : Bool) :
    (s.evaluateRoom r o forced).desk = s.desk := desk_of_offBoard (s.evaluateRoom_offBoard r o forced)

theorem State.eval_of_evals {s t : State} (h : t.evals = s.evals) (r : RoomId) : t.eval r = s.eval r := by
  rw [State.eval, h]; rfl

/-- R38, R40: what an evaluation writes of its own room. -/
theorem State.evaluateRoom_eval_self (s : State) (r : RoomId) (o : Origin) (forced : Bool) :
    (s.evaluateRoom r o forced).eval r =
      if (s.roomSetup r).enabled then s.computed r else if forced then .disabled else s.eval r := by
  unfold State.evaluateRoom State.computed
  simp only
  split
  · split
    · rw [State.wakeCause_eval, State.eval_of_evals (State.handRoom_evals _ r _ _ o forced)]; simp
    · rw [State.eval_of_evals (State.handRoom_evals _ r _ _ o forced)]; simp
  · split <;> simp

/-- R38: an evaluation writes no other room's record. -/
theorem State.evaluateRoom_eval_of_ne (s : State) {r k : RoomId} (h : k ≠ r) (o : Origin) (forced : Bool) :
    (s.evaluateRoom r o forced).eval k = s.eval k := by
  unfold State.evaluateRoom
  simp only
  split
  · split
    · rw [State.wakeCause_eval, State.eval_of_evals (State.handRoom_evals _ r _ _ o forced), State.eval_setEval_of_ne _ h]
    · rw [State.eval_of_evals (State.handRoom_evals _ r _ _ o forced), State.eval_setEval_of_ne _ h]
  · split
    · rw [State.eval_setEval_of_ne _ h]
    · rfl

/-- R38: an evaluation reaches the signs mapped to its room alone. -/
theorem State.evaluateRoom_sign_of_other (s : State) (r : RoomId) (o : Origin) (forced : Bool) (k : SignId)
    (h : (s.mapping k).map Mapping.room ≠ some r) : (s.evaluateRoom r o forced).sign k = s.sign k := by
  unfold State.evaluateRoom
  simp only
  split
  · split
    · rw [State.wakeCause_sign, State.handRoom_sign_of_other (s.setEval r _) r _ _ o forced k h]; simp
    · rw [State.handRoom_sign_of_other (s.setEval r _) r _ _ o forced k h]; simp
  · split <;> simp

/-- R37, R38: what a run of evaluations writes: the record computed from the state, for every enabled room it names. -/
theorem evaluate_list_eval (p : RoomId → Bool) (o : Origin) (l : List RoomId) (k : RoomId) : ∀ s : State,
    (l.foldl (fun s r => if p r then s.evaluateRoom r o false else s) s).eval k =
      if k ∈ l ∧ p k = true ∧ (s.roomSetup k).enabled = true then s.computed k else s.eval k := by
  induction l with
  | nil => intro s; simp
  | cons r l ih =>
    intro s
    rw [List.foldl_cons, ih]
    by_cases hp : p r = true
    · simp only [hp, if_true]
      have hd := s.evaluateRoom_desk r o false
      rw [computed_of_desk hd, roomSetup_of_desk hd]
      by_cases hk : k = r
      · subst hk
        rw [State.evaluateRoom_eval_self]
        by_cases he : (s.roomSetup k).enabled = true <;> simp [he, hp]
      · rw [State.evaluateRoom_eval_of_ne _ hk]
        simp [hk]
    · have hpf : p r = false := by simpa using hp
      simp only [hpf, Bool.false_eq_true, if_false]
      by_cases hk : k = r
      · subst hk; simp [hpf]
      · simp [hk]

/-- R37, R38: the evaluation records after the rooms an event names are evaluated. -/
theorem State.evaluateRooms_eval (s : State) (p : RoomId → Bool) (o : Origin) (k : RoomId) :
    (s.evaluateRooms p o).eval k =
      if p k = true ∧ (s.roomSetup k).enabled = true then s.computed k else s.eval k := by
  have h := evaluate_list_eval p o allRooms k s
  simpa [State.evaluateRooms, allRooms] using h

/-- R37: the evaluation records after every enabled room is evaluated. -/
theorem State.evaluateAll_eval (s : State) (o : Origin) (k : RoomId) :
    (s.evaluateAll o).eval k = if (s.roomSetup k).enabled = true then s.computed k else s.eval k := by
  have h := s.evaluateRooms_eval (fun _ => true) o k
  simpa [State.evaluateAll] using h

/-- R38: the evaluation of the rooms an event names reaches the signs mapped to them alone. -/
theorem State.evaluateRooms_sign_of_other (s : State) (p : RoomId → Bool) (o : Origin) (k : SignId)
    (h : ∀ m, s.mapping k = some m → p m.room = false) : (s.evaluateRooms p o).sign k = s.sign k := by
  have key := foldl_keeps (fun t => t.mapping k = s.mapping k ∧ t.sign k = s.sign k)
    (fun t r => if p r then t.evaluateRoom r o false else t) ?_ allRooms s ⟨rfl, rfl⟩
  · exact key.2
  · rintro t r ⟨h1, h2⟩
    split
    · next hp =>
      refine ⟨by rw [mapping_of_desk (t.evaluateRoom_desk r o false), h1], ?_⟩
      rw [State.evaluateRoom_sign_of_other, h2]
      intro e
      rw [h1] at e
      cases hm : s.mapping k with
      | none => rw [hm] at e; cases e
      | some m =>
        rw [hm] at e
        have e2 : m.room = r := Option.some.inj e
        have := h m hm
        rw [e2, hp] at this
        cases this
    · exact ⟨h1, h2⟩

/-- R39, R40: the evaluation records after a forced evaluation. -/
theorem forced_list_eval (l : List RoomId) (k : RoomId) : ∀ s : State,
    (l.foldl (fun s r => s.evaluateRoom r .setup true) s).eval k =
      if k ∈ l then (if (s.roomSetup k).enabled then s.computed k else .disabled) else s.eval k := by
  induction l with
  | nil => intro s; simp
  | cons r l ih =>
    intro s
    rw [List.foldl_cons, ih]
    have hd := s.evaluateRoom_desk r .setup true
    rw [computed_of_desk hd, roomSetup_of_desk hd]
    by_cases hk : k = r
    · subst hk
      rw [State.evaluateRoom_eval_self]
      by_cases he : (s.roomSetup k).enabled = true <;> simp [he]
    · rw [State.evaluateRoom_eval_of_ne _ hk]
      simp [hk]

/-- R39, R40: a forced evaluation writes every room: computed when enabled, the disabled form otherwise. -/
theorem State.forcedEvaluation_eval (s : State) (k : RoomId) :
    s.forcedEvaluation.eval k = if (s.roomSetup k).enabled then s.computed k else .disabled := by
  have h := forced_list_eval allRooms k s
  simpa [State.forcedEvaluation, allRooms] using h

end Sys2Proof.Machine
end

