-- ==== Sys2Proof/Laws/Evaluated.lean ====
section
/-! SUPPORT. What a run of evaluations leaves, whole: boards, sign records, quiet state and lines. -/

namespace Sys2Proof.Machine

/-! ### Lines that keep still -/

theorem LineRecord.Still.refl (a : LineRecord) : a.Still a :=
  ⟨rfl, rfl, rfl, rfl, rfl, rfl, rfl, rfl, rfl, rfl, fun h => ⟨h, rfl⟩⟩

theorem LineRecord.Still.trans {a b c : LineRecord} (h : a.Still b) (k : b.Still c) : a.Still c :=
  ⟨k.mode.trans h.mode, k.transmitter.trans h.transmitter, k.settle.trans h.settle, k.roll.trans h.roll,
   k.interval.trans h.interval, k.extras.trans h.extras, k.trips.trans h.trips, k.excess.trans h.excess,
   k.hold.trans h.hold, k.budget.trans h.budget,
   fun n => ⟨(k.flying (h.flying n).1).1, ((k.flying (h.flying n).1).2).trans (h.flying n).2⟩⟩

theorem LineRecord.join_still (ln : LineRecord) (i : SignId) : ln.Still (ln.join i) := by
  unfold LineRecord.join
  split
  · exact .refl _
  · exact ⟨rfl, rfl, rfl, rfl, rfl, rfl, rfl, rfl, rfl, rfl, fun h => ⟨h, rfl⟩⟩

theorem LineRecord.leave_still (ln : LineRecord) (i : SignId) : ln.Still (ln.leave i) :=
  ⟨rfl, rfl, rfl, rfl, rfl, rfl, rfl, rfl, rfl, rfl, fun h => ⟨h, rfl⟩⟩

/-- With no sign twice in a job list, every job of a sign is the one jobOf finds. -/
theorem job_unique {jobs : List Job} (n : (jobs.map Job.sign).Nodup) {i : SignId} {j : Job}
    (hj : jobs.find? (fun j => j.sign == i) = some j) : ∀ k ∈ jobs, k.sign = i → k = j := by
  intro k hk hi
  have hjm := List.mem_of_find?_eq_some hj
  have hjs : j.sign = i := by have := List.find?_some hj; simpa using this
  exact List.inj_on_of_nodup_map n hk hjm (hi.trans hjs.symm)

/-- A READY job's removal leaves the jobs in flight. -/
theorem LineRecord.dropJob_still {ln : LineRecord} {i : SignId} {j : Job} (hj : ln.jobOf i = some j)
    (hr : j.isReady = true) : ln.Still (ln.dropJob i) := by
  refine ⟨rfl, rfl, rfl, rfl, rfl, rfl, rfl, rfl, rfl, rfl, fun n => ⟨?_, ?_⟩⟩
  · exact (List.Sublist.map Job.sign List.filter_sublist).nodup n
  · show (ln.jobs.filter _).filter _ = _
    rw [List.filter_filter]
    apply List.filter_congr
    intro k hk
    by_cases hi : k.sign = i
    · have := job_unique n hj k hk hi
      subst this
      have : Job.inFlight k = false := by simpa [Job.inFlight, Job.isReady] using hr
      simp [this]
    · simp [hi]

/-- A READY job's change leaves the jobs in flight, as long as it stays READY and keeps its sign. -/
theorem LineRecord.updJob_still {ln : LineRecord} {i : SignId} {j : Job} (hj : ln.jobOf i = some j)
    (hr : j.isReady = true) (f : Job → Job) (hs : ∀ x, (f x).sign = x.sign) (hf : ∀ x, (f x).state = x.state) :
    ln.Still (ln.updJob i f) := by
  refine ⟨rfl, rfl, rfl, rfl, rfl, rfl, rfl, rfl, rfl, rfl, fun n => ⟨?_, ?_⟩⟩
  · have : (ln.updJob i f).jobs.map Job.sign = ln.jobs.map Job.sign := by
      show (ln.jobs.map _).map _ = _
      rw [List.map_map]
      apply List.map_congr_left
      intro x _
      simp only [Function.comp]
      split <;> simp [hs]
    rw [this]; exact n
  · show (ln.jobs.map _).filter _ = _
    have key : ∀ l : List Job, (∀ k ∈ l, k.sign = i → k = j) →
        (l.map (fun k => if k.sign == i then f k else k)).filter Job.inFlight = l.filter Job.inFlight := by
      intro l
      induction l with
      | nil => intro _; rfl
      | cons x l ih =>
        intro h
        have ih' := ih (fun k hk => h k (List.mem_cons_of_mem _ hk))
        simp only [beq_iff_eq] at ih'
        by_cases hx : x.sign = i
        · have hxj := h x (List.mem_cons_self ..) hx
          have h1 : Job.inFlight x = false := by
            rw [hxj]; simpa [Job.inFlight, Job.isReady] using hr
          have h2 : Job.inFlight (f x) = false := by
            simpa [Job.inFlight, hf] using h1
          simp [hx, h1, h2, ih']
        · simp [hx, List.filter_cons, ih']
    exact key ln.jobs (job_unique n hj)

/-! ### States whose lines keep still -/

/-- Every line keeps still, and the quiet state is as before. -/
structure AllStill (s t : State) : Prop where
  lines : ∀ l, (s.line l).Still (t.line l)
  quiet : t.quiet = s.quiet

theorem AllStill.refl (s : State) : AllStill s s := ⟨fun _ => .refl _, rfl⟩

theorem AllStill.trans {a b c : State} (h : AllStill a b) (k : AllStill b c) : AllStill a c :=
  ⟨fun l => (h.lines l).trans (k.lines l), k.quiet.trans h.quiet⟩

theorem AllStill.of_lines {s t : State} (h : t.lines = s.lines) (q : t.quiet = s.quiet) : AllStill s t :=
  ⟨fun l => by rw [show t.line l = s.line l by simp [State.line, h]]; exact .refl _, q⟩

theorem AllStill.setSign (s : State) (i : SignId) (g : SignRecord) : AllStill s (s.setSign i g) := .of_lines rfl rfl

theorem AllStill.setEval (s : State) (r : RoomId) (e : EvalRecord) : AllStill s (s.setEval r e) := .of_lines rfl rfl

theorem AllStill.updLine (s : State) (k : LineId) (f : LineRecord → LineRecord) (h : (s.line k).Still (f (s.line k))) :
    AllStill s (s.updLine k f) := by
  refine ⟨fun l => ?_, rfl⟩
  rw [State.line_updLine]
  split
  · next e => rw [e]; exact h
  · exact .refl _

/-- R98: settling keeps every line still. -/
theorem State.settleSign_still (s : State) (i : SignId) : AllStill s (s.settleSign i) := by
  unfold State.settleSign
  split
  · exact .refl _
  · split
    · next j hj =>
      split
      · next hr =>
        split
        · exact .updLine _ _ _ (LineRecord.dropJob_still hj hr)
        · exact .updLine _ _ _ (LineRecord.updJob_still hj hr _ (fun _ => rfl) (fun _ => rfl))
      · exact .updLine _ _ _ (LineRecord.join_still _ _)
    · split
      · split
        · exact .updLine _ _ _ (LineRecord.leave_still _ _)
        · exact .updLine _ _ _ (LineRecord.join_still _ _)
      · exact .refl _

/-- R98, R99: a hand keeps every line still. -/
theorem State.hand_still (s : State) (i : SignId) (d : Option Digests) (o : Origin) (forced : Bool) :
    AllStill s (s.hand i d o forced) := by
  unfold State.hand
  simp only
  split
  · split
    · exact (AllStill.setSign s i _).trans (State.settleSign_still _ _)
    · exact .refl _
  · exact (AllStill.setSign s i _).trans (State.settleSign_still _ _)

/-- R38: a room's hands keep every line still. -/
theorem State.handRoom_still (s : State) (r : RoomId) (old new : EvalRecord) (o : Origin) (forced : Bool) :
    AllStill s (s.handRoom r old new o forced) := by
  refine foldl_keeps (AllStill s) _ ?_ allSigns s (.refl s)
  intro t i h
  split
  · exact h
  · split
    · exact h.trans (State.hand_still _ _ _ _ _)
    · exact h

/-! ### The signs of an evaluated room -/

/-- R56, R98: the sign records after a room's hands. -/
theorem hand_list_sign (r : RoomId) (old new : EvalRecord) (o : Origin) (l : List SignId) (hl : l.Nodup) (k : SignId) :
    ∀ s : State, (l.foldl (fun s i => match s.mapping i with
      | none => s
      | some m => if m.room = r ∧ (false || formChanged old new m.role) = true then s.hand i (new.digests m.role) o false
          else s) s).sign k =
      match s.mapping k with
      | none => s.sign k
      | some m => if k ∈ l ∧ m.room = r then (s.sign k).handed m.role old new o else s.sign k := by
  induction l with
  | nil => intro s; cases s.mapping k <;> simp
  | cons i l ih =>
    intro s
    obtain ⟨hi, hl'⟩ := List.nodup_cons.mp hl
    rw [List.foldl_cons, ih hl']
    by_cases hk : k = i
    · subst hk
      cases hm : s.mapping k with
      | none => simp [hm]
      | some m =>
        simp only [Bool.false_or]
        by_cases hr : m.room = r
        · by_cases hf : formChanged old new m.role = true
          · simp only [hr, hf, and_self, if_true, State.hand_mapping, hm, hi, false_and, if_false]
            rw [State.hand_sign_self]
            simp only [List.mem_cons, true_or, if_true, SignRecord.handed, hf, and_true]
            cases (s.sign k).test <;> simp
          · simp [hr, hf, hm, hi, SignRecord.handed]
        · simp [hr, hm]
    · have hs : (match s.mapping i with
          | none => s
          | some m => if m.room = r ∧ (false || formChanged old new m.role) = true then
              s.hand i (new.digests m.role) o false else s).sign k = s.sign k ∧
          (match s.mapping i with
          | none => s
          | some m => if m.room = r ∧ (false || formChanged old new m.role) = true then
              s.hand i (new.digests m.role) o false else s).mapping k = s.mapping k := by
        split
        · exact ⟨rfl, rfl⟩
        · split
          · exact ⟨State.hand_sign_of_ne _ hk _ _ _, State.hand_mapping _ _ _ _ _ _⟩
          · exact ⟨rfl, rfl⟩
      rw [hs.1, hs.2]
      cases s.mapping k <;> simp [hk]

theorem State.handRoom_sign (s : State) (r : RoomId) (old new : EvalRecord) (o : Origin) (k : SignId) :
    (s.handRoom r old new o false).sign k = match s.mapping k with
      | none => s.sign k
      | some m => if m.room = r then (s.sign k).handed m.role old new o else s.sign k := by
  refine (hand_list_sign r old new o allSigns (List.nodup_finRange 96) k s).trans ?_
  cases s.mapping k <;> simp [allSigns]

/-! ### Evaluations -/

/-- R148: either every line keeps still, or the lines were woken: QUIET ones are WAKING, and the others keep still. -/
def Stirred (s t : State) : Prop :=
  AllStill s t ∨ (QuietState.asleep s.quiet = true ∧ t.quiet = .awake ∧
    ∀ l, if (s.line l).mode = .quiet then (t.line l).mode = .waking else (s.line l).Still (t.line l))

theorem Stirred.refl (s : State) : Stirred s s := .inl (.refl s)

theorem Stirred.trans {a b c : State} (h : Stirred a b) (k : Stirred b c) : Stirred a c := by
  rcases h with h | ⟨h1, h2, h3⟩
  · rcases k with k | ⟨k1, k2, k3⟩
    · exact .inl (h.trans k)
    · refine .inr ⟨by rw [← h.quiet]; exact k1, k2, fun l => ?_⟩
      have hl := h.lines l
      have kl := k3 l
      rw [hl.mode] at kl
      split at kl
      · next e => simp [e, kl]
      · next e => simpa [e] using hl.trans kl
  · rcases k with k | ⟨k1, k2, k3⟩
    · refine .inr ⟨h1, by rw [k.quiet, h2], fun l => ?_⟩
      have hl := h3 l
      have kl := k.lines l
      split at hl
      · next e => simp only [e, if_true]; rw [kl.mode, hl]
      · next e => simpa [e] using hl.trans kl
    · rw [h2] at k1; cases k1

theorem State.wakeCause_stirred (s : State) : Stirred s s.wakeCause := by
  unfold State.wakeCause
  split
  · next h =>
    refine .inr ⟨h, rfl, fun l => ?_⟩
    rw [State.wakeLines_line]
    split
    · next e => simp [e, LineRecord.wake]
    · next e => simp only [beq_iff_eq, e, if_false]; exact .refl _
  · exact .refl _

/-- R98, R148: an evaluation's effect on lines and quiet state. -/
theorem State.evaluateRoom_stirred (s : State) (r : RoomId) (o : Origin) (forced : Bool) :
    Stirred s (s.evaluateRoom r o forced) := by
  unfold State.evaluateRoom
  simp only
  split
  · have h : Stirred s ((s.setEval r (evaluation (s.roomSetup r) (s.timetable r) (shownNotice s.notices r) s.clock)).handRoom r
        (s.eval r) (evaluation (s.roomSetup r) (s.timetable r) (shownNotice s.notices r) s.clock) o forced) :=
      .inl ((AllStill.setEval s r _).trans (State.handRoom_still _ _ _ _ _ _))
    split
    · exact h.trans (State.wakeCause_stirred _)
    · exact h
  · split
    · exact .inl (AllStill.setEval s r _)
    · exact .refl _

/-- R148: the quiet state after one evaluation. -/
theorem State.evaluateRoom_quiet (s : State) (r : RoomId) (o : Origin) :
    (s.evaluateRoom r o false).quiet = if QuietState.asleep s.quiet = true ∧ (s.roomSetup r).enabled = true ∧
      roomWakes s.setup.quiet (s.computed r) = true then .awake else s.quiet := by
  unfold State.evaluateRoom State.computed
  simp only
  split
  · next he =>
    have hset : ∀ new : EvalRecord, ((s.setEval r new).handRoom r (s.eval r) new o false).setup = s.setup := fun new =>
      setup_of_desk (desk_of_offBoard
        ((State.handRoom_offBoard (s.setEval r new) r (s.eval r) new o false).trans (State.setEval_offBoard s r new)))
    rw [hset]
    split
    · next hw =>
      unfold State.wakeCause
      rw [State.handRoom_quiet]
      by_cases ha : QuietState.asleep s.quiet = true <;> simp [ha, he, hw]
    · next hw => rw [State.handRoom_quiet]; simp [hw]
  · next he => simp [he]

/-- R56, R98: the sign records after one evaluation. -/
theorem State.evaluateRoom_sign (s : State) (r : RoomId) (o : Origin) (k : SignId) :
    (s.evaluateRoom r o false).sign k = match s.mapping k with
      | none => s.sign k
      | some m => if m.room = r ∧ (s.roomSetup r).enabled = true then
          (s.sign k).handed m.role (s.eval r) (s.computed r) o else s.sign k := by
  unfold State.evaluateRoom State.computed
  simp only
  have key : ∀ new : EvalRecord, ((s.setEval r new).handRoom r (s.eval r) new o false).sign k = match s.mapping k with
      | none => s.sign k
      | some m => if m.room = r then (s.sign k).handed m.role (s.eval r) new o else s.sign k := fun new => by
    rw [State.handRoom_sign]
    rw [show (s.setEval r new).mapping k = s.mapping k from rfl, show (s.setEval r new).sign k = s.sign k from rfl]
  split
  · next he =>
    split
    · rw [State.wakeCause_sign, key]; cases s.mapping k <;> simp [he]
    · rw [key]; cases s.mapping k <;> simp [he]
  · next he => cases s.mapping k <;> simp [he]

/-- R37, R38: a run of evaluations, by room list. -/
theorem evaluate_list (p : RoomId → Bool) (o : Origin) (l : List RoomId) (hl : l.Nodup) : ∀ s : State,
    (∀ k, (l.foldl (fun s r => if p r then s.evaluateRoom r o false else s) s).sign k = match s.mapping k with
      | none => s.sign k
      | some m => if m.room ∈ l ∧ p m.room = true ∧ (s.roomSetup m.room).enabled = true then
          (s.sign k).handed m.role (s.eval m.room) (s.computed m.room) o else s.sign k) ∧
    (l.foldl (fun s r => if p r then s.evaluateRoom r o false else s) s).quiet =
      (if QuietState.asleep s.quiet = true ∧ ∃ r, r ∈ l ∧ p r = true ∧ (s.roomSetup r).enabled = true ∧
        roomWakes s.setup.quiet (s.computed r) = true then .awake else s.quiet) ∧
    Stirred s (l.foldl (fun s r => if p r then s.evaluateRoom r o false else s) s) := by
  induction l with
  | nil => intro s; exact ⟨fun k => by cases s.mapping k <;> simp, by simp, .refl s⟩
  | cons r l ih =>
    intro s
    obtain ⟨hr, hl'⟩ := List.nodup_cons.mp hl
    rw [List.foldl_cons]
    by_cases hp : p r = true
    · simp only [hp, if_true]
      have hd := s.evaluateRoom_desk r o false
      obtain ⟨h1, h2, h3⟩ := ih hl' (s.evaluateRoom r o false)
      refine ⟨fun k => ?_, ?_, (State.evaluateRoom_stirred s r o false).trans h3⟩
      · rw [h1, mapping_of_desk hd, State.evaluateRoom_sign]
        cases hm : s.mapping k with
        | none => rfl
        | some m =>
          simp only [roomSetup_of_desk hd, computed_of_desk hd]
          by_cases hk : m.room = r
          · subst hk
            simp [hr, hp]
          · rw [State.evaluateRoom_eval_of_ne _ hk]
            simp [hk]
      · rw [h2, State.evaluateRoom_quiet]
        simp only [roomSetup_of_desk hd, computed_of_desk hd, setup_of_desk hd]
        by_cases ha : QuietState.asleep s.quiet = true
        · by_cases hw : (s.roomSetup r).enabled = true ∧ roomWakes s.setup.quiet (s.computed r) = true
          · rw [if_neg (by rw [if_pos ⟨ha, hw⟩]; simp [QuietState.asleep]), if_pos ⟨ha, hw⟩,
              if_pos ⟨ha, r, List.mem_cons_self .., hp, hw.1, hw.2⟩]
          · simp only [ha, true_and, hw, if_false]
            congr 1
            simp only [List.mem_cons, eq_iff_iff]
            constructor
            · rintro ⟨q, hq, h⟩; exact ⟨q, .inr hq, h⟩
            · rintro ⟨q, hq | hq, h⟩
              · subst hq; exact absurd ⟨h.2.1, h.2.2⟩ hw
              · exact ⟨q, hq, h⟩
        · simp [ha]
    · have hpf : p r = false := by simpa using hp
      simp only [hpf, Bool.false_eq_true, if_false]
      obtain ⟨h1, h2, h3⟩ := ih hl' s
      refine ⟨fun k => ?_, ?_, h3⟩
      · rw [h1]
        cases hm : s.mapping k with
        | none => rfl
        | some m =>
          by_cases hk : m.room = r
          · subst hk; simp [hpf]
          · simp [hk]
      · rw [h2]
        congr 1
        simp only [List.mem_cons, eq_iff_iff]
        refine and_congr_right fun _ => ⟨?_, ?_⟩
        · rintro ⟨q, hq, h⟩; exact ⟨q, .inr hq, h⟩
        · rintro ⟨q, hq | hq, h⟩
          · subst hq; rw [hpf] at h; simp at h
          · exact ⟨q, hq, h⟩

/-- R36 to R38, R56, R98, R148: the whole effect of evaluating the rooms that an event names. -/
theorem State.evaluateRooms_evaluated (s : State) (p : RoomId → Bool) (o : Origin) :
    Evaluated s (s.evaluateRooms p o) p o false := by
  obtain ⟨h1, h2, h3⟩ := evaluate_list p o allRooms (List.nodup_finRange 64) s
  have hd := desk_of_offBoard (s.evaluateRooms_offBoard p o)
  have hb : ∀ r, (s.evaluateRooms p o).eval r =
      if p r = true ∧ (s.roomSetup r).enabled = true then s.computed r else s.eval r := s.evaluateRooms_eval p o
  have hall : ∀ r : RoomId, r ∈ allRooms := List.mem_finRange
  refine ⟨fun r => ?_, fun k => ?_, ?_, fun hq l => ?_, fun l hq => ?_⟩
  · rw [hb, roomSetup_of_desk hd, timetable_of_desk hd, notices_of_desk hd, clock_of_desk hd]; rfl
  · refine (h1 k).trans ?_
    cases hm : s.mapping k with
    | none => rfl
    | some m =>
      simp only [hall, true_and, roomSetup_of_desk hd, hb]
      split
      · rfl
      · rfl
  · refine h2.trans ?_
    congr 1
    simp only [Bool.false_eq_true, false_or, eq_iff_iff, hall, true_and]
    refine and_congr_right fun _ => exists_congr fun r => ?_
    rw [roomSetup_of_desk hd, setup_of_desk hd, hb]
    by_cases hp : p r = true <;> by_cases he : (s.roomSetup r).enabled = true <;> simp [hp, he]
  · have h3' : Stirred s (s.evaluateRooms p o) := h3
    rcases h3' with h | ⟨_, _, h⟩
    · exact absurd h.quiet hq
    · have := h l
      split at this
      · next e => simp [e, this]
      · next e => simp [e, this.mode]
  · have h3' : Stirred s (s.evaluateRooms p o) := h3
    rcases h3' with h | ⟨h4, h5, h⟩
    · exact h.lines l
    · have := h l
      split at this
      · next e =>
        rcases hq with hq | hq
        · rw [h5] at hq; rw [← hq] at h4; cases h4
        · exact absurd e hq
      · exact this

/-- R38: one room's evaluation is that of the rooms named by its number. -/
theorem State.evaluateRoom_evaluated (s : State) (r : RoomId) (o : Origin) :
    Evaluated s (s.evaluateRoom r o false) (fun q => q == r) o false := by
  have hd := s.evaluateRoom_desk r o false
  have hb : ∀ q, (s.evaluateRoom r o false).eval q =
      if (q == r) = true ∧ (s.roomSetup q).enabled = true then s.computed q else s.eval q := by
    intro q
    by_cases hq : q = r
    · subst hq; rw [State.evaluateRoom_eval_self]; simp
    · rw [State.evaluateRoom_eval_of_ne _ hq]; simp [hq]
  refine ⟨fun q => ?_, fun k => ?_, ?_, fun hq l => ?_, fun l hq => ?_⟩
  · rw [hb, roomSetup_of_desk hd, timetable_of_desk hd, notices_of_desk hd, clock_of_desk hd]; rfl
  · rw [State.evaluateRoom_sign]
    cases hm : s.mapping k with
    | none => rfl
    | some m =>
      simp only [roomSetup_of_desk hd, hb]
      by_cases hk : m.room = r
      · subst hk
        by_cases he : (s.roomSetup m.room).enabled = true <;> simp [he]
      · simp [hk]
  · rw [State.evaluateRoom_quiet]
    congr 1
    simp only [Bool.false_eq_true, false_or, eq_iff_iff]
    refine and_congr_right fun _ => ⟨fun h => ⟨r, by simp, ?_⟩, ?_⟩
    · rw [roomSetup_of_desk hd, setup_of_desk hd, hb]; simpa [h.1] using h
    · rintro ⟨q, hq, h⟩
      have : q = r := by simpa using hq
      subst this
      rw [roomSetup_of_desk hd, setup_of_desk hd, hb] at h
      simpa [h.1] using h
  · rcases State.evaluateRoom_stirred s r o false with h | ⟨_, _, h⟩
    · exact absurd h.quiet hq
    · have := h l
      split at this
      · next e => simp [e, this]
      · next e => simp [e, this.mode]
  · rcases State.evaluateRoom_stirred s r o false with h | ⟨h4, h5, h⟩
    · exact h.lines l
    · have := h l
      split at this
      · next e =>
        rcases hq with hq | hq
        · rw [h5] at hq; rw [← hq] at h4; cases h4
        · exact absurd e hq
      · exact this

end Sys2Proof.Machine
end

