-- ==== Sys2Proof/Laws/Delivery.lean ====
section
/-! SUPPORT. The shared operations of the pressure level, the grant, the fault handler, the line controllers, the notice
overlay and the stored copy: each one's whole effect, stated once in the terms of Safety.lean. -/

namespace Sys2Proof.Machine

/-! ### Waking -/

/-- R145: waking a line gives the line that a restore describes. -/
theorem LineRecord.wake_eq (ln : LineRecord) : ln.wake = restored ln := rfl

/-- R148: the wake of the QUIET lines, whole. -/
theorem State.wakeLines_woken (s : State) : WokenFrom s s.wakeLines := by
  intro l
  rw [State.wakeLines_line, LineRecord.wake_eq]
  cases (s.line l).mode <;> simp

/-! ### Flags and the pressure level -/

/-- A fold over all ports of changes that each touch the port's own record alone, seen at one port. -/
theorem allPorts_port (p : Port → Bool) (f : PortRecord → PortRecord) (g : State → Port → Bool)
    (hg : ∀ s q k, g (s.updPort q f) k = g s k) (s : State) (hp : ∀ q, g s q = p q) (q : Port) :
    (allPorts.foldl (fun s k => if g s k = true then s.updPort k f else s) s).port q =
      if p q = true then f (s.port q) else s.port q := by
  have h0 := hp .mp0
  have h1 := hp .mp1
  have h2 := hp .mp2
  simp only [allPorts, List.foldl_cons, List.foldl_nil]
  cases e0 : p .mp0 <;> cases e1 : p .mp1 <;> cases e2 : p .mp2 <;> rw [e0] at h0 <;> rw [e1] at h1 <;> rw [e2] at h2 <;>
    cases q <;> simp [h0, h1, h2, e0, e1, e2, hg, State.port_updPort_of_ne]

/-- R174: a source raised on all ports, seen at one port. -/
theorem State.raiseAll_port (s : State) (src : Source) (q : Port) :
    (s.raiseAll src).port q = { s.port q with raised := (s.port q).raised ||| Source.flag src } := by
  have h := allPorts_port (fun _ => true) (fun x => { x with raised := x.raised ||| Source.flag src }) (fun _ _ => true)
    (fun _ _ _ => rfl) s (fun _ => rfl) q
  simpa [State.raiseAll, State.raise] using h

/-- R169: a source raised on the ports that hold SETUP, seen at one port. -/
theorem State.raiseSetup_port (s : State) (src : Source) (q : Port) :
    (s.raiseSetup src).port q = if (s.portSetup q).roles.setup = true then
      { s.port q with raised := (s.port q).raised ||| Source.flag src } else s.port q :=
  allPorts_port (fun q => (s.portSetup q).roles.setup) (fun x => { x with raised := x.raised ||| Source.flag src })
    State.hasSetup (fun _ _ _ => rfl) s (fun _ => rfl) q

/-- R22, R23: the re-evaluation of the pressure level, whole. -/
theorem State.repress_repressed (s : State) : Repressed s s.repress := by
  unfold State.repress
  by_cases h : nextPressure s.pressure s.freeEntries s.freeCells = s.pressure
  · simp only [h, if_true]
    exact ⟨h.symm, fun q => by simp⟩
  · simp only [h, if_false]
    refine ⟨rfl, fun q => ?_⟩
    rw [State.raiseAll_port]
    exact (if_neg h).symm

/-! ### The grant -/

/-- R80: the waiter that the port order or the arrival order names is the one chosen. -/
theorem chooseWaiter_next {fairness : Bool} {l : List Waiter} {w : Waiter} (h : NextHolder fairness l w) :
    chooseWaiter fairness l = some w := by
  cases fairness with
  | true => simpa [chooseWaiter] using h.first rfl
  | false =>
    have low := h.lowest rfl
    have uniq : ∀ x ∈ l, x.port = w.port → x = w := fun x hx he => List.inj_on_of_nodup_map h.once hx h.waits he
    have found : ∀ x, l.find? (fun y => y.port == w.port) = some x → x = w := fun x hx =>
      uniq x (List.mem_of_find?_eq_some hx) (by simpa using List.find?_some hx)
    have here : l.find? (fun y => y.port == w.port) = some w := by
      cases e : l.find? (fun y => y.port == w.port) with
      | none => exact absurd h.waits (by simpa using fun hw => (List.find?_eq_none.mp e) w hw (by simp))
      | some x => rw [found x e]
    have none_below : ∀ q : Port, Port.code q < Port.code w.port → l.find? (fun y => y.port == q) = none := fun q hq =>
      List.find?_eq_none.mpr (fun x hx he => by
        have := low x hx
        rw [beq_iff_eq.mp he] at this
        omega)
    have n0 := none_below .mp0
    have n1 := none_below .mp1
    unfold chooseWaiter
    cases e : w.port <;> rw [e] at here n0 n1
    · simp only [here, Bool.false_eq_true, if_false]
    · simp only [n0 (by decide), here, Bool.false_eq_true, if_false]
    · simp only [n0 (by decide), n1 (by decide), here, Bool.false_eq_true, if_false]

/-- R79, R80: the release of the grant, whole. -/
theorem State.release_released (s : State) : Released s s.release s.arb.withdrawals := by
  refine ⟨fun h => ?_, fun w h => ?_, fun q => ?_⟩
  · have e : ∀ b, chooseWaiter b s.arb.waiters = none := fun b => by rw [h]; cases b <;> rfl
    simp only [State.release, e]
    simp [h]
  · simp [State.release, chooseWaiter_next h, State.grant, State.raise]
  · unfold State.release
    split
    · simp [State.port]
    · next w e =>
      simp only [State.raise]
      by_cases hq : q = w.port
      · subst hq
        rw [State.port_updPort_self]
        simp [State.grant, State.port]
      · rw [State.port_updPort_of_ne _ hq]
        simp [State.grant, State.port, Ne.symm hq]



/-! ### Sign faults -/

theorem PortRecord.takeFault_eq (x : PortRecord) (i : SignId) (k : FaultKind) : x.takeFault i k = x.faultTaken i k := by
  unfold PortRecord.takeFault PortRecord.faultTaken
  cases x.latch <;> simp

/-- R158: FAULT attention, seen at one port. -/
theorem State.raiseFault_port (s : State) (o : Origin) (i : SignId) (k : FaultKind) (q : Port) :
    (s.raiseFault o i k).port q = if s.faultPort o q = true then (s.port q).faultTaken i k else s.port q := by
  have h := allPorts_port (fun q => (s.portSetup q).roles.setup) (fun x => x.takeFault i k) State.hasSetup
    (fun _ _ _ => rfl) s (fun _ => rfl) q
  rw [PortRecord.takeFault_eq] at h
  cases o with
  | clock => exact h
  | setup => exact h
  | port p =>
    simp only [State.raiseFault, State.faultPort, beq_iff_eq]
    by_cases hq : p = q
    · subst hq; simp [PortRecord.takeFault_eq]
    · simp [hq, State.port_updPort_of_ne _ (Ne.symm hq)]

/-- R158: FAULT attention changes the ports alone. -/
theorem State.raiseFault_eq (s : State) (o : Origin) (i : SignId) (k : FaultKind) :
    s.raiseFault o i k = { s with ports := (s.raiseFault o i k).ports } := by
  cases o <;> simp only [State.raiseFault, allPorts, List.foldl_cons, List.foldl_nil] <;> (try rfl) <;>
    (repeat' split) <;> rfl

@[simp] theorem State.raiseFault_line (s : State) (o : Origin) (i : SignId) (k : FaultKind) (l : LineId) :
    (s.raiseFault o i k).line l = s.line l := by rw [State.raiseFault_eq]; rfl

@[simp] theorem State.raiseFault_sign (s : State) (o : Origin) (i : SignId) (k : FaultKind) (j : SignId) :
    (s.raiseFault o i k).sign j = s.sign j := by rw [State.raiseFault_eq]; rfl

/-- R110: a sign joins a queue: it is there after, and the other signs are there as before. -/
theorem LineRecord.mem_join (ln : LineRecord) (i j : SignId) : j ∈ (ln.join i).dirty ↔ j ∈ ln.dirty ∨ j = i := by
  unfold LineRecord.join
  by_cases h : i ∈ ln.dirty
  · simp only [List.contains_iff_mem, h, if_true]
    exact ⟨.inl, fun e => e.elim id (fun e => e ▸ h)⟩
  · simp [h]

/-- R110: a sign leaves a queue: it is not there after, and the other signs are there as before. -/
theorem LineRecord.mem_leave (ln : LineRecord) (i j : SignId) : j ∈ (ln.leave i).dirty ↔ j ∈ ln.dirty ∧ j ≠ i := by
  simp [LineRecord.leave]

/-- R153: what Faulted asks, from the sign's record and queue and the ports of a state. -/
theorem Faulted.of {s v : State} {l : LineId} {i : SignId} {g : SignRecord} {k : FaultKind} {o : Origin}
    (record : v.sign i = g.faulted k (s.setup.fault.modeOf k) s.setup.fault.retryTime)
    (others : ∀ j, j ≠ i → v.sign j = s.sign j)
    (queue : v.line l = if (v.sign i).fault = .none ∧ (v.sign i).matched = false then (s.line l).join i else (s.line l).leave i)
    (lines : ∀ m, m ≠ l → v.line m = s.line m)
    (ports : ∀ q, v.port q = if g.reports (s.setup.fault.modeOf k) && s.faultPort o q then (s.port q).faultTaken i k
      else s.port q) : Faulted s v l i g k o := by
  refine ⟨record, others, fun h => ?_, fun h1 h2 => ?_, fun j hj => ?_, ports, lines⟩
  · rw [queue, if_neg (by rintro ⟨h1, h2⟩; rcases h with h | h <;> simp_all), LineRecord.mem_leave]
    exact fun e => e.2 rfl
  · rw [queue, if_pos ⟨h1, h2⟩, LineRecord.mem_join]
    exact .inr rfl
  · rw [queue]
    split
    · rw [LineRecord.mem_join]; simp [hj]
    · rw [LineRecord.mem_leave]; simp [hj]

/-- R153: a fault of a sign whose fault state is NONE and which has no job, whole. -/
theorem State.applyFault_faulted {s : State} {l : LineId} {i : SignId} {m : Mapping} (hm : s.mapping i = some m)
    (hl : m.line = l) (hj : (s.line l).jobOf i = none) (hf : (s.sign i).fault = .none) (k : FaultKind) (o : Origin) :
    Faulted s (s.applyFault i k o) l i (s.sign i) k o := by
  subst hl
  have cap : Config.failureCap = 4 := rfl
  have lineNe : ∀ (t : State) (f : LineRecord → LineRecord) (n : LineId), n ≠ m.line →
      (t.updLine m.line f).line n = t.line n := fun t f n h => t.line_updLine_of_ne h f
  have signNe : ∀ (t : State) (f : SignRecord → SignRecord) (j : SignId), j ≠ i → (t.updSign i f).sign j = t.sign j :=
    fun t f j h => t.sign_updSign_of_ne h f
  have latch (hr : (s.sign i).faulted k (s.setup.fault.modeOf k) s.setup.fault.retryTime =
        { (s.sign i).countFault k with fault := .latched, retry := .stopped })
      (ha : (s.sign i).reports (s.setup.fault.modeOf k) = true) :
      Faulted s (((s.updSign i (fun g => g.countFault k)).latchSign i).raiseFault o i k) m.line i (s.sign i) k o := by
    have e : (s.updSign i (fun g => g.countFault k)).latchSign i = (((s.updSign i (fun g => g.countFault k)).updSign i
        (fun g => { g with fault := .latched, retry := .stopped })).updLine m.line (fun ln => ln.leave i)) := by
      simp [State.latchSign, State.leaveQueue, hm]
    rw [e]
    refine .of ?_ (fun j h => ?_) ?_ (fun n h => ?_) (fun q => ?_)
    · rw [hr]; simp
    · simp [signNe, h]
    · simp
    · simp [lineNe, h]
    · rw [State.raiseFault_port, ha]; rfl
  have wait (hr : (s.sign i).faulted k (s.setup.fault.modeOf k) s.setup.fault.retryTime =
        { (s.sign i).countFault k with
          fault := .retryWait, retry := if k = .absent then .presence else .running s.setup.fault.retryTime })
      (ha : (s.sign i).reports (s.setup.fault.modeOf k) = false) :
      Faulted s ((s.updSign i (fun g => g.countFault k)).waitSign i k) m.line i (s.sign i) k o := by
    have e : (s.updSign i (fun g => g.countFault k)).waitSign i k = (((s.updSign i (fun g => g.countFault k)).updSign i
        (fun g => { g with fault := .retryWait, retry := if k = .absent then .presence else .running s.setup.fault.retryTime
          })).updLine m.line (fun ln => ln.leave i)) := by
      simp [State.waitSign, State.leaveQueue, hm]
    rw [e]
    refine .of ?_ (fun j h => ?_) ?_ (fun n h => ?_) (fun q => ?_)
    · rw [hr]; simp
    · simp [signNe, h]
    · simp
    · simp [lineNe, h]
    · rw [ha]; rfl
  have settle (hr : (s.sign i).faulted k (s.setup.fault.modeOf k) s.setup.fault.retryTime = (s.sign i).countFault k)
      (v : State) (hv : v = { (s.updSign i (fun g => g.countFault k)).settleSign i with ports := v.ports })
      (ports : ∀ q, v.port q = if (s.sign i).reports (s.setup.fault.modeOf k) && s.faultPort o q then
        (s.port q).faultTaken i k else s.port q) : Faulted s v m.line i (s.sign i) k o := by
    have e : (s.updSign i (fun g => g.countFault k)).settleSign i = (s.updSign i (fun g => g.countFault k)).updLine m.line
        (fun ln => if ((s.sign i).countFault k).matched = true then ln.leave i else ln.join i) := by
      have hf2 : ((s.sign i).countFault k).fault = .none := hf
      simp only [State.settleSign, State.updSign_mapping, hm, State.updSign_line, hj, State.sign_updSign_self, hf2]
      split <;> rfl
    have hs : ∀ j, v.sign j = (s.updSign i (fun g => g.countFault k)).sign j := fun j => by rw [hv, e]; rfl
    have hlin : ∀ n, v.line n = ((s.updSign i (fun g => g.countFault k)).updLine m.line
        (fun ln => if ((s.sign i).countFault k).matched = true then ln.leave i else ln.join i)).line n :=
      fun n => by rw [hv, e]; rfl
    refine .of ?_ (fun j h => ?_) ?_ (fun n h => ?_) ports
    · rw [hs, hr]; simp
    · rw [hs, signNe _ _ _ h]
    · rw [hs, hlin]
      have hf2 : ((s.sign i).countFault k).fault = .none := hf
      simp only [State.line_updLine_self, State.sign_updSign_self, State.updSign_line, hf2, true_and]
      cases ((s.sign i).countFault k).matched <;> rfl
    · rw [hlin, lineNe _ _ _ h]; rfl
  unfold State.applyFault
  cases hk : s.setup.fault.modeOf k with
  | latch => exact latch (by rw [hk]; rfl) (by rw [hk]; rfl)
  | retry =>
    by_cases h4 : min 4 ((s.sign i).failures + 1) = 4
    · have h5 : ((s.updSign i (fun g => g.countFault k)).sign i).failures = Config.failureCap := by
        simpa [SignRecord.countFault, cap] using h4
      simp only [h5, if_true]
      refine latch ?_ ?_
      · rw [hk]; simp only [SignRecord.faulted, h4, if_true]; simp [SignRecord.countFault, cap, h4]
      · rw [hk]; simp only [SignRecord.reports, decide_eq_true_eq]; omega
    · have h5 : ((s.updSign i (fun g => g.countFault k)).sign i).failures ≠ Config.failureCap := by
        simpa [SignRecord.countFault, cap] using h4
      simp only [h5, if_false]
      refine wait ?_ ?_
      · rw [hk]; simp only [SignRecord.faulted, h4, if_false]; rfl
      · rw [hk]; simp only [SignRecord.reports, decide_eq_false_iff_not]; omega
  | report =>
    refine settle (by rw [hk]; rfl) (((s.updSign i (fun g => g.countFault k)).settleSign i).raiseFault o i k)
      (State.raiseFault_eq _ o i k) (fun q => ?_)
    rw [State.raiseFault_port, hk]
    obtain ⟨ls, h⟩ := (s.updSign i (fun g => g.countFault k)).settleSign_eq i
    rw [h]; rfl
  | ignore =>
    refine settle (by rw [hk]; rfl) _ rfl (fun q => ?_)
    rw [hk]
    obtain ⟨ls, h⟩ := (s.updSign i (fun g => g.countFault k)).settleSign_eq i
    simp only [h]; rfl

/-- R153: a fault changes the signs, the lines and the ports alone. -/
theorem State.applyFault_eq (s : State) (i : SignId) (k : FaultKind) (o : Origin) : s.applyFault i k o =
    { s with signs := (s.applyFault i k o).signs, lines := (s.applyFault i k o).lines, ports := (s.applyFault i k o).ports } := by
  have leave : ∀ t : State, ∃ ls, t.leaveQueue i = { t with lines := ls } := fun t => by
    unfold State.leaveQueue; split <;> exact ⟨_, rfl⟩
  obtain ⟨la, ha⟩ := leave ((s.updSign i (fun g => g.countFault k)).updSign i
    (fun g => { g with fault := .latched, retry := .stopped }))
  obtain ⟨lb, hb⟩ := leave ((s.updSign i (fun g => g.countFault k)).updSign i
    (fun g => { g with fault := .retryWait, retry := if k = .absent then .presence else .running s.setup.fault.retryTime }))
  obtain ⟨lc, hc⟩ := (s.updSign i (fun g => g.countFault k)).settleSign_eq i
  have ha : (s.updSign i (fun g => g.countFault k)).latchSign i = _ := ha
  have hb : (s.updSign i (fun g => g.countFault k)).waitSign i k = _ := hb
  unfold State.applyFault
  simp only [ha, hb, hc]
  split
  · rw [State.raiseFault_eq]; rfl
  · split
    · rw [State.raiseFault_eq]; rfl
    · rfl
  · rw [State.raiseFault_eq]; rfl
  · rfl

/-- R153: a fault of a sign with no job leaves the line's collections but the dirty queue. -/
theorem State.applyFault_line {s : State} {i : SignId} {m : Mapping} (hm : s.mapping i = some m)
    (hj : (s.line m.line).jobOf i = none) (k : FaultKind) (o : Origin) :
    (s.applyFault i k o).line m.line = { s.line m.line with dirty := ((s.applyFault i k o).line m.line).dirty } := by
  have leave : ∀ t : State, t.mapping i = some m → t.line m.line = s.line m.line → (t.leaveQueue i).line m.line =
      { s.line m.line with dirty := ((t.leaveQueue i).line m.line).dirty } := fun t h1 h2 => by
    simp [State.leaveQueue, h1, h2, LineRecord.leave]
  have settle : ∀ t : State, t.mapping i = some m → t.line m.line = s.line m.line → (t.settleSign i).line m.line =
      { s.line m.line with dirty := ((t.settleSign i).line m.line).dirty } := fun t h1 h2 => by
    simp only [State.settleSign, h1, h2, hj]
    split
    · split
      · simp [h2, LineRecord.leave]
      · simp only [State.line_updLine_self, h2, LineRecord.join]; split <;> rfl
    · rw [h2]
  have latch := leave ((s.updSign i (fun g => g.countFault k)).updSign i
    (fun g => { g with fault := .latched, retry := .stopped })) hm rfl
  have wait := leave ((s.updSign i (fun g => g.countFault k)).updSign i (fun g => { g with
    fault := .retryWait, retry := if k = .absent then .presence else .running s.setup.fault.retryTime })) hm rfl
  have settled := settle (s.updSign i (fun g => g.countFault k)) hm rfl
  unfold State.applyFault
  cases s.setup.fault.modeOf k with
  | latch => dsimp only; rw [State.raiseFault_line]; exact latch
  | retry =>
    dsimp only
    split
    · rw [State.raiseFault_line]; exact latch
    · exact wait
  | report => dsimp only; rw [State.raiseFault_line]; exact settled
  | ignore => exact settled

/-- Faulted reads of the line before it the dirty queue alone. -/
theorem Faulted.of_drop {s v : State} {l : LineId} {i : SignId} {g : SignRecord} {k : FaultKind} {o : Origin}
    {f : LineRecord → LineRecord} (hd : (f (s.line l)).dirty = (s.line l).dirty)
    (h : Faulted (s.updLine l f) v l i g k o) : Faulted s v l i g k o := by
  obtain ⟨h1, h2, h3, h4, h5, h6, h7⟩ := h
  refine ⟨h1, h2, h3, h4, fun j hj => ?_, h6, fun n hn => ?_⟩
  · rw [h5 j hj, State.line_updLine_self, hd]
  · rw [h7 n hn, s.line_updLine_of_ne hn]

/-- R123, R157: the failure of a job, whole. -/
theorem State.retireFailed_failed {s : State} {l : LineId} {i : SignId} {m : Mapping} {j : Job} (h : HasJob s l i m j)
    (k : FaultKind) : JobFailed s (s.retireFailed l j k) l j k := by
  obtain ⟨-, hm, hl, hj, hn, hf⟩ := h
  have hi : j.sign = i := by simpa using List.find?_some hj
  subst hi hl
  have gone : ∀ t : State, t.line m.line = (s.line m.line).dropJob j.sign → (t.line m.line).jobOf j.sign = none := by
    intro t ht
    rw [ht]
    simp [LineRecord.jobOf, LineRecord.dropJob]
  have hg : ((s.updLine m.line (fun ln => ln.dropJob j.sign)).line m.line) = (s.line m.line).dropJob j.sign := by simp
  unfold State.retireFailed
  cases hp : (s.sign j.sign).pendingAbsent with
  | none =>
    have line := State.applyFault_line (s := s.updLine m.line (fun ln => ln.dropJob j.sign)) hm (gone _ hg) k j.origin
    refine ⟨?_, ?_, ?_, fun _ => ?_, fun o ho => by simp [hp] at ho⟩
    · exact State.applyFault_eq _ _ _ _
    · rw [line]; simp [LineRecord.dropJob]
    · rw [line]; simp [LineRecord.dropJob]
    · exact .of_drop (f := fun ln => ln.dropJob j.sign) rfl
        (State.applyFault_faulted (s := s.updLine m.line (fun ln => ln.dropJob j.sign)) hm rfl (gone _ hg) hf k j.origin)
  | some o =>
    let t := (s.updLine m.line (fun ln => ln.dropJob j.sign)).updSign j.sign (fun g => { g with pendingAbsent := none })
    have hg2 : t.line m.line = (s.line m.line).dropJob j.sign := by simp [t]
    have hf2 : (t.sign j.sign).fault = .none := by simpa [t] using hf
    have line := State.applyFault_line (s := t) hm (gone t hg2) .absent o
    have e : t.applyAbsent j.sign o = t.applyFault j.sign .absent o := by
      unfold State.applyAbsent; rw [hf2]; rfl
    have faulted : Faulted s (t.applyFault j.sign .absent o) m.line j.sign { s.sign j.sign with pendingAbsent := none }
        .absent o := by
      have h := State.applyFault_faulted (s := t) hm rfl (gone t hg2) hf2 .absent o
      rw [show t.sign j.sign = { s.sign j.sign with pendingAbsent := none } by simp [t]] at h
      obtain ⟨h1, h2, h3, h4, h5, h6, h7⟩ := h
      refine ⟨h1, fun n hn => (h2 n hn).trans ?_, h3, h4, fun n hn => ?_, h6, fun n hn => (h7 n hn).trans ?_⟩
      · simp [t, State.sign_updSign_of_ne _ hn]
      · rw [h5 n hn, hg2]; rfl
      · simp [t, State.line_updLine_of_ne _ hn]
    show JobFailed s (t.applyAbsent j.sign o) m.line j k
    rw [e]
    refine ⟨?_, ?_, ?_, fun hn => by simp [hp] at hn, fun o' ho => ?_⟩
    · exact State.applyFault_eq _ _ _ _
    · rw [line, hg2]; rfl
    · rw [line, hg2]; rfl
    · cases hp.symm.trans ho; exact faulted

/-! ### Trips -/

/-- R124: the failure of jobs in flight by a trip, one sign after the other. -/
theorem retireTrip_list (l : LineId) (is : List SignId) : ∀ s : State,
    (is.foldl (fun s i => s.retireTrip l i) s).setup = s.setup ∧
    (∀ k, k ≠ l → (is.foldl (fun s i => s.retireTrip l i) s).line k = s.line k) ∧
    ((is.foldl (fun s i => s.retireTrip l i) s).line l).budget = (s.line l).budget ∧
    ((is.foldl (fun s i => s.retireTrip l i) s).line l).extras = (s.line l).extras ∧
    ((is.foldl (fun s i => s.retireTrip l i) s).line l).jobs =
      (s.line l).jobs.filter (fun j => !(is.contains j.sign)) ∧
    (∀ i, i ∈ ((is.foldl (fun s i => s.retireTrip l i) s).line l).dirty ↔ i ∈ (s.line l).dirty ∨ i ∈ is) ∧
    (∀ i, (is.foldl (fun s i => s.retireTrip l i) s).sign i =
      if i ∈ is then { s.sign i with delivered := none, pendingAbsent := none } else s.sign i) := by
  induction is with
  | nil => intro s; simp
  | cons a is ih =>
    intro s
    obtain ⟨h1, h2, h3, h4, h5, h6, h7⟩ := ih (s.retireTrip l a)
    have hl : (s.retireTrip l a).line l = ((s.line l).dropJob a).join a := by simp [State.retireTrip]
    have hb : ∀ ln : LineRecord, (ln.join a).budget = ln.budget ∧ (ln.join a).extras = ln.extras ∧ (ln.join a).jobs = ln.jobs :=
      fun ln => by unfold LineRecord.join; split <;> exact ⟨rfl, rfl, rfl⟩
    simp only [List.foldl_cons]
    refine ⟨h1, fun k hk => (h2 k hk).trans ?_, h3.trans ?_, h4.trans ?_, h5.trans ?_, fun i => (h6 i).trans ?_,
      fun i => (h7 i).trans ?_⟩
    · simp [State.retireTrip, State.line_updLine_of_ne _ hk]
    · rw [hl, (hb _).1]; rfl
    · rw [hl, (hb _).2.1]; rfl
    · rw [hl, (hb _).2.2]
      simp only [LineRecord.dropJob, List.filter_filter]
      refine List.filter_congr (fun j _ => ?_)
      by_cases ha : j.sign = a <;> simp [ha]
    · rw [hl, LineRecord.mem_join, List.mem_cons]
      simp only [LineRecord.dropJob]
      tauto
    · by_cases ha : i = a
      · subst ha
        simp only [State.retireTrip, State.sign_updSign_self, State.updLine_sign, List.mem_cons, true_or, if_true]
        split <;> rfl
      · simp only [State.retireTrip, State.sign_updSign_of_ne _ ha, State.updLine_sign, List.mem_cons, ha, false_or]

/-- R124, R143, R159: the trip of a line on which no sign has two jobs, whole. -/
theorem State.tripLine_tripped (s : State) (l : LineId) (hn : ((s.line l).jobs.map Job.sign).Nodup) :
    TrippedFrom s (s.tripLine l) l := by
  obtain ⟨h1, h2, h3, h4, h5, h6, h7⟩ := retireTrip_list l (((s.line l).jobs.filter Job.inFlight).map Job.sign) s
  have mem : ∀ i, i ∈ ((s.line l).jobs.filter Job.inFlight).map Job.sign ↔
      ∃ j ∈ (s.line l).jobs, j.sign = i ∧ j.state ≠ .ready := fun i => by
    simp only [List.mem_map, List.mem_filter, Job.inFlight, bne_iff_ne]
    exact ⟨fun ⟨j, ⟨h, r⟩, e⟩ => ⟨j, h, e, r⟩, fun ⟨j, h, e, r⟩ => ⟨j, ⟨h, r⟩, e⟩⟩
  unfold State.tripLine
  refine ⟨by simp [LineRecord.powerOff], by simp [LineRecord.powerOff], ?_, ?_, ?_, ?_, fun i => ?_, fun j hj hr => ?_⟩
  · simp only [State.line_updLine_self, FaultSetup.tripHold]
    cases s.setup.fault.trip <;> rfl
  · simp only [State.line_updLine_self, LineRecord.powerOff]
    rw [h5]
    apply List.filter_congr
    intro j hj
    rw [Bool.eq_iff_iff]
    simp only [Bool.not_eq_true', List.contains_eq_mem, decide_eq_false_iff_not, beq_iff_eq, mem]
    constructor
    · intro h
      by_contra hc
      exact h ⟨j, hj, rfl, hc⟩
    · rintro h ⟨x, hx, he, hc⟩
      exact hc ((List.inj_on_of_nodup_map hn hx hj he) ▸ h)
  · simpa [LineRecord.powerOff] using h3
  · simpa [LineRecord.powerOff] using h4
  · simp only [State.line_updLine_self, LineRecord.powerOff]
    rw [h6, mem]
  · have hm := (mem j.sign).mpr ⟨j, hj, rfl, hr⟩
    have h := h7 j.sign
    rw [if_pos hm] at h
    simpa using h

/-! ### Roll calls -/

/-- R140, R142: what follows a position of a roll call, whole. -/
theorem State.nextRoll_moved (s : State) (l : LineId) (pos : Position) (found : List Position) :
    RollMoved s (s.nextRoll l pos found) l pos found := by
  unfold State.nextRoll
  by_cases h : pos.val + 1 < 16
  · rw [dif_pos h]
    exact ⟨fun k hk => s.line_updLine_of_ne hk _, fun _ => ⟨rfl, by simp⟩, fun hp => by omega⟩
  · rw [dif_neg h]
    have lines : ∀ k, (s.raiseSetup .line).line k = s.line k := fun k => by
      simp only [State.raiseSetup, allPorts, List.foldl_cons, List.foldl_nil]
      (repeat' split) <;> rfl
    refine ⟨fun k hk => ?_, fun hp => absurd hp h, fun _ => ⟨?_, fun q => ?_⟩⟩
    · rw [State.completeRoll, State.line_updLine_of_ne _ hk]
      split
      · rfl
      · exact lines k
    · rw [State.completeRoll, State.line_updLine_self]
      split <;> simp [lines, startInterval]
    · simp only [State.completeRoll, State.updLine_port]
      by_cases he : (s.line l).extras = found
      · simp [he]
      · simp [he, State.raiseSetup_port]

/-- R142, R149: taking mapped positions off a line's lists touches the extras and the running roll call's finds alone. -/
theorem LineRecord.unlist_eq (ln : LineRecord) (mapped : Position → Bool) :
    ln.unlist mapped = { ln with extras := (ln.unlist mapped).extras, roll := (ln.unlist mapped).roll } := rfl

/-- R142: a position stays in the extras list when no sign is mapped there. -/
theorem LineRecord.mem_unlist_extras (ln : LineRecord) (mapped : Position → Bool) (pos : Position) :
    pos ∈ (ln.unlist mapped).extras ↔ pos ∈ ln.extras ∧ mapped pos = false := by
  simp [LineRecord.unlist]

/-- R149: a roll call that runs keeps its next position and its resend, and forgets the mapped positions it found. -/
theorem LineRecord.unlist_roll (ln : LineRecord) (mapped : Position → Bool) :
    (ln.unlist mapped).roll = ln.roll.map (fun rc => { rc with found := rc.found.filter (fun p => !mapped p) }) := rfl

/-! ### Which notice a room shows -/

theorem Notice.targets_iff (n : Notice) (r : RoomId) : n.targets r = true ↔ n.AimsAt r := by
  unfold Notice.targets Notice.AimsAt; cases n.target <;> simp

/-- R51: the latest notice of a level is the one with none of that level after it. -/
theorem latestOf_append {lvl : Level} {before after : List Notice} {n : Notice} (hn : n.level = lvl)
    (h : ∀ x ∈ after, x.level ≠ lvl) : latestOf lvl (before ++ n :: after) = some n := by
  have : after.filter (fun n => n.level == lvl) = [] := List.filter_eq_nil_iff.2 (by simpa using h)
  simp [latestOf, List.filter_append, hn, this]

/-! ### The stored copy -/

/-- R178: a stored copy is valid once its check code is written, and not before. -/
@[simp] theorem StoredCopy.sealed_valid (x : StoredCopy) : x.sealed.valid = true := by
  simp [StoredCopy.valid, StoredCopy.sealed]

@[simp] theorem StoredCopy.unsealed_valid (x : Setup) : StoredCopy.valid { image := x, check := none } = false := rfl

@[simp] theorem StoredCopy.sealed_image (x : StoredCopy) : x.sealed.image = x.image := rfl

end Sys2Proof.Machine
end

