-- ==== Sys2Proof/WellFormed.lean ====
section
/-! DEFINITION. Which commands can be sent: every number fits its encoding (R184), and every text, list and body the
length its bytes can carry. A value that fits its encoding but lies outside its range is well-formed: the owning block
judges it. -/

namespace Sys2Proof

/-- The number fits one byte. -/
def fitsByte (n : Nat) : Bool := decide (n < 256)

/-- The number fits two bytes. -/
def fitsWord (n : Nat) : Bool := decide (n < 65536)

/-- A list of one-byte items, with its count byte, fits the longest body (R184). -/
def fitsList (l : List Nat) : Bool := decide (l.length < 240) && l.all fitsByte

/-- The signs of a SET_TEST, with their count byte and the pattern byte, fit the longest body (R107, R184). -/
def fitsTest (l : List Nat) : Bool := decide (l.length ≤ 238) && l.all fitsByte

/-- The cabinet of an address byte: 0 to 15. -/
def Header.wf (h : Header) : Bool := decide (h.cabinet < 16)

/-- Of a body of 240 bytes a put takes 12 for its room, its fixed fields and the two length bytes (R12, R184). -/
def PutFields.wf (f : PutFields) : Bool :=
  fitsWord f.tag && fitsByte f.day && fitsWord f.start && fitsWord f.stop && fitsByte f.supersede
    && decide (12 + f.title.length + f.presenter.length ≤ 240)

/-- Of a body of 240 bytes a post takes 7 for its fixed fields, its count byte and its length byte (R61, R184). -/
def PostFields.wf (f : PostFields) : Bool :=
  fitsByte f.id && fitsByte f.level && fitsList f.target && fitsWord f.expiry && fitsByte f.tied
    && decide (7 + f.target.length + f.text.length ≤ 240)

/-- Of a body of 240 bytes a SET_ROOM takes 6 for its room, its fixed fields and the length byte (R3, R184). -/
def RoomFields.wf (f : RoomFields) : Bool :=
  fitsByte f.enable && fitsByte f.lead && fitsByte f.closing && fitsByte f.follow && decide (6 + f.name.length ≤ 240)

/-- A line byte of 0xFF marks the unmap form, so it is not one of the mapping form (R184). -/
def PlaceFields.wf (f : PlaceFields) : Bool :=
  decide (f.line < 255) && fitsByte f.position && fitsByte f.room && fitsByte f.role && fitsByte f.cls

def LineFields.wf (f : LineFields) : Bool :=
  fitsByte f.enabled && fitsByte f.capacity && fitsByte f.refill && fitsByte f.limit && fitsByte f.refreshLimit
    && fitsByte f.interval && fitsByte f.filter && fitsByte f.grouping

def ModeFields.wf (f : ModeFields) : Bool :=
  fitsByte f.noAnswer && fitsByte f.slow && fitsByte f.mismatch && fitsByte f.absent && fitsByte f.trip
    && fitsWord f.retryTime

/-- The request codes the hub knows (R184). -/
def knownCodes : List Nat :=
  [0x01, 0x02, 0x03, 0x04, 0x05, 0x06, 0x07, 0x08, 0x09, 0x10, 0x11, 0x12, 0x13, 0x14, 0x18, 0x19, 0x1A, 0x1B, 0x1C, 0x1D,
   0x1E, 0x20, 0x21, 0x30, 0x31, 0x32, 0x33, 0x34, 0x35, 0x36, 0x37, 0x38, 0x39, 0x3A, 0x3B, 0x3C, 0x3D]

/-- A command that can be sent. -/
def Instr.wf : Instr → Bool
  | .readStatus h => h.wf
  | .readRoom h room first => h.wf && fitsByte room && fitsByte first
  | .readEntry h room tag => h.wf && fitsByte room && fitsWord tag
  | .readSign h sign => h.wf && fitsByte sign
  | .readLine h line => h.wf && fitsByte line
  | .readNotice h id => h.wf && fitsByte id
  | .heartbeat h => h.wf
  | .readAttention h => h.wf
  | .setAttentionMask h _ => h.wf
  | .putEntry h room f => h.wf && fitsByte room && f.wf
  | .dropEntry h room tag => h.wf && fitsByte room && fitsWord tag
  | .markEntry h room tag _ _ => h.wf && fitsByte room && fitsWord tag
  | .clearDay h room day => h.wf && fitsByte room && fitsByte day
  | .setClock h day minute second => h.wf && fitsByte day && fitsWord minute && fitsByte second
  | .openBatch h rooms => h.wf && fitsList rooms
  | .stagePut h room f => h.wf && fitsByte room && f.wf
  | .stageDrop h room tag => h.wf && fitsByte room && fitsWord tag
  | .stageMark h room tag _ _ => h.wf && fitsByte room && fitsWord tag
  | .stageClearDay h room day => h.wf && fitsByte room && fitsByte day
  | .commitBatch h => h.wf
  | .abandonBatch h => h.wf
  | .postNotice h f => h.wf && f.wf
  | .withdrawNotice h id => h.wf && fitsByte id
  | .setRoom h room f => h.wf && fitsByte room && f.wf
  | .mapSign h sign f => h.wf && fitsByte sign && f.wf
  | .mapSignUnmap h sign => h.wf && fitsByte sign
  | .setTest h signs pattern => h.wf && fitsTest signs && fitsByte pattern && pattern != 4
  | .setTestOff h signs => h.wf && fitsTest signs
  | .setLine h line f => h.wf && fitsByte line && f.wf
  | .setQuiet h enable qEnter qExit => h.wf && fitsByte enable && fitsWord qEnter && fitsWord qExit
  | .wakeLines h => h.wf
  | .setFaultMode h f => h.wf && f.wf
  | .clearFaultSign h sign => h.wf && fitsByte sign
  | .clearFaultLine h line => h.wf && fitsByte line
  | .setPort h target _ code => h.wf && fitsByte target && fitsByte code
  | .setCabinet h address => h.wf && fitsByte address
  | .setArbiter h code fairness => h.wf && fitsByte code && fitsByte fairness
  | .saveSetup h => h.wf
  | .loadSetup h => h.wf
  | .softClear h => h.wf
  | .unknownRequest h code => h.wf && fitsByte code && !knownCodes.contains code
  | .broadcastDropped _ => true
  | .packetDiscarded _ => true
  | .packetIgnored _ => true
  | .bodyLengthOver240 _ => true
  | .receivingGap _ => true
  | .skippingGap _ => true
  | .replySent _ => true
  | .secondBoundary => true
  | .minuteBoundary => true
  | .dayBoundary => true
  | .dayBoundaryOutOfDay15 => true
  | .idleTimerExpiry => true
  | .heartbeatLapse _ => true
  | .jobCreation _ => true
  | .jobStart _ => true
  | .ack _ _ => true
  | .ackWaitExpiry _ => true
  | .pollTimerExpiry _ => true
  | .pollExchange _ => true
  | .busyAnswer _ _ => true
  | .doneOrIdle _ _ _ => true
  | .pollAnswerWaitExpiry _ => true
  | .refreshTimerExpiry _ _ => true
  | .settleTimerExpiry _ => true
  | .rollCallIntervalExpiry _ => true
  | .rollCallStart _ => true
  | .classAnswer _ _ _ => true
  | .rollAnswerWaitExpiry _ => true
  | .lineSleep _ => true
  | .trip _ => true
  | .retryTimerExpiry _ => true
  | .lineRetryWaitExpiry _ => true
  | .saveCompletion => true
  | .loadCompletion => true
  | .powerOn _ _ => true
  | .resetPinRelease => true
  | .resetPinAssert => true
  | .powerLoss => true
  | .leadByteInHunting _ => true
  | .excessCurrentOnset _ => true
  | .excessCurrentEnd _ => true

end Sys2Proof
end

