-- ==== Sys2Proof/Tests/Slice0.lean ====
section
/-! SUPPORT. Tests: the checks of WellFormed, words of R184 and R187 written out from the spec, worked examples of the
spec, and for every statement with hypotheses a state that meets them. -/

namespace Sys2Proof.Tests

open Sys2Proof.Machine

/-! ### WellFormed: an ill-formed term for each check -/

/-- A request of MP0 to cabinet 0 with a body of the right length. -/
def hdr : Header := { port := .mp0, cabinet := 0, bodyFits := true }

/-- A broadcast of MP0. -/
def all : Header := { hdr with cabinet := 15 }

def noMarks : Marks := { cancelled := false, hidden := false, closedDoor := false }
def letter : Text := [0x41#8]

def put : PutFields :=
  { tag := 7, day := 2, start := 540, stop := 630, title := letter, presenter := [], marks := noMarks, supersede := 0 }
def post : PostFields := { id := 9, level := 0, target := [], text := letter, expiry := 0, tied := 0 }
def place : PlaceFields := { line := 0, position := 9, room := 0, role := 0, cls := 0 }
def settings : LineFields :=
  { enabled := 1, capacity := 40, refill := 8, limit := 2, refreshLimit := 8, interval := 10, filter := 2, grouping := 0 }
def modes : ModeFields := { noAnswer := 1, slow := 1, mismatch := 1, absent := 1, trip := 1, retryTime := 15 }

theorem test_wf_accepts : ([.readStatus hdr, .putEntry hdr 63 put, .postNotice all post, .mapSign hdr 95 place,
    .setLine hdr 5 settings, .setFaultMode hdr modes, .unknownRequest hdr 0xFF] : List Instr).all Instr.wf = true := by
  decide

theorem test_wf_refuses_numbers : ([.readStatus { hdr with cabinet := 16 }, .readRoom hdr 256 0, .readRoom hdr 0 256,
    .readEntry hdr 0 65536, .readSign hdr 256, .setClock hdr 0 65536 0, .setQuiet hdr 2 65536 0, .setPort hdr 3
      { timetable := true, notice := true, setup := true } 256, .setCabinet hdr 256, .setArbiter hdr 0 256,
    .unknownRequest hdr 0x01, .setTest hdr [0] 4] : List Instr).any Instr.wf = false := by decide

theorem test_wf_refuses_fields : ([.putEntry hdr 0 { put with tag := 65536 }, .putEntry hdr 0 { put with day := 256 },
    .putEntry hdr 0 { put with supersede := 256 }, .postNotice hdr { post with id := 256 },
    .postNotice hdr { post with target := [256] }, .mapSign hdr 0 { place with line := 255 },
    .mapSign hdr 0 { place with cls := 256 }, .setLine hdr 0 { settings with capacity := 256 },
    .setFaultMode hdr { modes with retryTime := 65536 },
    .setRoom hdr 0 { enable := 1, lead := 256, closing := 0, follow := 0, name := letter }] : List Instr).any Instr.wf
      = false := by decide

/-- A body of 241 bytes cannot be sent. -/
theorem test_wf_refuses_lengths : ([.putEntry hdr 0 { put with title := List.replicate 229 0 },
    .stagePut hdr 0 { put with title := List.replicate 100 0, presenter := List.replicate 129 0 },
    .setTest hdr (List.replicate 239 0) 0, .setTestOff hdr (List.replicate 239 0),
    .postNotice hdr { post with text := List.replicate 234 0 }, .openBatch hdr (List.replicate 240 0),
    .setTestOff hdr [256],
    .setRoom hdr 0 { enable := 1, lead := 0, closing := 0, follow := 0, name := List.replicate 235 0 }] : List Instr).any Instr.wf = false := by
  decide +kernel

/-- A body of 240 bytes can be sent. -/
theorem test_wf_accepts_the_longest : ([.putEntry hdr 0 { put with title := List.replicate 228 0 },
    .stagePut hdr 0 { put with title := List.replicate 100 0, presenter := List.replicate 128 0 },
    .postNotice hdr { post with text := List.replicate 233 0 }, .openBatch hdr (List.replicate 239 0),
    .setTest hdr (List.replicate 238 0) 0, .setTestOff hdr (List.replicate 238 0),
    .setRoom hdr 0 { enable := 1, lead := 0, closing := 0, follow := 0, name := List.replicate 234 0 }] : List Instr).all
      Instr.wf = true := by decide +kernel

/-! ### Check codes, digests and packets -/

/-- R185: over the nine bytes "123456789" the CRC-16 gives 0x29B1. -/
theorem test_crc16_check_value : crc16 [0x31, 0x32, 0x33, 0x34, 0x35, 0x36, 0x37, 0x38, 0x39] = 0x29B1#16 := by
  decide +kernel

/-- R185: IDENT on sign 40 composed under cabinet 3. -/
theorem test_ident_digest : cardDigest (.ident 3) 40 = 0x0248#16 := by decide +kernel

/-- R184: a request is lead byte, address, code, body length, body and check code. -/
def packet (bytes : List Byte) : List Byte := bytes ++ [crc8 bytes]

theorem test_decode_requests :
    Decode.decodePacket .mp1 (packet [0xA5, 0x03, 0x01, 0x00]) = some (.readStatus { port := .mp1, cabinet := 3, bodyFits := true }) ∧
    Decode.decodePacket .mp0 (packet [0xA5, 0x00, 0x14, 0x04, 0x02, 0x02, 0x58, 0x3B]) = some (.setClock hdr 2 600 59) ∧
    Decode.decodePacket .mp0 (packet [0xA5, 0x00, 0x10, 0x0E, 0x0C, 0x00, 0x07, 0x02, 0x02, 0x1C, 0x02, 0x76, 0x01, 0x41,
      0x00, 0x04, 0x01]) = none ∧
    Decode.decodePacket .mp0 (packet [0xA5, 0x00, 0x10, 0x0D, 0x0C, 0x00, 0x07, 0x02, 0x02, 0x1C, 0x02, 0x76, 0x01, 0x41,
      0x00, 0x04, 0x01]) = some (.putEntry hdr 12 { put with marks := { noMarks with closedDoor := true }, supersede := 1 }) ∧
    Decode.decodePacket .mp0 (packet [0xA5, 0x00, 0x31, 0x06, 0x28, 0xFF, 0x00, 0x00, 0x00, 0x00]) =
      some (.mapSignUnmap hdr 40) ∧
    Decode.decodePacket .mp0 (packet [0xA5, 0x0F, 0x21, 0x01, 0x05]) = some (.withdrawNotice all 5) := by
  decide +kernel

/-- The longest bodies of PUT_ENTRY and SET_TEST. -/
def longPut : List Byte :=
  [0x0C, 0x00, 0x07, 0x02, 0x02, 0x1C, 0x02, 0x76, 0xE4] ++ List.replicate 228 0x41 ++ [0x00, 0x00, 0x00]
def longTest : List Byte := [0xEE] ++ List.replicate 238 0x05 ++ [0x04]

/-- Bodies of 240 bytes decode to commands that can be sent. -/
theorem test_decode_longest : longPut.length = 240 ∧ longTest.length = 240 ∧
    Decode.decodeRequest .mp0 0 0x10 longPut = some (.putEntry hdr 12 { put with title := List.replicate 228 0x41 }) ∧
    Decode.decodeRequest .mp0 0 0x32 longTest = some (.setTestOff hdr (List.replicate 238 5)) := by decide +kernel

theorem test_decode_answers :
    Decode.decodeAnswer 2 (packet [0x5A, 0x83, 0x81, 0x00]) = some (.ack 2 3) ∧
    Decode.decodeAnswer 2 (packet [0x5A, 0x8F, 0x85, 0x02, 0x02, 0x48]) = some (.doneOrIdle 2 15 0x0248#16) ∧
    Decode.decodeAnswer 2 (packet [0x5A, 0x80, 0x87, 0x01, 0x02]) = some (.classAnswer 2 0 .large) ∧
    Decode.decodeAnswer 2 (packet [0x5A, 0x03, 0x81, 0x00]) = none := by decide +kernel

/-- R186: the shortest form, 10 bytes. -/
theorem test_shortest_form : (boardBytes .plate { EvalRecord.disabled.board with name := some letter }).length = 10 := by
  decide +kernel

/-! ### Worked examples -/

def entry (tag start stop : Nat) (m : Marks) : Entry :=
  { tag := tag, day := 2, start := start, stop := stop, title := letter, presenter := none, marks := m, origin := .mp0 }

/-- 03_board_evaluation.md 3.6, the phases of one morning: the timetable of room 12. -/
def morning : List Entry :=
  [entry 7 540 630 noMarks, entry 9 645 690 noMarks, entry 12 720 780 { noMarks with closedDoor := true },
   entry 15 840 900 { noMarks with cancelled := true }, entry 20 960 1020 { noMarks with hidden := true }]

def room12 : RoomSetup := { enabled := true, name := some letter, lead := 15, closing := 5, follow := 2 }

/-- A line of the table of 3.6: phase, current, next, gap, time, and the hours and minutes of the follow list. -/
structure Row where
  phase : Phase
  current : Option Nat
  next : Option Nat
  gap : Option Nat
  time : TimeField
  follow : List Nat
  deriving DecidableEq

/-- What the model gives for a minute of day 2. -/
def row (minute : Nat) : Row :=
  let x := session room12 morning { isSet := true, day := 2, minute := minute, second := 0 }
  ⟨x.phase, x.current, x.next, x.gap, x.time, x.follow.map (fun i => i.hh * 100 + i.mm)⟩

theorem test_morning_sessions : [624, 625, 630, 645, 690, 780, 840].map row =
    [⟨.live, some 7, some 9, none, .clock 10 30, [1045, 1200]⟩,
     ⟨.closing, some 7, some 9, none, .countdown 5, [1045, 1200]⟩,
     ⟨.soon, none, some 9, some 15, .countdown 15, [1200, 1400]⟩,
     ⟨.live, some 9, some 12, none, .clock 11 30, [1200, 1400]⟩,
     ⟨.between, none, some 12, some 30, .clock 12 0, [1400]⟩,
     ⟨.between, none, some 15, some 60, .clock 14 0, []⟩,
     ⟨.opened, none, none, none, .none, []⟩] := by decide +kernel

/-- 03_board_evaluation.md 3.6, the countdown clamp. -/
theorem test_countdown_clamp :
    (session { room12 with lead := 240, closing := 120 } [entry 3 780 840 noMarks, entry 4 1260 1440 noMarks]
      { isSet := true, day := 2, minute := 681, second := 0 }).time = .countdown 99 ∧
    (session { room12 with lead := 240, closing := 120 } [entry 3 780 840 noMarks, entry 4 1260 1440 noMarks]
      { isSet := true, day := 2, minute := 680, second := 0 }).time = .clock 13 0 ∧
    (session { room12 with lead := 240, closing := 120 } [entry 3 780 840 noMarks, entry 4 1260 1440 noMarks]
      { isSet := true, day := 2, minute := 1320, second := 0 }).time = .clock 24 0 := by decide +kernel

/-- R112: costs by kind and class. R22: the watermarks. R146: the clamps of SET_QUIET. -/
theorem test_costs_watermarks_and_clamps :
    [jobCost .partialJob .small, jobCost .partialJob .large, jobCost .fullJob .small, jobCost .testJob .medium,
      jobCost .fullJob .large] = [1, 2, 3, 6, 14] ∧
    nextPressure .normal 32 128 = .normal ∧ nextPressure .normal 31 1536 = .low ∧ nextPressure .normal 384 127 = .low ∧
    nextPressure .low 64 256 = .normal ∧ nextPressure .low 63 1536 = .low ∧ nextPressure .low 384 255 = .low ∧
    clampQuiet 20 700 = (30, 29) ∧ clampQuiet 500 5 = (480, 10) := by decide +kernel

/-! ### A hub at work -/

def on : LineSetup :=
  { enabled := true, capacity := 40, refill := 8, limit := 2, refreshLimit := 8, interval := 10, filter := 2 }
def open1 : RoomSetup := { enabled := true, name := some letter, lead := 10, closing := 5, follow := 0 }
def at0 (pos : Position) : Mapping := { line := 0, position := pos, room := 0, role := .plate, cls := .small }
def digest : Digests := { body := 0x0500#16, full := 0x0501#16 }
def notice5 : Notice :=
  { id := 5, level := .info, target := .rooms [0], text := letter, expiry := some 3481, tied := true, origin := .mp0
    broadcast := false }

/-- A job of a sign, FULL, for the digests above. -/
def job (i : SignId) (st : JobState) : Job :=
  { sign := i, kind := .fullJob, cost := 3, urgent := false, target := some digest, time := .none
    content := if st = .ready then none else some (.board [0x41#8]), state := st, resends := 0, origin := .setup
    refresh := if st = .refreshing then some 8 else none }

def jobs3 : List Job := [job 1 .sending, job 2 .refreshing, job 3 .ready]

/-- Line 0: a job being sent, one refreshing, one waiting, and sign 0 in the queue. -/
def line0 : LineRecord :=
  { LineRecord.fresh on with mode := .active, settle := false, pollTimer := true, dirty := [0], jobs := jobs3, budget := 20
                             transmitter := some (.job 1 0) }

def pairs : List Entry := [entry 7 540 630 noMarks, entry 9 600 690 { noMarks with cancelled := true }]

/-- Rooms 0 and 1 enabled with two entries in room 0; signs 0 to 3 on line 0, and a LATCHED sign 4; lines 0 and 1 enabled;
the clock at day 2, 09:59:59; a notice of MP0; the grant of room 1 with MP1. -/
def hall : State :=
  let s := (State.reset.setRoomSetup 0 open1).setRoomSetup 1 open1
  let s := (s.setLineSetup 0 on).setLineSetup 1 on
  let s := ((s.setMapping 0 (some (at0 0))).setMapping 1 (some (at0 1))).setMapping 2 (some (at0 2))
  let s := (s.setMapping 3 (some (at0 3))).setMapping 4 (some (at0 4))
  let s := s.setSign 4 { SignRecord.fresh with fault := .latched, failures := 4, lastFault := some .slow }
  let s := (s.setLine 0 line0).setLine 1 (LineRecord.fresh on)
  { s.setTimetable 0 pairs with
    clock := { isSet := true, day := 2, minute := 599, second := 59 }
    notices := [notice5]
    arb := { Arbiter.fresh with holder := some .mp1, rooms := [1], idle := some 2000 } }

theorem accepted_of {s : State} {h : Header} {need : Need}
    (x : s.run = .running ∧ (s.port h.port).reception = .hunting ∧ h.cabinet = s.address ∧ h.cabinet ≠ 15 ∧
      h.bodyFits = true ∧ need.met (s.portSetup h.port).roles = true ∧ s.store = .blank) : Accepted s h need :=
  { running := x.1, hears := .inl x.2.1, here := x.2.2.1, notAll := x.2.2.2.1, fits := x.2.2.2.2.1
    role := x.2.2.2.2.2.1, free := fun _ => .inr x.2.2.2.2.2.2 }

theorem hall_accepts (need : Need) : Accepted hall hdr need := by
  apply accepted_of; cases need <;> decide +kernel

theorem hall_casts : Cast hall all :=
  { running := by decide +kernel, hears := by decide +kernel, all := by decide +kernel, fits := by decide +kernel }

/-! ### The hypotheses of the statements are met

For each statement with hypotheses, states and operands that meet them, clause by clause. -/

def rush : State := { hall with pending := [.secondBoundary] }

theorem test_witness_StepRunsFrontCommand : rush.pending = [.secondBoundary] ∧ hall.pending = [] := by decide +kernel

theorem test_witness_ClockStaysInRange : ClockLaw rush ∧ ∃ t, step rush = .next t :=
  ⟨by unfold ClockLaw; decide +kernel, _, rfl⟩

theorem test_witness_GrantLawKept : GrantLaw rush ∧ ∃ t, step rush = .next t :=
  ⟨by unfold GrantLaw; decide +kernel, _, rfl⟩

theorem test_witness_IdleTimerRunsWhileHeld : HolderLaw rush ∧ ∃ t, step rush = .next t :=
  ⟨by unfold HolderLaw; decide +kernel, _, rfl⟩

theorem test_witness_BudgetStaysInRange : BudgetLaw rush ∧ ∃ t, step rush = .next t :=
  ⟨by unfold BudgetLaw; decide +kernel, _, rfl⟩

theorem test_witness_JobListLawKept : JobListLaw rush ∧ ∃ t, step rush = .next t :=
  ⟨fun l =>
    { places := by revert l; decide +kernel, once := by revert l; decide +kernel, limit := by revert l; decide +kernel
      sending := by revert l; decide +kernel, active := by revert l; decide +kernel, held := by revert l; decide +kernel },
    _, rfl⟩

theorem test_witness_NoticeTableLawKept : NoticeLaw rush ∧ ∃ t, step rush = .next t := by
  refine ⟨⟨by decide +kernel, by decide +kernel, fun n h => ?_⟩, _, rfl⟩
  obtain rfl := List.mem_singleton.1 (show n ∈ [notice5] from h)
  exact { id := by decide, text := by decide
          target := fun l h => by cases h; decide, expiry := fun e h => by cases h; decide }

theorem test_witness_TimetableLawKept : TimetableLaw rush ∧ ∃ t, step rush = .next t :=
  ⟨by unfold TimetableLaw; decide +kernel, _, rfl⟩

theorem test_witness_NoEntryBelowTheDay : PurgeLaw rush ∧ ∃ t, step rush = .next t :=
  ⟨by unfold PurgeLaw; decide +kernel, _, rfl⟩

/-- A setup is lawful when its mapped signs are checked pair by pair. -/
theorem lawful_of (x : Setup)
    (a : ∀ i j : SignId, (match x.signMap[i], x.signMap[j] with
      | some m, some n => decide (m.line = n.line → m.position = n.position → i = j)
      | _, _ => true) = true)
    (b : ∀ i : SignId, x.signMap[i].all (fun m => x.rooms[m.room].enabled) = true)
    (c : ∀ r : RoomId, x.rooms[r].name.isSome = x.rooms[r].enabled) : x.Lawful where
  places i j m n hm hn := by
    have x := a i j
    rw [hm, hn] at x
    exact of_decide_eq_true x
  rooms i m hm := by simpa [hm] using b i
  names := c

theorem test_witness_SetupLawKept : SetupLaw rush ∧ ∃ t, step rush = .next t :=
  ⟨⟨lawful_of _ (by decide +kernel) (by decide +kernel) (by decide +kernel),
    lawful_of _ (by decide +kernel) (by decide +kernel) (by decide +kernel), by decide +kernel⟩, _, rfl⟩

theorem test_witness_LatchedSignsStayOut : DeliveryLaw rush ∧ ∃ t, step rush = .next t := by
  refine ⟨⟨by decide +kernel, fun l i h => ?_⟩, _, rfl⟩
  have x : ∀ l i, i ∈ (rush.line l).dirty ∨ i ∈ (rush.line l).jobs.map Job.sign →
      ((rush.mapping i).any (fun m => m.line == l) = true ∧ (rush.sign i).fault = .none) := by decide +kernel
  obtain ⟨a, b⟩ := x l i h
  exact ⟨by simpa [Option.any_eq_true] using a, b⟩

theorem test_witness_PoolAndTextStoreNeverOverrun : StoreLaw rush ∧ ∃ t, step rush = .next t :=
  ⟨by unfold StoreLaw; decide +kernel, _, rfl⟩

theorem test_witness_CountdownsStayInRange : CountdownLaw rush ∧ ∃ t, step rush = .next t := by
  refine ⟨fun r => ?_, _, rfl⟩
  have x : ∀ r, (rush.eval r).board.time = .none := by decide +kernel
  rw [x r]; trivial

/-! #### Ports -/

def short : Header := { hdr with bodyFits := false }
def noRoles : PortSetup := { roles := { timetable := false, notice := false, setup := false }, interval := 0 }
def barred : State := hall.setPortSetup .mp0 noRoles
def saving : State := { hall with store := .saving .mp1 }

/-- The port of a packet hears it as a direct request. -/
theorem direct_of {s : State} {h : Header} (x : s.run = .running ∧ (s.port h.port).reception = .hunting ∧
    h.cabinet = s.address ∧ h.cabinet ≠ 15) : Direct s h :=
  { running := x.1, hears := .inl x.2.1, here := x.2.2.1, notAll := x.2.2.2 }

theorem test_witness_RequestsRefusedAtThePort :
    (requestOf (.softClear short) = some (short, 0x3D, .setup) ∧ Direct hall short ∧ short.bodyFits = false) ∧
    (requestOf (.softClear hdr) = some (hdr, 0x3D, .setup) ∧ Direct barred hdr ∧ hdr.bodyFits = true ∧
      (Need.setup).met (barred.portSetup hdr.port).roles = false) ∧
    (Direct saving hdr ∧ (Need.setup).met (saving.portSetup hdr.port).roles = true ∧ saving.store = .saving .mp1) :=
  ⟨⟨rfl, direct_of (by decide +kernel), rfl⟩, ⟨rfl, direct_of (by decide +kernel), rfl, by decide +kernel⟩,
    direct_of (by decide +kernel), by decide +kernel, rfl⟩

/-- hall with MP0 in a reception state. -/
def listening (r : Reception) : State := hall.setPort .mp0 { PortRecord.fresh with reception := r }

theorem test_witness_PacketsNotForThisHub :
    requestOf (.readStatus hdr) = some (hdr, 0x01, .none) ∧ { hall with run := .held }.run ≠ .running ∧
    ((listening .skipping).port hdr.port).reception = .skipping ∧
    ((listening .answering).port hdr.port).reception = .answering ∧
    (hall.run = .running ∧ ((listening .receiving).port hdr.port).reception = .receiving ∧
      ({ hdr with cabinet := 14 }.cabinet ≠ 15 ∧ { hdr with cabinet := 14 }.cabinet ≠ hall.address)) ∧
    (all.cabinet = 15 ∧ castable (.readStatus all) = false ∧ castable (.heartbeat { short with cabinet := 15 }) = true ∧
      { short with cabinet := 15 }.bodyFits = false) := by decide +kernel

theorem test_witness_AcceptedRequestsAreAnswered :
    requestOf (.softClear hdr) = some (hdr, 0x3D, .setup) ∧ Accepted hall hdr .setup := ⟨rfl, hall_accepts _⟩

theorem test_witness_UnknownAndHeartbeatOnlyRestart : Direct hall hdr ∧ Accepted hall hdr .none ∧ hall.run = .running ∧
    (hall.port all.port).reception = .hunting ∧ all.cabinet = 15 ∧ all.bodyFits = true :=
  ⟨(hall_accepts .none).toDirect, hall_accepts _, by decide +kernel⟩

theorem test_witness_PortEventsMoveReception : hall.run = .running ∧ (hall.port .mp0).reception = .hunting ∧
    (listening .receiving).run = .running ∧ ((listening .receiving).port .mp0).reception = .receiving ∧
    ((listening .skipping).port .mp0).reception = .skipping := by decide +kernel

theorem test_witness_CabinetChangesWhenReplyEnds : Accepted hall hdr .setup ∧ 8 ≤ 8 ∧ 7 < 8 ∧
    (listening .answering).run = .running ∧ ((listening .answering).port .mp0).reception = .answering :=
  ⟨hall_accepts _, by decide +kernel⟩

/-- A port whose monitor is ALIVE with its timer running. -/
def beating : PortRecord := { PortRecord.fresh with monitor := .alive, heartbeat := some 1000 }

theorem test_witness_HeartbeatLapseEndsWhatThePortHeld :
    ((hall.setPort .mp1 beating).run = .running ∧ ((hall.setPort .mp1 beating).port .mp1).monitor = .alive ∧
      ((hall.setPort .mp1 beating).port .mp1).heartbeat.isSome = true ∧
      (hall.setPort .mp1 beating).arb.holder = some .mp1 ∧
      ∀ n ∈ (hall.setPort .mp1 beating).notices, n.tied = true → n.origin ≠ .mp1) ∧
    ((hall.setPort .mp0 beating).run = .running ∧ ((hall.setPort .mp0 beating).port .mp0).monitor = .alive ∧
      ((hall.setPort .mp0 beating).port .mp0).heartbeat.isSome = true ∧
      (hall.setPort .mp0 beating).arb.holder ≠ some .mp0 ∧
      ∃ n ∈ (hall.setPort .mp0 beating).notices, n.tied = true ∧ n.origin = .mp0) := by decide +kernel

/-- hall with nothing pending on MP0. -/
def calm : State := hall.setPort .mp0 { PortRecord.fresh with raised := 0#8 }

theorem test_witness_ReadAttentionReturnsLowest :
    (Accepted calm hdr .none ∧ (calm.port hdr.port).raised &&& (calm.port hdr.port).mask = 0#8) ∧
    (Accepted hall hdr .none ∧ hasFlag ((hall.port hdr.port).raised &&& (hall.port hdr.port).mask) .clock = true ∧
      ∀ other, hasFlag ((hall.port hdr.port).raised &&& (hall.port hdr.port).mask) other = true →
        Source.code .clock ≤ Source.code other) :=
  ⟨⟨accepted_of (by decide +kernel), by decide +kernel⟩, hall_accepts _, by decide +kernel, by
    intro other; cases other <;> decide +kernel⟩

theorem test_witness_AttentionMaskIsSet : Accepted hall hdr .none ∧ Cast hall all := ⟨hall_accepts _, hall_casts⟩

theorem test_witness_SetPortStoresRolesAndInterval : Accepted hall hdr .setup ∧ 2 < 3 ∧ port? 2 = some .mp2 ∧
    Port.mp2 ≠ hdr.port ∧ (hall.port .mp2).monitor ≠ .alive ∧ port? 0 = some hdr.port ∧
    ((hall.setPort .mp2 beating).port .mp2).monitor = .alive :=
  ⟨hall_accepts _, by decide +kernel⟩

/-! #### Reads -/

theorem test_witness_StatusRoomEntryAndNoticeReadsReport : Accepted hall hdr .none ∧ 64 ≤ 64 ∧
    (hall.timetable 0).find? (fun e => e.tag == 8) = none ∧
    (hall.timetable 0).find? (fun e => e.tag == 7) = some (entry 7 540 630 noMarks) ∧
    (255 ≠ 0 ∧ ∀ n ∈ hall.notices, n.id ≠ 255) ∧
    (hall.notices = [] ++ notice5 :: [] ∧ notice5.id ≠ 0 ∧ ∀ x ∈ ([] : List Notice), x.id ≠ notice5.id) :=
  ⟨hall_accepts _, by decide +kernel⟩

theorem test_witness_SignAndLineReadsReport : Accepted hall hdr .none ∧ 96 ≤ 96 ∧ 6 ≤ 6 ∧ hall.mapping 95 = none ∧
    hall.mapping 0 = some (at0 0) :=
  ⟨hall_accepts _, by decide +kernel⟩

/-! #### Rooms, timetable, clock -/

/-- The latest put of all, and one that meets the entry of tag 7. -/
def latest : PutFields := { put with tag := 65535, day := 15, start := 1439, stop := 1440 }
def meeting : PutFields := { put with tag := 8, supersede := 1 }

theorem inTime_of {f : PutFields} (x : f.day ≤ 15 ∧ f.start ≤ 1439 ∧ f.start < f.stop ∧ f.stop ≤ 1440) : PutFields.InTime f :=
  ⟨x.1, x.2.1, x.2.2.1, x.2.2.2⟩

theorem inRange_of {f : PutFields} (x : 1 ≤ f.tag ∧ f.tag ≤ 65535 ∧ 1 ≤ f.title.length ∧ f.title.length ≤ 64 ∧
    f.presenter.length ≤ 48 ∧ f.supersede ≤ 1) : PutFields.InRange f :=
  ⟨x.1, x.2.1, x.2.2.1, x.2.2.2.1, x.2.2.2.2.1, x.2.2.2.2.2⟩

theorem test_witness_PutEntryStores :
    Accepted hall hdr .timetable ∧ (hall.roomSetup 0).enabled = true ∧ 0 ∉ hall.arb.rooms ∧
    (PutFields.InTime latest ∧ PutFields.InRange latest ∧ hall.clock.day ≤ latest.day ∧
      PutFields.hits latest (hall.timetable 0) = [] ∧ 0 < hall.freeEntries ∧
      PutFields.cells latest ≤ hall.freeCells + PutFields.returned latest (hall.timetable 0)) ∧
    (PutFields.InTime meeting ∧ PutFields.InRange meeting ∧ hall.clock.day ≤ meeting.day ∧
      PutFields.hits meeting (hall.timetable 0) = [entry 7 540 630 noMarks] ∧ meeting.supersede = 1 ∧
      PutFields.cells meeting ≤ hall.freeCells + PutFields.returned meeting (hall.timetable 0)) :=
  ⟨hall_accepts _, by decide +kernel, by decide +kernel,
    ⟨inTime_of (by decide), inRange_of (by decide), by decide +kernel⟩,
    ⟨inTime_of (by decide), inRange_of (by decide), by decide +kernel⟩⟩

/-- Every entry of the pool in use, and a text store without a free cell. -/
def full : State := hall.setTimetable 1 (List.replicate 382 (entry 300 0 1 noMarks))
def wordy : State :=
  hall.setTimetable 1 (List.replicate 381 { entry 300 0 1 noMarks with title := List.replicate 80 0x41#8 })

theorem full_accepts : Accepted full hdr .timetable := accepted_of (by decide +kernel)
theorem wordy_accepts (need : Need) : Accepted wordy hdr need := by apply accepted_of; cases need <;> decide +kernel

theorem test_witness_TimetableRequestsRefuse :
    Accepted hall hdr .timetable ∧ (hall.roomSetup 0).enabled = true ∧ 0 ∉ hall.arb.rooms ∧
    ¬ PutFields.InTime { put with stop := 540 } ∧
    (PutFields.InTime { put with tag := 0 } ∧ ¬ PutFields.InRange { put with tag := 0 }) ∧
    (PutFields.InTime { put with day := 1 } ∧ PutFields.InRange { put with day := 1 } ∧ hall.clock.isSet = true ∧
      1 < hall.clock.day) ∧
    (PutFields.InTime { meeting with supersede := 0 } ∧ PutFields.InRange { meeting with supersede := 0 } ∧
      hall.clock.day ≤ meeting.day ∧ PutFields.hits { meeting with supersede := 0 } (hall.timetable 0) ≠ []) ∧
    (Accepted full hdr .timetable ∧ (∀ x ∈ full.timetable 0, x.tag ≠ latest.tag) ∧ full.freeEntries = 0 ∧
      PutFields.hits latest (full.timetable 0) = []) ∧
    (Accepted wordy hdr .timetable ∧ 0 < wordy.freeEntries ∧
      wordy.freeCells + PutFields.returned latest (wordy.timetable 0) < PutFields.cells latest) ∧
    (hall.roomSetup 63).enabled = false ∧ (hall.roomSetup 1).enabled = true ∧ 1 ∈ hall.arb.rooms ∧
    (∀ x ∈ hall.timetable 0, x.tag ≠ 8) ∧
    (hall.timetable 0).find? (fun x => x.tag == 9) = some (entry 9 600 690 { noMarks with cancelled := true }) ∧
    Entry.revives (entry 9 600 690 { noMarks with cancelled := true })
      (changedMarks { noMarks with cancelled := true } noMarks { noMarks with cancelled := true }) (hall.timetable 0) ∧
    15 < 16 :=
  ⟨hall_accepts _, by decide +kernel, by decide +kernel, fun x => absurd x.after (by decide),
    ⟨inTime_of (by decide), fun x => absurd x.tagLow (by decide)⟩,
    ⟨inTime_of (by decide), inRange_of (by decide), by decide +kernel⟩,
    ⟨inTime_of (by decide), inRange_of (by decide), by decide +kernel⟩,
    ⟨full_accepts, by decide +kernel⟩, ⟨wordy_accepts _, by decide +kernel⟩, by decide +kernel, by decide +kernel,
    by decide +kernel, by decide +kernel, by decide +kernel, ⟨rfl, rfl, by decide +kernel⟩, by decide⟩

theorem test_witness_DropMarkAndClearChange :
    Accepted hall hdr .timetable ∧ (hall.roomSetup 0).enabled = true ∧ 0 ∉ hall.arb.rooms ∧
    (∃ x ∈ hall.timetable 0, x.tag = 7) ∧
    (hall.timetable 0).find? (fun x => x.tag == 7) = some (entry 7 540 630 noMarks) ∧
    ¬ Entry.revives (entry 7 540 630 noMarks) (changedMarks noMarks noMarks noMarks) (hall.timetable 0) ∧
    changedMarks noMarks noMarks noMarks = noMarks ∧
    ¬ Entry.revives (entry 7 540 630 noMarks) (changedMarks noMarks { noMarks with hidden := true } noMarks)
      (hall.timetable 0) ∧
    changedMarks noMarks { noMarks with hidden := true } noMarks ≠ noMarks ∧
    (15 ≤ 15 ∧ ∀ x ∈ hall.timetable 0, x.day ≠ 15) ∧ ∃ x ∈ hall.timetable 0, x.day = 2 :=
  ⟨hall_accepts _, by decide +kernel, by decide +kernel, by decide +kernel, by decide +kernel,
    fun x => absurd x.1 (by decide), by decide, fun x => absurd x.1 (by decide), by decide, by decide +kernel,
    by decide +kernel⟩

/-- A notice of level DIRECT for every room. -/
def direct (id : Nat) : Notice := { notice5 with id := id, level := .direct, target := .all }

/-- An entry is not current when it has not begun or has ended, and not ahead when it has begun. -/
theorem test_witness_BoardsFollowTimetableAndNotices :
    (∃ e, e = evaluation room12 morning none { isSet := true, day := 2, minute := 1439, second := 0 }) ∧
    ((∀ x ∈ [notice5], ¬ x.AimsAt 63) ∧ ShownOf [direct 1, notice5, direct 2] 0 (direct 2)) ∧
    FirstOf (Entry.Current 3505) morning (entry 7 540 630 noMarks) ∧
    FirstOf (Entry.Ahead 3510 2) morning (entry 9 645 690 noMarks) ∧
    (∀ x ∈ morning, ¬ Entry.Current 3510 x) ∧ (∀ x ∈ morning, ¬ Entry.Ahead 3720 2 x) ∧
    (∀ x ∈ morning, ¬ Entry.Current 3720 x) := by
  refine ⟨⟨_, rfl⟩, ⟨fun x hx a => ?_, ⟨.inl rfl, fun x hx _ => ?_, [direct 1, notice5], [], rfl, by simp⟩⟩,
    ⟨[], _, rfl, ⟨rfl, rfl, by decide, by decide⟩, by simp⟩,
    ⟨[entry 7 540 630 noMarks], _, rfl, ⟨rfl, by decide, by decide⟩, fun y hy a => ?_⟩, fun x hx a => ?_, fun x hx a => ?_,
    fun x hx a => ?_⟩
  · obtain rfl := List.mem_singleton.1 hx
    rcases a with a | ⟨l, a, b⟩ <;> cases a
    revert b; decide
  · have y : ∀ x ∈ [direct 1, notice5, direct 2], Level.code x.level ≤ Level.code (direct 2).level := by decide
    exact y x hx
  · obtain rfl := List.mem_singleton.1 hy
    exact absurd a.later (by decide)
  · have y : ∀ x ∈ morning, ¬ (x.day * 1440 + x.start ≤ 3510 ∧ 3510 < x.day * 1440 + x.stop) := by decide
    exact y x hx ⟨a.begun, a.lasts⟩
  · have y : ∀ x ∈ morning, ¬ (x.marks.hidden = false ∧ 3720 < x.day * 1440 + x.start) := by decide
    exact y x hx ⟨a.shown, a.later⟩
  · have y : ∀ x ∈ morning, ¬ (x.marks.cancelled = false ∧ x.day * 1440 + x.start ≤ 3720 ∧
        3720 < x.day * 1440 + x.stop) := by decide
    exact y x hx ⟨a.stands, a.begun, a.lasts⟩

def room (enable n : Nat) : RoomFields :=
  { enable := enable, lead := 241, closing := 120, follow := 3, name := List.replicate n 0x41#8 }

theorem test_witness_RoomIsSetUp :
    Accepted hall hdr .setup ∧ 64 ≤ 64 ∧ 1 < (room 2 1).enable ∧
    ((room 0 0).enable = 0 ∧ hall.timetable 0 ≠ [] ∧ 1 ∈ hall.arb.rooms) ∧
    (hall.timetable 63 = [] ∧ (∀ i m, hall.mapping i = some m → m.room ≠ 63) ∧ 63 ∉ hall.arb.rooms) ∧
    ((room 1 0).enable = 1 ∧ (room 1 0).name.length < 1 ∧ 32 < (room 1 33).name.length) ∧
    (Accepted wordy hdr .setup ∧ 1 ≤ (room 1 32).name.length ∧ (room 1 32).name.length ≤ 32 ∧
      wordy.freeCells + optCellsOf (wordy.roomSetup 0).name < ((room 1 32).name.length + 15) / 16) ∧
    ((room 1 32).name.length + 15) / 16 ≤ hall.freeCells + optCellsOf (hall.roomSetup 0).name := by
  refine ⟨hall_accepts _, by decide, by decide, by decide +kernel, ⟨by decide +kernel, fun i m h => ?_, by decide +kernel⟩,
    by decide, ⟨wordy_accepts _, by decide +kernel⟩, by decide +kernel⟩
  have x : ∀ i, (hall.mapping i).all (fun m => m.room != 63) = true := by decide +kernel
  simpa [h] using x i

/-- hall at another time. -/
def atTime (day minute second : Nat) : State :=
  { hall with clock := { isSet := true, day := day, minute := minute, second := second } }

theorem test_witness_SecondBoundaryCounts : hall.run = .running ∧ { hall with clock := .unset }.clock.isSet = false ∧
    (atTime 2 599 58).run = .running ∧ (atTime 2 599 58).clock.second < 59 := by decide +kernel

theorem test_witness_MinuteBoundaryActs : (atTime 2 1438 59).run = .running ∧ (atTime 2 1438 59).clock.isSet = true ∧
    (atTime 2 1438 59).clock.second = 59 ∧ (atTime 2 1438 59).clock.minute < 1439 := by decide +kernel

theorem test_witness_DayBoundariesAct : (atTime 14 1439 59).run = .running ∧ (atTime 14 1439 59).clock.isSet = true ∧
    (atTime 14 1439 59).clock.second = 59 ∧ (atTime 14 1439 59).clock.minute = 1439 ∧ (atTime 14 1439 59).clock.day < 15 ∧
    (atTime 15 1439 59).run = .running ∧ (atTime 15 1439 59).clock.day = 15 := by decide +kernel

theorem barred_hears : Direct barred hdr ∧ hdr.bodyFits = true := ⟨direct_of (by decide +kernel), rfl⟩

theorem test_witness_ClockIsSet :
    (Direct barred hdr ∧ (barred.portSetup hdr.port).roles.timetable = false ∧
      (barred.portSetup hdr.port).roles.setup = false) ∧
    (Accepted hall hdr .timetableOrSetup ∧ 15 < 16 ∧ 1439 < 1440 ∧ 59 < 60 ∧ 15 ≤ 15 ∧ 1439 ≤ 1439 ∧ 59 ≤ 59) ∧
    (Cast barred all ∧ ¬ ((barred.portSetup all.port).roles.timetable = true ∨ (barred.portSetup all.port).roles.setup = true)) ∧
    (Cast hall all ∧ (hall.portSetup all.port).roles.timetable = true) :=
  ⟨⟨barred_hears.1, by decide +kernel⟩, ⟨hall_accepts _, by decide⟩,
    ⟨⟨by decide +kernel, by decide +kernel, by decide, by decide⟩, by decide +kernel⟩, hall_casts, by decide +kernel⟩

/-! #### Notices and the arbiter -/

def last : PostFields := { id := 255, level := 2, target := [0, 1], text := List.replicate 96 0x41#8, expiry := 3480, tied := 1 }

theorem test_witness_NoticeIsPosted :
    (1 ≤ last.id ∧ last.id ≤ 255 ∧ level? last.level = some .urgent ∧ 1 ≤ last.text.length ∧ last.text.length ≤ 96 ∧
      last.target = ([0, 1] : List RoomId).map Fin.val ∧ last.tied ≤ 1 ∧
      (∀ r ∈ ([0, 1] : List RoomId), (hall.roomSetup r).enabled = true) ∧ ([0, 1] : List RoomId).Nodup ∧
      (hall.clock.isSet = true ∧ hall.clock.day * 1440 + hall.clock.minute < last.expiry ∧ last.expiry ≤ 23039) ∧
      hall.notices.length < 16 ∧
      hall.notices.find? (fun n => n.id == last.id) = none ∧ (last.text.length + 15) / 16 ≤ hall.freeCells) ∧
    Accepted hall hdr .notice ∧ Cast hall all ∧ (hall.portSetup all.port).roles.notice = true ∧
    (1 ≤ post.id ∧ level? post.level = some .info ∧ post.target = ([] : List RoomId).map Fin.val ∧ post.expiry = 0 ∧
      hall.notices.find? (fun n => n.id == post.id) = none ∧ (post.text.length + 15) / 16 ≤ hall.freeCells) :=
  ⟨by decide +kernel, hall_accepts _, hall_casts, by decide +kernel⟩

/-- The notice table full. -/
def posted : State := { hall with notices := (List.range 16).map (fun n => { notice5 with id := n + 1 }) }

theorem test_witness_PostNoticeRefusals :
    (Cast barred all ∧ (barred.portSetup all.port).roles.notice = false ∧ Cast hall all ∧ last.target ≠ []) ∧
    Accepted hall hdr .notice ∧ ({ post with id := 256 }.id > 255 ∧ 2 < { post with level := 3 }.level) ∧
    (1 ≤ post.id ∧ post.id ≤ 255 ∧ post.level ≤ 2 ∧ post.text ≠ [] ∧ post.text.length ≤ 96 ∧ post.target.length ≤ 16 ∧
      post.tied ≤ 1) ∧
    (∃ n ∈ [0, 64], ∀ r : RoomId, r.val = n → (hall.roomSetup r).enabled = false) ∧
    (∀ n ∈ [0, 0], ∃ r : RoomId, r.val = n ∧ (hall.roomSetup r).enabled = true) ∧ ¬ [0, 0].Nodup ∧
    (∀ n ∈ post.target, ∃ r : RoomId, r.val = n ∧ (hall.roomSetup r).enabled = true) ∧ post.target.Nodup ∧
    (Accepted { hall with clock := .unset } hdr .notice ∧ { post with expiry := 1 }.expiry ≠ 0) ∧
    ({ post with expiry := 3479 }.expiry ≤ hall.clock.day * 1440 + hall.clock.minute ∧ 23039 < { post with expiry := 23040 }.expiry) ∧
    (Accepted posted hdr .notice ∧ post.expiry = 0 ∧ (∀ n ∈ posted.notices, n.id ≠ 200) ∧ 16 ≤ posted.notices.length) ∧
    (Accepted wordy hdr .notice ∧ wordy.notices.length < 16 ∧ wordy.notices.find? (fun n => n.id == post.id) = none ∧
      wordy.freeCells + 0 < (post.text.length + 15) / 16) :=
  ⟨⟨⟨by decide +kernel, by decide +kernel, by decide, by decide⟩, by decide +kernel, hall_casts, by decide⟩, hall_accepts _,
    by decide, by decide, ⟨64, by decide, by decide +kernel⟩, by decide +kernel, by decide, by decide, by decide,
    ⟨accepted_of (by decide +kernel), by decide⟩, by decide +kernel, ⟨accepted_of (by decide +kernel), by decide +kernel⟩,
    wordy_accepts _, by decide +kernel⟩

theorem test_witness_NoticeIsWithdrawn :
    (Direct barred hdr ∧ (barred.portSetup hdr.port).roles.notice = false) ∧
    (Accepted hall hdr .notice ∧ (∀ n ∈ hall.notices, n.id ≠ 6) ∧ 5 ≠ 0 ∧ ∃ n ∈ hall.notices, n.id = 5) ∧
    (Cast barred all ∧ (barred.portSetup all.port).roles.notice = false) ∧
    (Cast hall all ∧ (hall.portSetup all.port).roles.notice = true ∧ (∀ n ∈ hall.notices, n.id ≠ 6) ∧
      ∃ n ∈ hall.notices, n.id = 5) :=
  ⟨⟨barred_hears.1, by decide +kernel⟩, ⟨hall_accepts _, by decide +kernel⟩,
    ⟨⟨by decide +kernel, by decide +kernel, by decide, by decide⟩, by decide +kernel⟩, hall_casts, by decide +kernel⟩

/-- The grant with MP0, MP1 waiting; MP0 waiting behind MP1; and no holder. -/
def mine : State :=
  { hall with arb := { Arbiter.fresh with holder := some .mp0, rooms := [0, 1], idle := some 2000,
                                          waiters := [{ port := .mp1, rooms := [0] }] } }
def queued : State := { hall with arb := { hall.arb with waiters := [{ port := .mp0, rooms := [0] }] } }
def idle : State := { hall with arb := Arbiter.fresh }

theorem mine_accepts : Accepted mine hdr .timetable := accepted_of (by decide +kernel)

theorem test_witness_BatchIsOpened :
    (Accepted mine hdr .timetable ∧ mine.arb.holder = some hdr.port) ∧
    (Accepted queued hdr .timetable ∧ ∃ w ∈ queued.arb.waiters, w.port = hdr.port) ∧
    (Accepted hall hdr .timetable ∧ hall.arb.holder ≠ some hdr.port ∧ (∀ w ∈ hall.arb.waiters, w.port ≠ hdr.port) ∧
      8 < (List.replicate 9 0).length ∧ [2] ≠ [] ∧ [2].length ≤ 8 ∧
      (∃ n ∈ [2], ∀ r : RoomId, r.val = n → (hall.roomSetup r).enabled = false) ∧
      [0, 0] = ([0, 0] : List RoomId).map Fin.val ∧ ¬ ([0, 0] : List RoomId).Nodup ∧
      (∀ r ∈ ([0, 1] : List RoomId), (hall.roomSetup r).enabled = true) ∧ ([0, 1] : List RoomId).Nodup ∧
      hall.arb.holder ≠ none) ∧
    (Accepted idle hdr .timetable ∧ idle.arb.holder = none ∧ idle.arb.waiters = [] ∧
      ∀ r ∈ ([0, 1] : List RoomId), (idle.roomSetup r).enabled = true) :=
  ⟨⟨mine_accepts, by decide +kernel⟩, ⟨accepted_of (by decide +kernel), by decide +kernel⟩,
    ⟨hall_accepts _, by decide +kernel, by decide +kernel, by decide, by decide, by decide,
      ⟨2, by decide, by decide +kernel⟩, by decide, by decide, by decide +kernel, by decide, by decide +kernel⟩,
    accepted_of (by decide +kernel), by decide +kernel⟩

/-- The grant with MP0 and so many records staged. -/
def staged (n : Nat) : State := { mine with arb := { mine.arb with staging := List.replicate n (.drop 0 7) } }

theorem test_witness_StagingAppends :
    (Accepted hall hdr .timetable ∧ hall.arb.holder ≠ some hdr.port) ∧
    (Accepted mine hdr .timetable ∧ mine.arb.holder = some hdr.port ∧ (∀ r ∈ mine.arb.rooms, r.val ≠ 2) ∧ 1 ∈ mine.arb.rooms) ∧
    (requestOf (.stagePut hdr 1 latest) = some (hdr, 0x19, .timetable) ∧ PutFields.InTime latest ∧ PutFields.InRange latest ∧
      ¬ PutFields.InTime { put with day := 16 } ∧ ¬ PutFields.InRange { put with tag := 0 }) ∧
    (requestOf (.stageDrop hdr 1 65536) = some (hdr, 0x1A, .timetable) ∧ ¬ (1 ≤ 65536 ∧ 65536 ≤ 65535)) ∧
    (requestOf (.stageMark hdr 1 0 noMarks noMarks) = some (hdr, 0x1B, .timetable) ∧ ¬ (1 ≤ 0 ∧ 0 ≤ 65535)) ∧
    (requestOf (.stageClearDay hdr 1 15) = some (hdr, 0x1C, .timetable) ∧ 15 ≤ 15 ∧ ¬ 16 ≤ 15) ∧
    ((staged 32).arb.holder = some hdr.port ∧ 32 < (staged 32).arb.staging.length + 1 ∧
      (staged 31).arb.staging.length < 32 ∧ stagedBytes ((staged 31).arb.staging ++ [.clearDay 1 15]) ≤ 1024) :=
  ⟨⟨hall_accepts _, by decide +kernel⟩, ⟨mine_accepts, by decide +kernel⟩,
    ⟨rfl, inTime_of (by decide), inRange_of (by decide), fun x => absurd x.day (by decide),
      fun x => absurd x.tagLow (by decide)⟩, ⟨rfl, by decide⟩, ⟨rfl, by decide⟩, ⟨rfl, by decide⟩, by decide +kernel⟩

def failing : State := { mine with arb := { mine.arb with staging := [.clearDay 0 15, .drop 0 8] } }
def passing : State := { mine with arb := { mine.arb with staging := [.drop 0 7, .put 1 latest] } }

/-- What a trial of a state's staging list answers, in brief: the failing index, or the number of records removed. -/
def trial (s : State) : Nat ⊕ Nat :=
  match Trial.run .mp0 { st := s, stored := [], removed := 0 } 0 s.arb.staging with
  | .error (i, _) => .inl i
  | .ok t => .inr t.removed

theorem test_witness_CommitAppliesAllOrNothing :
    (Accepted hall hdr .timetable ∧ hall.arb.holder ≠ some hdr.port) ∧
    (Accepted failing hdr .timetable ∧ failing.arb.holder = some hdr.port ∧ trial failing = .inl 1) ∧
    (Accepted passing hdr .timetable ∧ passing.arb.holder = some hdr.port ∧ trial passing = .inr 1) :=
  ⟨⟨hall_accepts _, by decide +kernel⟩, ⟨accepted_of (by decide +kernel), by decide +kernel⟩,
    accepted_of (by decide +kernel), by decide +kernel⟩

/-- Room 1 is held in hall; room 0 is not; room 2 is disabled. -/
theorem test_witness_TrialTreatsRecordsAsRequests :
    Accepted hall hdr .timetable ∧ 0 ∉ hall.arb.rooms ∧ 1 ∈ hall.arb.rooms ∧
    ((hall.timetable 0).map Entry.tag).Nodup ∧ ((hall.timetable 1).map Entry.tag).Nodup ∧
    (PutFields.InTime latest ∧ PutFields.InRange latest ∧ trial { hall with arb.staging := [.put 1 latest] } = .inr 0) ∧
    (PutFields.InTime { meeting with supersede := 0 } ∧ PutFields.InRange { meeting with supersede := 0 } ∧
      trial { hall with arb.staging := [.put 0 { meeting with supersede := 0 }] } = .inl 0) ∧
    trial { hall with arb.staging := [.drop 0 8] } = .inl 0 ∧ trial { hall with arb.staging := [.drop 0 7] } = .inr 1 ∧
    trial { hall with arb.staging := [.mark 0 8 noMarks noMarks] } = .inl 0 ∧
    trial { hall with arb.staging := [.mark 0 7 noMarks noMarks] } = .inr 0 ∧
    trial { hall with arb.staging := [.clearDay 2 15] } = .inl 0 ∧
    trial { hall with arb.staging := [.clearDay 1 15] } = .inr 0 ∧
    trial { hall with arb.staging := [.clearDay 0 2] } = .inr 2 :=
  ⟨hall_accepts _, by decide +kernel, by decide +kernel, by decide +kernel, by decide +kernel,
    ⟨inTime_of (by decide), inRange_of (by decide), by decide +kernel⟩,
    ⟨inTime_of (by decide), inRange_of (by decide), by decide +kernel⟩, by decide +kernel⟩

theorem test_witness_AbandonAndIdleExpiryRelease :
    (Accepted hall hdr .timetable ∧ hall.arb.holder ≠ some hdr.port) ∧
    (Accepted mine hdr .timetable ∧ mine.arb.holder = some hdr.port) ∧
    hall.run = .running ∧ hall.arb.holder = some .mp1 ∧ hall.arb.idle.isSome = true :=
  ⟨⟨hall_accepts _, by decide +kernel⟩, ⟨mine_accepts, by decide +kernel⟩, by decide +kernel⟩

theorem test_witness_ArbiterAndFaultSettingsAreStored : Accepted hall hdr .setup ∧ 1 < 2 ∧ 1 ≤ 1 ∧
    3 < { modes with trip := 4 }.trip ∧ { modes with retryTime := 16 }.retryTime ∉ [5, 15, 60, 300] ∧
    mode? modes.noAnswer = some .retry ∧ mode? { modes with trip := 3 }.trip = some .ignore ∧ modes.retryTime ∈ [5, 15, 60, 300] :=
  ⟨hall_accepts _, by decide⟩

/-! #### Signs -/

theorem hall_free (i : SignId) (j : Job) (h : hall.jobOf i = some j) (x : (hall.jobOf i).all (fun k => k.isReady) = true) :
    j.state = .ready := by
  rw [h] at x; simpa [Job.isReady] using x

theorem test_witness_SignsAreMapped :
    Accepted hall hdr .setup ∧ 95 < 96 ∧ 5 < { place with line := 6 }.line ∧
    (place.line = (0 : LineId).val ∧ place.position = (9 : Position).val ∧ role? place.role = some .plate ∧
      class? place.cls = some .small) ∧
    (hall.roomSetup 2).enabled = false ∧ (hall.roomSetup 0).enabled = true ∧
    (∃ j m, j ≠ (5 : SignId) ∧ hall.mapping j = some m ∧ m.line = 0 ∧ m.position = 1) ∧
    (∀ j m, j ≠ (3 : SignId) → hall.mapping j = some m → m.line = 0 → m.position ≠ 9) ∧
    (∃ j, hall.jobOf 1 = some j ∧ j.state ≠ .ready) ∧ (∀ j, hall.jobOf 3 = some j → j.state = .ready) ∧
    (∀ j, hall.jobOf 95 = some j → j.state = .ready) ∧ hall.mapping 95 = none ∧ hall.mapping 3 = some (at0 3) := by
  refine ⟨hall_accepts _, by decide, by decide, by decide, by decide +kernel, by decide +kernel,
    ⟨1, at0 1, by decide +kernel⟩, fun j m _ h _ => ?_, ⟨job 1 .sending, by decide +kernel⟩,
    fun j h => hall_free _ j h (by decide +kernel), fun j h => hall_free _ j h (by decide +kernel), by decide +kernel⟩
  have x : ∀ i, (hall.mapping i).all (fun m => m.position != 9) = true := by decide +kernel
  simpa [h] using x j

theorem test_witness_TestPatternsAreSet : Accepted hall hdr .setup ∧ (∃ n ∈ [0, 96], 95 < n) ∧ ¬ [0, 0].Nodup ∧ 3 < 4 ∧
    ([0, 95] : List SignId) ≠ [] ∧ ([0, 95] : List SignId).Nodup ∧ 3 ≤ 3 :=
  ⟨hall_accepts _, by decide⟩

def shown : SignRecord := { SignRecord.fresh with delivered := some digest }

theorem test_witness_HandedSignsAreSettled :
    (hall.mapping 0 = some (at0 0) ∧ (hall.sign 0).test = none ∧ ((hall.line 0).jobs.map Job.sign).Nodup ∧
      (hall.line 0).jobOf 0 = none ∧ (hall.sign 0).fault = .none ∧
      ({ hall.sign 0 with wanted := some digest } : SignRecord).matched = false) ∧
    (((hall.setSign 0 shown).line 0).jobOf 0 = none ∧ ((hall.setSign 0 shown).sign 0).fault = .none ∧
      ({ (hall.setSign 0 shown).sign 0 with wanted := some digest } : SignRecord).matched = true) ∧
    (hall.mapping 4 = some (at0 4) ∧ (hall.line 0).jobOf 4 = none ∧ (hall.sign 4).fault ≠ .none) ∧
    ((hall.line 0).jobOf 1 = some (job 1 .sending) ∧ (job 1 .sending).state ≠ .ready) ∧
    ((hall.line 0).jobOf 3 = some (job 3 .ready) ∧
      ({ hall.sign 3 with wanted := some digest } : SignRecord).matched = false) ∧
    ({ (hall.setSign 3 shown).sign 3 with wanted := some digest } : SignRecord).matched = true := by decide +kernel

/-! #### Delivery -/

/-- hall with another line 0. -/
def withLine (f : LineRecord → LineRecord) : State := hall.updLine 0 f

/-- Line 0 with one job and one exchange. -/
def alone (j : Job) (x : Option Exchange) : State := withLine (fun ln => { ln with jobs := [j], transmitter := x })

theorem test_witness_JobsAreMade :
    hall.run = .running ∧ (hall.line 1).mode ≠ .active ∧
    8 ≤ ((withLine (fun ln => { ln with jobs := List.replicate 8 (job 1 .ready) })).line 0).jobs.length ∧
    (∀ i ∈ ((withLine (fun ln => { ln with dirty := [1] })).line 0).dirty, ∃ j ∈ (hall.line 0).jobs, j.sign = i) ∧
    ((hall.line 0).mode = .active ∧ (hall.line 0).jobs.length < 8 ∧ (hall.line 0).dirty = [] ++ 0 :: [] ∧
      hall.mapping 0 = some (at0 0) ∧ (∀ j ∈ (hall.line 0).jobs, j.sign ≠ 0) ∧ (hall.sign 0).link ≠ .absent ∧
      ∀ k ∈ (0 : SignId) :: [], hall.urgentSign k ≠ true) ∧
    (hall.setEval 0 { EvalRecord.disabled with shown := some (5, .urgent) }).urgentSign 0 = true ∧
    ({ shown with test := some .white }.test ≠ none ∧ SignRecord.fresh.delivered = none ∧ shown.delivered = some digest ∧
      shown.test = none ∧ { shown with wanted := some digest }.wanted = some digest) := by decide +kernel

theorem test_witness_JobsAreStarted :
    hall.run = .running ∧ (hall.line 1).mode ≠ .active ∧ (∃ j ∈ (hall.line 0).jobs, j.state = .sending) ∧
    (hall.lineSetup 0).limit ≤ (hall.line 0).inFlight ∧
    ((withLine (fun ln => { ln with roll := some { next := 0, resent := false, found := [] } })).line 0).roll ≠ none ∧
    ((job 3 .ready).state = .ready ∧ (job 3 .ready).urgent = false ∧ hall.mapping 3 = some (at0 3) ∧
      ((withLine (fun ln => { ln with jobs := [job 2 .refreshing, job 3 .ready], budget := 3 })).line 0).jobs =
        [job 2 .refreshing] ++ job 3 .ready :: [] ∧
      (∀ k ∈ [job 2 .refreshing], k.state ≠ .ready ∧ k.state ≠ .sending) ∧
      ((withLine (fun ln => { ln with jobs := [job 2 .refreshing, job 3 .ready], budget := 3 })).line 0).inFlight < 2 ∧
      ([job 2 .refreshing, job 3 .ready].map Job.sign).Nodup ∧ ((min (job 3 .ready).cost 40 : Nat) : Int) ≤ 3) ∧
    ({ job 3 .ready with urgent := true }.urgent = true ∧ -((40 : Nat) : Int) ≤ -37 - (min (job 3 .ready).cost 40 : Nat)) ∧
    (∀ k ∈ ((alone (job 2 .refreshing) none).line 0).jobs, k.state ≠ .ready) ∧
    (((alone { job 3 .ready with urgent := true } none).line 0).jobs = [] ++ { job 3 .ready with urgent := true } :: [] ∧
      (-38 : Int) - (min (job 3 .ready).cost 40 : Nat) < -((40 : Nat) : Int)) ∧
    (((alone (job 3 .ready) none).line 0).jobs = [] ++ job 3 .ready :: [] ∧
      (∀ k ∈ ((alone (job 3 .ready) none).line 0).jobs, k.state = .ready → k.urgent = false) ∧
      (2 : Int) < ((min (job 3 .ready).cost 40 : Nat) : Int)) := by
  decide +kernel

/-- The hypotheses on a sign with a job, from hall's line 0 after a change of its jobs. -/
theorem hasJob_of (s : State) (i : SignId) (m : Mapping) (j : Job)
    (x : s.run = .running ∧ s.mapping i = some m ∧ m.line = 0 ∧ (s.line 0).jobs.find? (fun x => x.sign == i) = some j ∧
      ((s.line 0).jobs.map Job.sign).Nodup ∧ (s.sign i).fault = .none) : HasJob s 0 i m j :=
  ⟨x.1, x.2.1, x.2.2.1, x.2.2.2.1, x.2.2.2.2.1, x.2.2.2.2.2⟩

def long : Job := { job 1 .sending with content := some (.board (List.replicate 121 0x41#8)) }

theorem test_witness_FramesAreAcknowledged :
    (HasJob hall 0 1 (at0 1) (job 1 .sending) ∧ (job 1 .sending).state = .sending ∧
      (hall.line 0).transmitter = some (.job 1 0) ∧ (2 : Position) ≠ (at0 1).position ∧
      frameCount (job 1 .sending).content ≤ 0 + 1 ∧ (job 1 .sending).resends = 0) ∧
    (HasJob (alone long (some (.job 1 0))) 0 1 (at0 1) long ∧ 0 + 1 < frameCount long.content) ∧
    (HasJob (alone { long with resends := 1 } (some (.job 1 1))) 0 1 (at0 1) { long with resends := 1 } ∧
      { long with resends := 1 }.resends ≠ 0 ∧ frameCount long.content ≤ 1 + 1) :=
  ⟨⟨hasJob_of _ _ _ _ (by decide +kernel), by decide +kernel⟩, ⟨hasJob_of _ _ _ _ (by decide +kernel), by decide +kernel⟩,
    hasJob_of _ _ _ _ (by decide +kernel), by decide +kernel⟩

def polled : State := alone (job 2 .refreshing) (some (.poll 2 true))
def polledTwice : State := alone { job 2 .refreshing with resends := 1 } (some (.poll 2 true))

theorem test_witness_PollsGoRound :
    (hall.run = .running ∧ (hall.line 0).pollTimer = true ∧ (hall.line 0).round = [] ∧ (hall.line 1).pollTimer = false) ∧
    (∀ i b, (hall.line 0).transmitter ≠ some (.poll i b)) ∧
    ((withLine (fun ln => { ln with round := [2] })).line 0).round ≠ [] ∧ (hall.line 0).transmitter ≠ none ∧
    ((alone (job 2 .refreshing) none).run = .running ∧ ((alone (job 2 .refreshing) none).line 0).transmitter = none ∧
      ((alone (job 2 .refreshing) none).line 0).roll = none ∧
      (∀ j ∈ ((alone (job 2 .refreshing) none).line 0).jobs, j.state ≠ .sending) ∧
      startCandidate on { (alone (job 2 .refreshing) none).line 0 with round := [2] } = none) ∧
    (HasJob polled 0 2 (at0 2) (job 2 .refreshing) ∧ (polled.line 0).transmitter = some (.poll 2 true) ∧
      (job 2 .refreshing).resends = 0) ∧
    (HasJob polledTwice 0 2 (at0 2) { job 2 .refreshing with resends := 1 } ∧
      (polledTwice.line 0).transmitter = some (.poll 2 true)) ∧
    ((alone (job 2 .ready) (some (.poll 1 false))).line 0).transmitter = some (.poll 1 false) := by
  refine ⟨by decide +kernel, fun i b h => ?_, by decide +kernel, by decide +kernel, by decide +kernel,
    ⟨hasJob_of _ _ _ _ (by decide +kernel), by decide +kernel⟩, ⟨hasJob_of _ _ _ _ (by decide +kernel), by decide +kernel⟩,
    by decide +kernel⟩
  have x : (hall.line 0).transmitter = some (.job 1 0) := by decide +kernel
  rw [x] at h; cases h

theorem test_witness_RefreshesEnd :
    HasJob polled 0 2 (at0 2) (job 2 .refreshing) ∧ (job 2 .refreshing).state = .refreshing ∧
    (polled.line 0).transmitter = some (.poll 2 true) ∧ (job 2 .refreshing).target = some digest ∧
    0x0501#16 = digest.full ∧ (job 2 .refreshing).target.map Digests.full ≠ some 0x0500#16 :=
  ⟨hasJob_of _ _ _ _ (by decide +kernel), by decide +kernel⟩

/-! #### Lines -/

/-- Line 0 in a roll call that stands at a position, resent or not. -/
def calling (pos : Position) (resent : Bool) : State :=
  withLine (fun ln => { ln with jobs := [job 2 .refreshing], transmitter := some (.roll pos)
                                roll := some { next := pos, resent := resent, found := [] } })

theorem signs_at (pos : Position) (j : SignId) (n : Mapping) (r : Bool) (h : (calling pos r).mapping j = some n) :
    n.position = ⟨j.val % 16, by omega⟩ ∧ j.val ≤ 4 := by
  have x : ∀ j : SignId, (hall.mapping j).all (fun n => decide (n.position = ⟨j.val % 16, by omega⟩ ∧ j.val ≤ 4)) = true := by
    decide +kernel
  have y : (calling pos r).mapping j = hall.mapping j := rfl
  rw [y] at h
  simpa [h] using x j

theorem test_witness_RollCallsFindSigns :
    (hall.run = .running ∧ (hall.line 1).mode = .waking ∧ (hall.line 1).settle = true) ∧
    ((withLine (fun ln => { ln with interval := some 10 })).line 0).interval ≠ none ∧ (hall.line 0).mode = .active ∧
    (hall.line 0).roll = none ∧
    ((withLine (fun ln => { ln with transmitter := none, jobs := [], roll := some { next := 0, resent := false, found := [] } })).line
      0).transmitter = none ∧
    (((calling 15 false).line 0).roll = some { next := 15, resent := false, found := [] } ∧
      ((calling 15 false).line 0).transmitter = some (.roll 15) ∧ (14 : Position) ≠ 15) ∧
    (∀ i m, (calling 15 true).mapping i = some m → m.line = 0 → m.position ≠ 15) ∧
    ((calling 0 true).mapping 0 = some (at0 0) ∧
      ∀ j n, (calling 0 true).mapping j = some n → n.line = 0 → n.position = 0 → j = 0) ∧
    ((calling 0 true).sign 0).link ≠ .absent ∧ ((calling 0 true).sign 0).fault = .none ∧
    (((calling 0 true).line 0).jobs.map Job.sign).Nodup ∧ ((calling 0 true).line 0).jobOf 0 = none ∧
    ((calling 2 true).line 0).jobOf 2 = some (job 2 .refreshing) ∧
    (((calling 4 true).sign 4).link ≠ .absent ∧ ((calling 4 true).sign 4).fault = .latched ∧
      ((calling 4 true).line 0).jobOf 4 = none) ∧
    (((calling 0 true).setSign 0 { SignRecord.fresh with fault := .retryWait, retry := .running 3 }).sign 0).fault =
      .retryWait := by
  refine ⟨by decide +kernel, by decide +kernel, by decide +kernel, by decide +kernel, by decide +kernel, by decide +kernel,
    fun i m h _ p => ?_, ⟨by decide +kernel, fun j n h _ p => ?_⟩, by decide +kernel⟩
  · obtain ⟨a, b⟩ := signs_at _ _ _ _ h
    have := congrArg Fin.val (a.symm.trans p); simp at this; omega
  · obtain ⟨a, b⟩ := signs_at _ _ _ _ h
    have := congrArg Fin.val (a.symm.trans p); simp at this; ext; simp; omega

theorem test_witness_LineSettingsTakeEffect :
    Accepted hall hdr .setup ∧ 5 < 6 ∧ { settings with refreshLimit := 3 }.refreshLimit ∉ [2, 4, 8, 16] ∧
    (settings.enabled ≤ 1 ∧ settings.refreshLimit ∈ [2, 4, 8, 16] ∧ { settings with interval := 60 }.interval ≤ 60 ∧
      settings.filter ∈ [1, 2, 4, 8] ∧ settings.grouping ≤ 1) ∧
    ({ settings with enabled := 0 }.enabled = 0 ∧ 0 < (hall.line 0).inFlight ∧ max 1 (min 4 1) < (hall.line 0).inFlight) ∧
    ((hall.line 0).inFlight ≤ max 1 (min 4 settings.limit) ∧ (hall.line 0).mode ≠ .off) ∧
    ((hall.line 5).inFlight = 0 ∧ (hall.line 5).mode = .off ∧ (hall.line 1).inFlight = 0 ∧ (hall.line 1).mode ≠ .off) ∧
    hall.quiet ≠ .settling :=
  ⟨hall_accepts _, by decide +kernel⟩

/-- The hub in a quiet state, with nothing on line 0 and line 1 asleep. -/
def drowsy (q : QuietState) : State :=
  { (withLine (fun ln => { ln with jobs := [], dirty := [], transmitter := none })).updLine 1
      (fun ln => { ln with mode := .quiet }) with quiet := q }

theorem drowsy_accepts (q : QuietState) (need : Need) : Accepted (drowsy q) hdr need := by
  apply accepted_of; cases q <;> cases need <;> decide +kernel

theorem test_witness_LinesSleepAndWake :
    (Accepted (drowsy .awake) hdr .setup ∧ Accepted (drowsy .disabled) hdr .setup ∧ Accepted (drowsy .quiet) hdr .setup ∧
      1 < 2 ∧ 30 = max 30 (min 480 20) ∧ 29 = (if 30 ≤ max 10 (min 470 700) then 30 - 1 else max 10 (min 470 700))) ∧
    (∀ r, ((drowsy .settling).roomSetup r).enabled = true →
      roomWakes { enable := true, qEnter := 30, qExit := 29 } ((drowsy .settling).eval r) = false) ∧
    ((((drowsy .quiet).setEval 0 { EvalRecord.disabled with gap := some 29 }).roomSetup 0).enabled = true ∧
      roomWakes { enable := true, qEnter := 30, qExit := 29 }
        (((drowsy .quiet).setEval 0 { EvalRecord.disabled with gap := some 29 }).eval 0) = true) ∧
    ((drowsy .settling).run = .running ∧ (drowsy .settling).quiet = .settling ∧
      ((drowsy .settling).lineSetup 0).enabled = true ∧ ((drowsy .settling).line 0).mode = .active ∧
      ((drowsy .settling).line 0).jobs = [] ∧ ((drowsy .settling).line 0).dirty = [] ∧
      ((drowsy .settling).line 0).roll = none) ∧
    ((drowsy .settling).line 1).mode ≠ .active :=
  ⟨⟨drowsy_accepts _ _, drowsy_accepts _ _, drowsy_accepts _ _, by decide⟩, by decide +kernel⟩

/-- Line 0 with a current in excess, PAIRED; and line 0 held. -/
def hot : State := (withLine (fun ln => { ln with excess := true })).setGrouping .paired
def held (x : Hold) : State :=
  withLine (fun ln => { ln with mode := .tripped, jobs := [], transmitter := none, hold := x })

theorem test_witness_LinesTripAndAreRestored :
    (hot.run = .running ∧ (hot.line 0).mode = .active ∧ (hot.line 0).excess = true ∧
      ((hot.line 0).jobs.map Job.sign).Nodup ∧ ((hot.line (partner 0)).jobs.map Job.sign).Nodup ∧
      hot.setup.grouping = .paired ∧ (hot.line (partner 0)).mode = .waking ∧ hot.quiet ≠ .settling) ∧
    (hall.setup.grouping = .separate ∧ (hall.line (partner 4)).mode = .off ∧ (hall.line 5).mode ≠ .waking ∧
      (hall.line 5).mode ≠ .active) ∧
    (((held (.waiting 1)).line 0).hold = .waiting 1 ∧ (hall.line 0).hold = .none) ∧
    (Accepted hall hdr .setup ∧ 5 < 6) ∧ (Accepted (held .latched) hdr .setup ∧ ((held .latched).line 0).hold ≠ .none) :=
  ⟨by decide +kernel, by decide +kernel, by decide +kernel, ⟨hall_accepts _, by decide⟩, accepted_of (by decide +kernel),
    by decide +kernel⟩

/-- Sign 0 in its last second of a retry wait. -/
def waiting : State := hall.setSign 0 { SignRecord.fresh with fault := .retryWait, retry := .running 1 }

theorem test_witness_SignFaultsEnd :
    (Accepted hall hdr .setup ∧ 95 < 96 ∧ (hall.sign 0).fault = .none ∧ hall.mapping 4 = some (at0 4) ∧
      (hall.sign 4).fault ≠ .none) ∧
    (waiting.run = .running ∧ waiting.mapping 0 = some (at0 0) ∧ (waiting.line (at0 0).line).jobOf 0 = none ∧
      (waiting.sign 0).retry = .running 1) ∧
    (hall.line (at0 0).line).jobOf 0 = none ∧ (hall.sign 0).retry = .stopped :=
  ⟨⟨hall_accepts _, by decide +kernel⟩, by decide +kernel⟩

/-! #### Store and starts -/

/-- A hub without jobs and without a holder that loads the stored copy. -/
def loading (valid : Bool) : State :=
  { withLine (fun ln => { ln with jobs := [], transmitter := none }) with
    arb := Arbiter.fresh, store := .loading .mp2
    stored := if valid then StoredCopy.sealed { image := hall.setup, check := none } else { image := hall.setup, check := none } }

/-- A load that needs more cells than are free: the image names 64 rooms, and every cell is in use. -/
def crowded : State :=
  { loading true with
    timetables := hall.timetables.set 1 (List.replicate 381 { entry 300 0 1 noMarks with title := List.replicate 80 0x41#8 })
    stored := StoredCopy.sealed { image := { hall.setup with rooms := Vector.replicate 64 open1 }, check := none } }

theorem test_witness_SetupIsSavedAndLoaded :
    (Accepted hall hdr .setup ∧ hall.arb.holder ≠ none ∧ ∃ j, j ∈ (hall.line 0).jobs) ∧
    (Accepted { loading true with store := .blank } hdr .setup ∧ (loading true).arb.holder = none ∧
      ∀ l, ((loading true).line l).jobs = []) ∧
    (saving.run = .running ∧ saving.store = .saving .mp1) ∧
    ((loading false).run = .running ∧ (loading false).store = .loading .mp2 ∧ (loading false).stored.valid = false) ∧
    ({ loading true with arb := hall.arb }.arb.holder ≠ none ∧ { loading true with arb := hall.arb }.stored.valid = true) ∧
    ((loading true).stored.valid = true ∧ nameCells (loading true).stored.image.rooms ≤
      (loading true).freeCells + nameCells (loading true).setup.rooms + (loading true).doomedCells (loading true).stored.image) ∧
    (crowded.store = .loading .mp2 ∧ crowded.stored.valid = true ∧ (∀ l, (crowded.line l).jobs = []) ∧
      crowded.freeCells + nameCells crowded.setup.rooms + crowded.doomedCells crowded.stored.image <
        nameCells crowded.stored.image.rooms) :=
  ⟨⟨hall_accepts _, by decide +kernel, job 1 .sending, by decide +kernel⟩,
    ⟨accepted_of (by decide +kernel), by decide +kernel⟩, by decide +kernel, by decide +kernel,
    ⟨by decide +kernel, StoredCopy.sealed_valid _⟩, ⟨StoredCopy.sealed_valid _, by decide +kernel⟩,
    ⟨by decide +kernel, StoredCopy.sealed_valid _, by decide +kernel⟩⟩

theorem test_witness_HubIsClearedStartedAndStopped :
    (Accepted hall hdr .setup ∧ hall.mapping 0 = some (at0 0) ∧ (hall.roomSetup (at0 0).room).enabled = true ∧
      ((hall.line 0).jobs.map Job.sign).Nodup) ∧
    ({ hall with run := .off }.run = .off ∧ { hall with run := .off }.resetPin = false) ∧
    ({ hall with run := .off, resetPin := true }.run = .off ∧ { hall with run := .off, resetPin := true }.resetPin = true) ∧
    { hall with run := .held }.run = .held ∧ hall.run = .running ∧ { hall with run := .held }.run ≠ .off ∧
    { hall with run := .held }.run ≠ .running ∧ hall.run ≠ .held :=
  ⟨⟨hall_accepts _, by decide +kernel⟩, ⟨rfl, rfl⟩, ⟨rfl, rfl⟩, rfl, by decide +kernel⟩

/-! ### One step at a time -/

/-- What a step answers, when it answers a next state. -/
def after (c : Instr) (s : State) : State :=
  match step { s with pending := [c] } with
  | .next t => t
  | _ => s

/-- R181, R174, R118: after power-on CLOCK is pending, the store is BLANK, and every line is OFF with b at its capacity. -/
theorem test_power_on : (after (.powerOn 5 .b460800) { State.reset with run := .off }).address = 5 ∧
    (after (.powerOn 5 .b460800) { State.reset with run := .off }).store = .blank ∧
    (after (.powerOn 5 .b460800) { State.reset with run := .off }).attentionLine .mp2 = true ∧
    ((after (.powerOn 5 .b460800) { State.reset with run := .off }).line 3).budget = 40 := by decide +kernel

/-- R181: a pin that goes low while the hub is off holds it at power-on, and its release starts the hub. -/
theorem test_pin_holds_power_on :
    (after (.powerOn 5 .b460800) (after .resetPinAssert { State.reset with run := .off })).run = .held ∧
    (after .resetPinRelease (after (.powerOn 5 .b460800) (after .resetPinAssert { State.reset with run := .off }))).startCause =
      .pin := by decide +kernel

/-- R149: a position that answered unmapped and is mapped before the call completes is no extra. -/
theorem test_mapped_position_is_no_extra :
    ((after (.rollAnswerWaitExpiry 0) (after (.mapSign hdr 5 place) ((calling 15 true).updLine 0 (fun ln =>
      { ln with roll := some { next := 15, resent := true, found := [8, 9] } })))).line 0).extras = [8] := by decide +kernel

/-- R12, R15: a put that supersedes tag 7 leaves the cancelled tag 9 and the new tag 8. -/
theorem test_put_supersedes : ((after (.putEntry hdr 0 meeting) hall).timetable 0).map Entry.tag = [8, 9] := by
  decide +kernel

/-- R28, R118: the minute comes at second 59, and b is refilled by 8. -/
theorem test_second_boundary : (after .secondBoundary hall).clock.absolute = 3480 ∧
    ((after .secondBoundary hall).line 0).budget = 28 := by decide +kernel

/-- R69: the notice that expires at 3481 stands at 3480 and goes at 3481. -/
theorem test_notice_expires : (after .minuteBoundary hall).notices.length = 1 ∧
    (after .minuteBoundary (atTime 2 600 59)).notices = [] := by decide +kernel

/-- R121: b falls by the effective cost, here from 20 to 17. -/
theorem test_job_starts : ((after (.jobStart 0) (alone (job 3 .ready) none)).line 0).budget = 17 ∧
    ((after (.jobStart 0) (alone (job 3 .ready) none)).line 0).transmitter = some (.job 3 0) := by decide +kernel

/-- R123, R153: a mismatch under RETRY puts the sign in RETRY_WAIT for 15 s, with its job's cost spent. -/
theorem test_mismatch_waits : ((after (.doneOrIdle 0 2 0x0500#16) polled).sign 2).fault = .retryWait ∧
    ((after (.doneOrIdle 0 2 0x0500#16) polled).sign 2).retry = .running 15 ∧
    ((after (.doneOrIdle 0 2 0x0500#16) polled).line 0).jobs = [] ∧
    ((after (.doneOrIdle 0 2 0x0500#16) polled).line 0).budget = 20 := by decide +kernel

/-- R79, R80: the idle timer's end hands the grant to the waiting MP0, with GRANT there and WITHDRAW on MP1. -/
theorem test_idle_expiry_grants : (after .idleTimerExpiry queued).arb.holder = some .mp0 ∧
    hasFlag ((after .idleTimerExpiry queued).port .mp0).raised .grant = true ∧
    hasFlag ((after .idleTimerExpiry queued).port .mp1).raised .withdraw = true := by decide +kernel

/-- R143, R144: in PAIRED grouping both lines of the pair are off, and only the line that tripped counts. -/
theorem test_trip_takes_the_partner : (after (.trip 0) hot).lines.toList.map (fun ln => (ln.mode, ln.trips)) =
    [(.tripped, 1), (.tripped, 0), (.off, 0), (.off, 0), (.off, 0), (.off, 0)] := by decide +kernel

end Sys2Proof.Tests
end

section
/-! PROOFS. The reads READ_STATUS, READ_ROOM, READ_ENTRY and READ_NOTICE (R25, R26, R72, R171). A read is a request whose
block leaves the state as it was taken, so it is answered and nothing else changes; taking a request touches only the idle
timer and the port's monitor, so of all reports only the monitors of READ_STATUS see it. -/

namespace Sys2Proof.Machine

/-! ### Requests that change nothing -/

section Unchanging
variable {s : State} {h : Header} {need : Need} {code : Nat} {cast : State → Option State} {serve : State → Served}

/-- R168: an accepted request whose block only reports is answered OK, with nothing else changed. -/
theorem State.request_okWith (a : Accepted s h need) {r : Result}
    (hserve : serve (s.take h.port) = okWith (s.take h.port) r) :
    s.request h code need cast serve = s.answeredWith h code .ok r := by
  rw [State.request_accepted a, hserve]
  exact s.answer_unchanged h code _ rfl rfl

/-- R168: an accepted request that its block refuses is answered with the status, with nothing else changed. -/
theorem State.request_refuse (a : Accepted s h need) {st : Status}
    (hserve : serve (s.take h.port) = refuse (s.take h.port) st) :
    s.request h code need cast serve = s.answeredWith h code st .empty := by
  rw [State.request_accepted a, hserve]
  exact s.answer_unchanged h code _ rfl rfl

end Unchanging

/-! ### What a read sees of a taken request -/

@[simp] theorem State.take_freeEntries (s : State) (p : Port) : (s.take p).freeEntries = s.freeEntries := by
  simp [State.freeEntries, State.usedEntries]

@[simp] theorem State.take_usedCells (s : State) (p : Port) : (s.take p).usedCells = s.usedCells := by
  simp [State.usedCells, State.entryCells, State.noticeCells]

@[simp] theorem State.take_freeCells (s : State) (p : Port) : (s.take p).freeCells = s.freeCells := by
  simp [State.freeCells]

/-- Taking a request counts no discard. -/
@[simp] theorem State.take_discards (s : State) (p : Port) :
    (s.take p).ports.map PortRecord.discards = s.ports.map PortRecord.discards := by
  have hp : (s.port p).discards = (s.ports.map PortRecord.discards)[portIndex p] := by simp [State.port]
  rw [State.take_eq, Vector.map_set, hp]
  exact Vector.set_getElem_self _

/-- R172: the monitor of the port that takes a request is ALIVE, the others stand. -/
@[simp] theorem State.take_monitors (s : State) (p : Port) :
    (s.take p).monitors = s.monitors.set (portIndex p) .alive := by
  rw [State.take_eq, State.monitors, Vector.map_set, State.monitors]

@[simp] theorem State.take_roomReport (s : State) (p : Port) (r : RoomId) (first : Nat) :
    (s.take p).roomReport r first = s.roomReport r first := by
  simp [State.roomReport]

@[simp] theorem State.take_noticeOf (s : State) (p : Port) (id : Nat) : (s.take p).noticeOf id = s.noticeOf id := by
  simp [State.noticeOf]

/-! ### What is named, and what is not there -/

@[simp] theorem room?_val (r : RoomId) : room? r.val = some r := dif_pos r.isLt

theorem room?_of_le {n : Nat} (h : 64 ≤ n) : room? n = none := dif_neg (Nat.not_lt.2 h)

theorem State.noticeOf_none {s : State} {id : Nat} (h : ∀ n ∈ s.notices, n.id ≠ id) : s.noticeOf id = none := by
  simpa [State.noticeOf] using h

section Split
variable {s : State} {before after : List Notice} {n : Notice}

/-- The notice of an id is the first that carries it. -/
theorem State.noticeOf_split (hs : s.notices = before ++ n :: after) (hb : ∀ x ∈ before, x.id ≠ n.id) :
    s.noticeOf n.id = some n := by
  have hnone : before.find? (fun x => x.id == n.id) = none := by simpa using hb
  simp [State.noticeOf, hs, hnone]

/-- The place of that notice is the number of those before it. -/
theorem State.noticeIdx_split (hs : s.notices = before ++ n :: after) (hb : ∀ x ∈ before, x.id ≠ n.id) :
    s.notices.findIdx (fun x => x.id == n.id) = before.length := by
  have hnone : before.findIdx (fun x => x.id == n.id) = before.length := List.findIdx_eq_length.2 (by simpa using hb)
  simp [hs, List.findIdx_append, List.findIdx_cons, hnone]

end Split

/-! ### The blocks -/

theorem serveReadRoom_absent {room : Nat} (h : 64 ≤ room) (first : Nat) (s : State) :
    serveReadRoom room first s = refuse s .noRoom := by
  simp only [serveReadRoom, room?_of_le h]

theorem serveReadRoom_room (r : RoomId) (first : Nat) (s : State) :
    serveReadRoom r.val first s = okWith s (.room (s.roomReport r first)) := by
  simp only [serveReadRoom, room?_val]

theorem serveReadEntry_absent {room : Nat} (h : 64 ≤ room) (tag : Nat) (s : State) :
    serveReadEntry room tag s = refuse s .noRoom := by
  simp only [serveReadEntry, room?_of_le h]

theorem serveReadEntry_none {s : State} {r : RoomId} {tag : Nat} (h : entryOf (s.timetable r) tag = none) :
    serveReadEntry r.val tag s = refuse s .noEntry := by
  simp only [serveReadEntry, room?_val, h]

theorem serveReadEntry_some {s : State} {r : RoomId} {tag : Nat} {e : Entry}
    (h : entryOf (s.timetable r) tag = some e) : serveReadEntry r.val tag s = okWith s (.entry r e) := by
  simp only [serveReadEntry, room?_val, h]

theorem serveReadNotice_zero (s : State) :
    serveReadNotice 0 s = okWith s (.noticeList (s.notices.map (fun n => (n.id, n.level)))) := if_pos rfl

theorem serveReadNotice_none {s : State} {id : Nat} (h0 : id ≠ 0) (h : s.noticeOf id = none) :
    serveReadNotice id s = refuse s .noNotice := by
  simp only [serveReadNotice, if_neg h0, h]

theorem serveReadNotice_some {s : State} {id : Nat} {n : Notice} (h0 : id ≠ 0) (h : s.noticeOf id = some n) :
    serveReadNotice id s = okWith s (.notice n (s.notices.findIdx (fun n => n.id == id) + 1)) := by
  simp only [serveReadNotice, if_neg h0, h]

/-! ### The four requests -/

section Reads
variable {s : State} {h : Header}

/-- R171, R172: the report is of the state as it was, but for the monitor of the port that asks. -/
theorem exec_readStatus (a : Accepted s h .none) :
    exec (.readStatus h) s = .next (s.answeredWith h 0x01 .ok (.status
      { s.statusReport with monitors := s.monitors.set (portIndex h.port) .alive })) := by
  refine congrArg Host.Outcome.next (State.request_okWith a ?_)
  simp [serveStatus, State.statusReport]

theorem exec_readRoom_absent (a : Accepted s h .none) {room : Nat} (hr : 64 ≤ room) (first : Nat) :
    exec (.readRoom h room first) s = .next (s.answeredWith h 0x02 .noRoom .empty) :=
  congrArg Host.Outcome.next (State.request_refuse a (serveReadRoom_absent hr first _))

theorem exec_readRoom_room (a : Accepted s h .none) (r : RoomId) (first : Nat) :
    exec (.readRoom h r.val first) s = .next (s.answeredWith h 0x02 .ok (.room (s.roomReport r first))) := by
  refine congrArg Host.Outcome.next (State.request_okWith a ?_)
  rw [serveReadRoom_room, State.take_roomReport]

theorem exec_readEntry_absent (a : Accepted s h .none) {room : Nat} (hr : 64 ≤ room) (tag : Nat) :
    exec (.readEntry h room tag) s = .next (s.answeredWith h 0x03 .noRoom .empty) :=
  congrArg Host.Outcome.next (State.request_refuse a (serveReadEntry_absent hr tag _))

theorem exec_readEntry_none (a : Accepted s h .none) {r : RoomId} {tag : Nat}
    (he : entryOf (s.timetable r) tag = none) :
    exec (.readEntry h r.val tag) s = .next (s.answeredWith h 0x03 .noEntry .empty) :=
  congrArg Host.Outcome.next (State.request_refuse a (serveReadEntry_none (by rw [State.take_timetable, he])))

theorem exec_readEntry_some (a : Accepted s h .none) {r : RoomId} {tag : Nat} {e : Entry}
    (he : entryOf (s.timetable r) tag = some e) :
    exec (.readEntry h r.val tag) s = .next (s.answeredWith h 0x03 .ok (.entry r e)) :=
  congrArg Host.Outcome.next (State.request_okWith a (serveReadEntry_some (by rw [State.take_timetable, he])))

theorem exec_readNotice_zero (a : Accepted s h .none) :
    exec (.readNotice h 0) s =
      .next (s.answeredWith h 0x06 .ok (.noticeList (s.notices.map (fun n => (n.id, n.level))))) := by
  refine congrArg Host.Outcome.next (State.request_okWith a ?_)
  rw [serveReadNotice_zero, State.take_notices]

theorem exec_readNotice_none (a : Accepted s h .none) {id : Nat} (h0 : id ≠ 0) (hn : s.noticeOf id = none) :
    exec (.readNotice h id) s = .next (s.answeredWith h 0x06 .noNotice .empty) :=
  congrArg Host.Outcome.next (State.request_refuse a (serveReadNotice_none h0 (by rw [State.take_noticeOf, hn])))

theorem exec_readNotice_some (a : Accepted s h .none) {id : Nat} {n : Notice} (h0 : id ≠ 0)
    (hn : s.noticeOf id = some n) :
    exec (.readNotice h id) s =
      .next (s.answeredWith h 0x06 .ok (.notice n (s.notices.findIdx (fun n => n.id == id) + 1))) := by
  refine congrArg Host.Outcome.next (State.request_okWith a ?_)
  rw [serveReadNotice_some h0 ((s.take_noticeOf _ _).trans hn), State.take_notices]

end Reads

/-- Settles O25: each read is a request that reports what its block finds and leaves the state as it was taken. -/
theorem statusRoomEntryAndNoticeReadsReport : Obligations.StatusRoomEntryAndNoticeReadsReport := by
  unfold Obligations.StatusRoomEntryAndNoticeReadsReport
  intro s h a
  refine ⟨exec_readStatus a, ?noRoom, fun r first => exec_readRoom_room a r first, ?entry, exec_readNotice_zero a,
    ?noNotice, ?notice⟩
  case noRoom => exact fun room first tag hr => ⟨exec_readRoom_absent a hr first, exec_readEntry_absent a hr tag⟩
  case entry => exact fun r tag => ⟨exec_readEntry_none a, fun e => exec_readEntry_some a⟩
  case noNotice => exact fun id h0 hn => exec_readNotice_none a h0 (State.noticeOf_none hn)
  case notice =>
    intro before n after hs h0 hb
    rw [exec_readNotice_some a h0 (State.noticeOf_split hs hb), State.noticeIdx_split hs hb]

end Sys2Proof.Machine
end

section
/-! PROOFS. SET_CLOCK (R33, R34). A jump of the clock works in three parts: the catch-up, which purges, loads the clock and
expires notices and so re-evaluates the pressure level at most twice; the evaluation of every enabled room, which reaches the
delivery side alone; and the clearing of CLOCK, which reaches the port flags alone. Each part has its frame and its flags
stated once, and the request path around a jump, direct or broadcast, moves nothing that a jump reads. -/

namespace Sys2Proof.Machine

/-! ### Flags -/

/-- R174: the bit of a source is that source alone. -/
@[simp] theorem hasFlag_flag (a b : Source) : hasFlag (Source.flag a) b = decide (b = a) := by
  cases a <;> cases b <;> rfl

theorem hasFlag_or (v w : BitVec 8) (src : Source) : hasFlag (v ||| w) src = (hasFlag v src || hasFlag w src) :=
  BitVec.getLsbD_or

theorem hasFlag_clear (v w : BitVec 8) (src : Source) : hasFlag (v &&& ~~~w) src = (hasFlag v src && !hasFlag w src) := by
  have code_lt : Source.code src < 8 := by cases src <;> decide
  simp [hasFlag, code_lt]

/-- R34: a source cleared on all ports, seen at one port. -/
theorem State.lowerAll_port (s : State) (src : Source) (q : Port) :
    (s.lowerAll src).port q = { s.port q with raised := (s.port q).raised &&& ~~~Source.flag src } := by
  have h := allPorts_port (fun _ => true) (fun x => { x with raised := x.raised &&& ~~~Source.flag src }) (fun _ _ => true)
    (fun _ _ _ => rfl) s (fun _ => rfl) q
  simpa [State.lowerAll, State.lower] using h

/-- R34: clearing a source on all ports reaches the ports alone. -/
theorem State.lowerAll_eq (s : State) (src : Source) : s.lowerAll src = { s with ports := (s.lowerAll src).ports } := rfl

@[simp] theorem State.lowerAll_pressure (s : State) (src : Source) : (s.lowerAll src).pressure = s.pressure := rfl

/-! ### The pressure level -/

theorem State.freeEntries_congr {s t : State} (h : t.timetables = s.timetables) : t.freeEntries = s.freeEntries := by
  simp only [State.freeEntries, State.usedEntries, h]

theorem State.freeCells_congr {s t : State} (ht : t.timetables = s.timetables) (hn : t.notices = s.notices)
    (hs : t.setup = s.setup) : t.freeCells = s.freeCells := by
  simp only [State.freeCells, State.usedCells, State.entryCells, State.noticeCells, ht, hn, hs]

/-- R23: a re-evaluation reaches the level and the ports alone. -/
theorem State.repress_eq (s : State) :
    s.repress = { s with pressure := s.repress.pressure, ports := s.repress.ports } := by
  unfold State.repress
  simp only
  split <;> rfl

/-- R23: of a port, a re-evaluation reaches the flags alone. -/
theorem State.repress_port (s : State) (q : Port) :
    s.repress.port q = { s.port q with raised := (s.repress.port q).raised } := by
  unfold State.repress
  simp only
  split
  · rfl
  · rw [State.raiseAll_port]; rfl

/-- R23: a re-evaluation that changes the level raises PACE, and no other source. -/
theorem Repressed.hasFlag_port {s t : State} (h : Repressed s t) (q : Port) (src : Source) :
    hasFlag (t.port q).raised src = (hasFlag (s.port q).raised src || decide (src = .pace ∧ t.pressure ≠ s.pressure)) := by
  rw [h.pace q]
  by_cases e : t.pressure = s.pressure <;> simp [e, hasFlag_or]

/-! ### The catch-up: purge, load, expiry -/

/-- R34, step 1: the hub after the purge of a SET_CLOCK, if there is one. -/
def State.purgedFor (s : State) (day : Nat) : State :=
  if !s.clock.isSet || decide (s.clock.day < day) then s.purge day else s

/-- R34, steps 1 to 3: purged, with the clock loaded, and the notices expired. -/
def State.caughtUp (s : State) (day minute second : Nat) : State :=
  ({ s.purgedFor day with clock := { isSet := true, day := day, minute := minute, second := second } }).expireNotices
    (day * 1440 + minute)

/-- R34: a jump is the catch-up, the evaluation of every enabled room, and the clearing of CLOCK. -/
theorem State.jump_fst (s : State) (day minute second : Nat) :
    (s.jump day minute second).1 = ((s.caughtUp day minute second).evaluateAll .clock).lowerAll .clock := rfl

/-- R20, R34: a SET_CLOCK purges an UNSET clock, and one that goes to a later day. -/
theorem State.purgedFor_of_purges {s : State} {day : Nat} (h : s.clock.isSet = false ∨ s.clock.day < day) :
    s.purgedFor day = s.purge day := if_pos (by simpa using h)

theorem State.purgedFor_of_stays {s : State} {day : Nat} (h : ¬ (s.clock.isSet = false ∨ s.clock.day < day)) :
    s.purgedFor day = s := if_neg (by simpa using h)

/-- R69: what an expiry keeps is what is unexpired. -/
theorem expiry_filter (l : List Notice) (m : Nat) :
    l.filter (fun n => !n.expiry.any (fun e => decide (e ≤ m))) = unexpired l m := by
  refine List.filter_congr fun n _ => ?_
  cases n.expiry with
  | none => rfl
  | some e => simp only [Option.any_some, ← Nat.not_le, decide_not]

theorem State.expireNotices_def (s : State) (m : Nat) :
    s.expireNotices m = ({ s with notices := unexpired s.notices m }).repress := by
  rw [State.expireNotices, expiry_filter]

/-- R69: an expiry reaches the notices, the pressure level and the ports alone. -/
theorem State.expireNotices_eq (s : State) (m : Nat) : s.expireNotices m = { s with
    notices := unexpired s.notices m, pressure := (s.expireNotices m).pressure, ports := (s.expireNotices m).ports } := by
  rw [State.expireNotices_def]
  exact State.repress_eq _

/-- R22, R69: the level is re-evaluated after an expiry. -/
theorem State.expireNotices_repressed (s : State) (m : Nat) : Repressed s (s.expireNotices m) := by
  rw [State.expireNotices_def]
  have h := ({ s with notices := unexpired s.notices m }).repress_repressed
  exact ⟨h.level, h.pace⟩

/-- R69: of a port, an expiry reaches the flags alone. -/
theorem State.expireNotices_port (s : State) (m : Nat) (q : Port) :
    (s.expireNotices m).port q = { s.port q with raised := ((s.expireNotices m).port q).raised } := by
  rw [State.expireNotices_def]
  exact State.repress_port _ q

section CatchUp
variable (s : State) (day minute second : Nat)

/-- R20, R22: the purge reaches the timetables, the pressure level and the ports alone. -/
theorem State.purgedFor_eq : s.purgedFor day = { s with
    timetables := if s.clock.isSet = false ∨ s.clock.day < day then purged s day else s.timetables
    pressure := (s.purgedFor day).pressure, ports := (s.purgedFor day).ports } := by
  by_cases h : s.clock.isSet = false ∨ s.clock.day < day
  · rw [State.purgedFor_of_purges h, if_pos h]
    exact (s.purgeEntries day).repress_eq
  · rw [State.purgedFor_of_stays h, if_neg h]

/-- R22: the level after the purge. -/
theorem State.purgedFor_pressure {t : State} (ht : t.timetables = (s.purgedFor day).timetables) :
    (s.purgedFor day).pressure = purgeLevel s t day := by
  unfold purgeLevel
  by_cases h : s.clock.isSet = false ∨ s.clock.day < day
  · rw [if_pos h]
    rw [State.purgedFor_of_purges h] at ht ⊢
    have hd : (s.purge day).desk = (s.purgeEntries day).desk := State.repress_desk _
    have hcells : { s with timetables := t.timetables }.freeCells = (s.purge day).freeCells :=
      State.freeCells_congr ht (notices_of_desk hd).symm (setup_of_desk hd).symm
    rw [State.freeEntries_congr ht, hcells]
    exact (s.purgeEntries day).repress_repressed.level
  · rw [if_neg h, State.purgedFor_of_stays h]

/-- R20, R23: of a port, the purge reaches the flags alone. -/
theorem State.purgedFor_port (q : Port) :
    (s.purgedFor day).port q = { s.port q with raised := ((s.purgedFor day).port q).raised } := by
  by_cases h : s.clock.isSet = false ∨ s.clock.day < day
  · rw [State.purgedFor_of_purges h]
    exact (s.purgeEntries day).repress_port q
  · rw [State.purgedFor_of_stays h]

/-- R23: the purge raises PACE when it changes the level, and no other source. -/
theorem State.purgedFor_hasFlag (q : Port) (src : Source) : hasFlag ((s.purgedFor day).port q).raised src =
    (hasFlag (s.port q).raised src || decide (src = .pace ∧ (s.purgedFor day).pressure ≠ s.pressure)) := by
  by_cases h : s.clock.isSet = false ∨ s.clock.day < day
  · rw [State.purgedFor_of_purges h]
    exact (s.purgeEntries day).repress_repressed.hasFlag_port q src
  · rw [State.purgedFor_of_stays h]; simp

/-- R34: the catch-up reaches the clock, the timetables, the notices, the pressure level and the ports alone. -/
theorem State.caughtUp_eq : s.caughtUp day minute second = { s with
    clock := { isSet := true, day := day, minute := minute, second := second }
    timetables := if s.clock.isSet = false ∨ s.clock.day < day then purged s day else s.timetables
    notices := unexpired s.notices (day * 1440 + minute)
    pressure := (s.caughtUp day minute second).pressure, ports := (s.caughtUp day minute second).ports } := by
  have h : s.caughtUp day minute second = { s.purgedFor day with
      clock := { isSet := true, day := day, minute := minute, second := second }
      notices := unexpired (s.purgedFor day).notices (day * 1440 + minute)
      pressure := (s.caughtUp day minute second).pressure, ports := (s.caughtUp day minute second).ports } :=
    State.expireNotices_eq _ _
  generalize s.caughtUp day minute second = t at h ⊢
  rwa [State.purgedFor_eq] at h

/-- R22, R69: the expiry's re-evaluation of the level. -/
theorem State.caughtUp_repressed : Repressed (s.purgedFor day) (s.caughtUp day minute second) := by
  have h := State.expireNotices_repressed { s.purgedFor day with
    clock := { isSet := true, day := day, minute := minute, second := second } } (day * 1440 + minute)
  exact ⟨h.level, h.pace⟩

theorem State.caughtUp_port (q : Port) : (s.caughtUp day minute second).port q =
    { s.port q with raised := ((s.caughtUp day minute second).port q).raised } := by
  have h : (s.caughtUp day minute second).port q =
    { (s.purgedFor day).port q with raised := ((s.caughtUp day minute second).port q).raised } :=
    State.expireNotices_port _ _ q
  rwa [State.purgedFor_port] at h

/-- R23, R34: the catch-up raises PACE when the purge or the expiry changes the level, and no other source. -/
theorem State.caughtUp_hasFlag (q : Port) (src : Source) : hasFlag ((s.caughtUp day minute second).port q).raised src =
    (hasFlag (s.port q).raised src || decide (src = .pace ∧ ((s.purgedFor day).pressure ≠ s.pressure ∨
      (s.caughtUp day minute second).pressure ≠ (s.purgedFor day).pressure))) := by
  rw [(s.caughtUp_repressed day minute second).hasFlag_port, State.purgedFor_hasFlag, Bool.or_assoc, ← Bool.decide_or]
  simp only [and_or_left]

end CatchUp

/-! ### The jump -/

/-- What keeps State.offBoard reaches boards, signs, lines and the quiet state alone. -/
theorem State.eq_of_offBoard {s t : State} (h : t.offBoard = s.offBoard) :
    t = { s with evals := t.evals, signs := t.signs, lines := t.lines, quiet := t.quiet } := by
  cases s
  cases t
  simpa [State.offBoard] using h

/-- Of the hub before it, an evaluation reads the delivery side and the mappings alone. -/
theorem Evaluated.of_before {s u t : State} {rooms : RoomId → Bool} {o : Origin} {wakes : Bool}
    (h : Evaluated u t rooms o wakes) (hevals : u.evals = s.evals) (hsigns : u.signs = s.signs) (hsetup : u.setup = s.setup)
    (hquiet : u.quiet = s.quiet) (hlines : u.lines = s.lines) : Evaluated s t rooms o wakes := by
  have heval : u.eval = s.eval := by funext r; simp only [State.eval, hevals]
  have hsign : u.sign = s.sign := by funext i; simp only [State.sign, hsigns]
  have hline : u.line = s.line := by funext l; simp only [State.line, hlines]
  have hmapping : u.mapping = s.mapping := by funext i; simp only [State.mapping, hsetup]
  exact ⟨heval ▸ h.boards, heval ▸ hsign ▸ hmapping ▸ h.signs, hquiet ▸ h.quiet, hquiet ▸ hline ▸ h.woken,
    hquiet ▸ hline ▸ h.lines⟩

/-- An evaluation says nothing of the ports. -/
theorem Evaluated.with_ports {s t : State} {rooms : RoomId → Bool} {o : Origin} {wakes : Bool}
    (h : Evaluated s t rooms o wakes) (ps : Vector PortRecord 3) : Evaluated s { t with ports := ps } rooms o wakes :=
  ⟨h.boards, h.signs, h.quiet, h.woken, h.lines⟩

section Jump
variable (s : State) (day minute second : Nat)

/-- What the jump leaves of the catch-up: all but the delivery side and the flags. -/
theorem State.jump_desk : (s.jump day minute second).1.desk = (s.caughtUp day minute second).desk := by
  rw [State.jump_fst, State.lowerAll_desk]
  exact desk_of_offBoard (State.evaluateAll_offBoard _ _)

theorem State.jump_pressure : (s.jump day minute second).1.pressure = (s.caughtUp day minute second).pressure := by
  rw [State.jump_fst, State.lowerAll_pressure]
  exact pressure_of_offBoard (State.evaluateAll_offBoard _ _)

/-- R34: what a jump reaches. -/
theorem State.jump_eq : (s.jump day minute second).1 = { s with
    clock := (s.jump day minute second).1.clock, timetables := (s.jump day minute second).1.timetables
    notices := (s.jump day minute second).1.notices, pressure := (s.jump day minute second).1.pressure
    evals := (s.jump day minute second).1.evals, signs := (s.jump day minute second).1.signs
    lines := (s.jump day minute second).1.lines, quiet := (s.jump day minute second).1.quiet
    ports := (s.jump day minute second).1.ports } := by
  have h := State.eq_of_offBoard (State.evaluateAll_offBoard (s.caughtUp day minute second) .clock)
  rw [State.jump_fst, State.lowerAll_eq]
  generalize (((s.caughtUp day minute second).evaluateAll .clock).lowerAll .clock).ports = ps
  generalize (s.caughtUp day minute second).evaluateAll .clock = t at h ⊢
  rw [State.caughtUp_eq] at h
  rw [h]

theorem State.jump_timetables : (s.jump day minute second).1.timetables = (s.purgedFor day).timetables := by
  rw [timetables_of_desk (s.jump_desk day minute second), State.caughtUp_eq, State.purgedFor_eq]

/-- R33: the number that a jump reports is that of the entries it takes out. -/
theorem State.jump_snd : (s.jump day minute second).2 = s.usedEntries - (s.jump day minute second).1.usedEntries := by
  rw [State.usedEntries, State.usedEntries, State.jump_timetables]
  rfl

/-- R34: after the catch-up a jump clears CLOCK on a port, and leaves the rest of it. -/
theorem State.jump_port_cleared (q : Port) : (s.jump day minute second).1.port q =
    { (s.caughtUp day minute second).port q with
      raised := ((s.caughtUp day minute second).port q).raised &&& ~~~Source.flag .clock } := by
  have h : ((s.caughtUp day minute second).evaluateAll .clock).port q = (s.caughtUp day minute second).port q :=
    congrArg (·[portIndex q]) (ports_of_offBoard (State.evaluateAll_offBoard _ _))
  rw [State.jump_fst, State.lowerAll_port, h]

/-- R34: of a port, a jump reaches the flags alone. -/
theorem State.jump_port (q : Port) : (s.jump day minute second).1.port q =
    { s.port q with raised := ((s.jump day minute second).1.port q).raised } := by
  rw [State.jump_port_cleared, State.caughtUp_port]

/-- R23, R34: a jump clears CLOCK, raises PACE when the purge or the expiry changes the level, and leaves the other
sources. -/
theorem State.jump_hasFlag (q : Port) (src : Source) : hasFlag ((s.jump day minute second).1.port q).raised src =
    ((hasFlag (s.port q).raised src || decide (src = .pace ∧ ((s.purgedFor day).pressure ≠ s.pressure ∨
      (s.caughtUp day minute second).pressure ≠ (s.purgedFor day).pressure))) && !decide (src = .clock)) := by
  rw [State.jump_port_cleared, hasFlag_clear, hasFlag_flag, State.caughtUp_hasFlag]

/-- R34: a jump evaluates every enabled room once, on what the catch-up leaves. -/
theorem State.jump_evaluated : Evaluated s (s.jump day minute second).1 (fun _ => true) .clock false := by
  have h : Evaluated (s.caughtUp day minute second) ((s.caughtUp day minute second).evaluateAll .clock) (fun _ => true) .clock
      false := State.evaluateRooms_evaluated _ _ _
  rw [State.jump_fst, State.lowerAll_eq]
  refine Evaluated.of_before (h.with_ports _) ?_ ?_ ?_ ?_ ?_ <;> rw [State.caughtUp_eq]

/-- R20, R23, R34: the jump, whole. -/
theorem State.jump_jumped : Jumped s (s.jump day minute second).1 day minute second := by
  have hd := s.jump_desk day minute second
  have hpurge := s.purgedFor_pressure day (s.jump_timetables day minute second)
  have hlevel := s.jump_pressure day minute second
  refine { clock := ?_, timetables := ?_, notices := ?_, pressure := ?_, boards := s.jump_evaluated day minute second
           clockFlag := fun q => ?_, pace := fun q => ?_, flags := fun q src hclock hpace => ?_ }
  · rw [clock_of_desk hd, State.caughtUp_eq]
  · rw [timetables_of_desk hd, State.caughtUp_eq]
  · rw [notices_of_desk hd, State.caughtUp_eq]
  · rw [hlevel, ← hpurge, State.freeEntries_congr (timetables_of_desk hd),
      State.freeCells_congr (timetables_of_desk hd) (notices_of_desk hd) (setup_of_desk hd)]
    exact (s.caughtUp_repressed day minute second).level
  · simp [State.jump_hasFlag]
  · simp [State.jump_hasFlag, hlevel, hpurge]
  · simp [State.jump_hasFlag, hclock, hpace]

end Jump

/-! ### The jump of a request -/

/-- A jump reads no port but its flags, and not the arbiter. -/
theorem Jumped.of_before {s t : State} {a : Arbiter} {ps : Vector PortRecord 3} {day minute second : Nat}
    (hraised : ∀ q, ({ s with arb := a, ports := ps }.port q).raised = (s.port q).raised)
    (h : Jumped { s with arb := a, ports := ps } t day minute second) : Jumped s t day minute second where
  clock := h.clock
  timetables := h.timetables
  notices := h.notices
  pressure := h.pressure
  boards := h.boards.of_before rfl rfl rfl rfl rfl
  clockFlag := h.clockFlag
  pace q := hraised q ▸ h.pace q
  flags q src hclock hpace := hraised q ▸ h.flags q src hclock hpace

/-- A port change that keeps the port's flags moves no flag. -/
theorem State.updPort_raised (s : State) (p : Port) {f : PortRecord → PortRecord} (hf : ∀ x, (f x).raised = x.raised)
    (q : Port) : ((s.updPort p f).port q).raised = (s.port q).raised := by
  rw [State.port_updPort]
  split
  · next e => subst e; exact hf _
  · rfl

/-- A change at a port that keeps its flags leaves a jump a jump. -/
theorem Jumped.updPort {s t : State} {day minute second : Nat} (h : Jumped s t day minute second) (p : Port)
    {f : PortRecord → PortRecord} (hf : ∀ x, (f x).raised = x.raised) : Jumped s (t.updPort p f) day minute second := by
  have hraised := t.updPort_raised p hf
  exact { clock := h.clock, timetables := h.timetables, notices := h.notices, pressure := h.pressure
          boards := h.boards.with_ports _, clockFlag := fun q => hraised q ▸ h.clockFlag q
          pace := fun q => hraised q ▸ h.pace q, flags := fun q => hraised q ▸ h.flags q }

/-- Taking a request moves no flag. -/
theorem State.take_raised (s : State) (p q : Port) : ((s.take p).port q).raised = (s.port q).raised := by
  rw [State.take_port]
  split
  · next e => subst e; rfl
  · rfl

theorem Jumped.of_take {s t : State} {p : Port} {day minute second : Nat} (h : Jumped (s.take p) t day minute second) :
    Jumped s t day minute second := by
  have hraised := s.take_raised p
  rw [State.take_eq] at h hraised
  exact h.of_before hraised

theorem Jumped.of_hunt {s t : State} {p : Port} {day minute second : Nat} (h : Jumped (s.hunt p) t day minute second) :
    Jumped s t day minute second := by
  have hraised : ∀ q, ((s.hunt p).port q).raised = (s.port q).raised := s.updPort_raised p (fun _ => rfl)
  exact Jumped.of_before (a := s.arb) (ps := (s.hunt p).ports) hraised h

/-- What a jump of a taken request reaches, in terms of the hub before it was taken. -/
theorem State.eq_of_taken {s t : State} {p : Port}
    (h : t = { s.take p with clock := t.clock, timetables := t.timetables, notices := t.notices, pressure := t.pressure
                             evals := t.evals, signs := t.signs, lines := t.lines, quiet := t.quiet, ports := t.ports }) :
    t = { s with arb := s.arb.restarted p s.setup.arbiter.idleCode, ports := t.ports, clock := t.clock
                 timetables := t.timetables, notices := t.notices, pressure := t.pressure, evals := t.evals
                 signs := t.signs, lines := t.lines, quiet := t.quiet } := by
  rwa [State.take_eq] at h

/-- R163, R168, R172: the ports after a request whose block moves nothing of a port but the flags. -/
theorem State.answer_portsAnswered {s : State} {p : Port} {v : Served}
    (h : ∀ q, v.st.port q = { (s.take p).port q with raised := (v.st.port q).raised }) (u : State) (code : Nat) :
    PortsAnswered s (u.answer p code v) p := by
  intro q
  have e := h q
  by_cases hq : q = p
  · subst hq
    rw [State.take_port_self] at e
    rw [State.answer_port_self, if_pos rfl]
    generalize v.st.port q = x at e ⊢
    rw [e]
  · rw [State.answer_port_of_ne _ hq, if_neg hq, e, State.take_port_of_ne _ hq]

/-- R166, R172: the ports after a broadcast whose form moves nothing of a port but the flags. -/
theorem PortsCast.of_taken {s t : State} {p : Port}
    (h : ∀ q, t.port q = { ((s.take p).hunt p).port q with raised := (t.port q).raised }) : PortsCast s t p := by
  intro q
  have e := h q
  by_cases hq : q = p
  · subst hq
    rw [if_pos rfl]
    rwa [State.hunt, State.port_updPort_self, State.take_port_self] at e
  · rw [if_neg hq]
    rwa [State.hunt, State.port_updPort_of_ne _ hq, State.take_port_of_ne _ hq] at e

/-! ### The request -/

/-- R33: in range is what SET_CLOCK asks of its fields. -/
theorem clockInRange_iff {day minute second : Nat} :
    clockInRange day minute second = true ↔ day ≤ 15 ∧ minute ≤ 1439 ∧ second ≤ 59 := by
  simp [clockInRange, and_assoc]

/-- R33, R169: SET_CLOCK needs one of two roles. -/
theorem timetableOrSetup_met {r : RoleSet} :
    Need.timetableOrSetup.met r = true ↔ r.timetable = true ∨ r.setup = true := by
  simp [Need.met]

/-- R167, R169: a direct request that fits, from a port without the role it needs, is DENIED. -/
theorem State.request_denied {s : State} {h : Header} {need : Need} (d : Direct s h) (hfits : h.bodyFits = true)
    (hrole : need.met (s.portSetup h.port).roles = false) (code : Nat) (cast : State → Option State)
    (serve : State → Served) : s.request h code need cast serve = s.answeredWith h code .denied .empty := by
  have hcheck : (s.take h.port).portCheck h need = some .denied := by simp [State.portCheck, hfits, hrole]
  rw [State.request_direct d, hcheck]
  exact s.answer_unchanged h code _ rfl rfl

theorem Cast.hears_eq {s : State} {h : Header} (c : Cast s h) : s.hears h.port = true :=
  (s.hears_iff h.port).2 ⟨c.running, c.hears⟩

/-- R166: a broadcast that its form carries out. -/
theorem State.request_carried {s t : State} {h : Header} (c : Cast s h) {code : Nat} {need : Need}
    {cast : State → Option State} {serve : State → Served} (hcast : cast ((s.take h.port).hunt h.port) = some t) :
    s.request h code need cast serve = t := by
  rw [State.request_broadcast c.hears_eq c.all]
  simp only [State.broadcast, c.fits, if_true, hcast]

/-- R166: a broadcast that its form does not carry out acts as BROADCAST_DROPPED. -/
theorem State.request_dropped {s : State} {h : Header} (c : Cast s h) {code : Nat} {need : Need}
    {cast : State → Option State} {serve : State → Served} (hcast : cast ((s.take h.port).hunt h.port) = none) :
    .next (s.request h code need cast serve) = exec (.broadcastDropped h.port) s := by
  have hdrop : s.request h code need cast serve = ((s.take h.port).hunt h.port).discard h.port := by
    rw [State.request_broadcast c.hears_eq c.all]
    simp only [State.broadcast, c.fits, if_true, hcast]
  rw [hdrop]
  exact congrArg Host.Outcome.next (if_pos c.hears_eq).symm

/-- R33: out of range. -/
theorem clockInRange_false {day minute second : Nat} (h : 15 < day ∨ 1439 < minute ∨ 59 < second) :
    clockInRange day minute second = false := by
  rw [← Bool.not_eq_true, clockInRange_iff]
  omega

section SetClock
variable {s : State} {h : Header} {day minute second : Nat}

/-- R33: a direct SET_CLOCK out of range is refused. -/
theorem exec_setClock_badTime (a : Accepted s h .timetableOrSetup) (hout : 15 < day ∨ 1439 < minute ∨ 59 < second) :
    exec (.setClock h day minute second) s = .next (s.answeredWith h 0x14 .badTime .empty) := by
  refine congrArg Host.Outcome.next (State.request_refuse a ?_)
  rw [serveClock, clockInRange_false hout]
  rfl

/-- R33, R166: a broadcast SET_CLOCK without a role or out of range is dropped. -/
theorem exec_setClock_dropped (c : Cast s h)
    (hbad : ¬ ((s.portSetup h.port).roles.timetable = true ∨ (s.portSetup h.port).roles.setup = true) ∨
      15 < day ∨ 1439 < minute ∨ 59 < second) :
    exec (.setClock h day minute second) s = exec (.broadcastDropped h.port) s := by
  refine State.request_dropped c (if_neg ?_)
  rw [State.hunt_portSetup, State.take_portSetup, Bool.and_eq_true, timetableOrSetup_met, clockInRange_iff]
  rintro ⟨hrole, hday, hminute, hsecond⟩
  rcases hbad with hbad | hbad
  · exact hbad hrole
  · omega

/-- R33, R34: a direct SET_CLOCK in range jumps. -/
theorem exec_setClock_jumps (a : Accepted s h .timetableOrSetup) (hday : day ≤ 15) (hminute : minute ≤ 1439)
    (hsecond : second ≤ 59) : ∃ t, exec (.setClock h day minute second) s = .next t ∧
      Replied s t h 0x14 .ok false (.count (s.usedEntries - t.usedEntries)) ∧ Jumped s t day minute second ∧
      PortsAnswered s t h.port ∧
      t = { s with arb := s.arb.restarted h.port s.setup.arbiter.idleCode, ports := t.ports, clock := t.clock
                   timetables := t.timetables, notices := t.notices, pressure := t.pressure, evals := t.evals
                   signs := t.signs, lines := t.lines, quiet := t.quiet } := by
  have hserve : serveClock day minute second (s.take h.port) = okWith ((s.take h.port).jump day minute second).1
      (.count ((s.take h.port).jump day minute second).2) := if_pos (clockInRange_iff.2 ⟨hday, hminute, hsecond⟩)
  have hframe := (s.take h.port).jump_eq day minute second
  have hports := (s.take h.port).jump_port day minute second
  have hjump := (s.take h.port).jump_jumped day minute second
  have hcount : ((s.take h.port).jump day minute second).2 =
      s.usedEntries - ((s.take h.port).jump day minute second).1.usedEntries := by
    rw [State.jump_snd, State.usedEntries, State.take_timetables]
    rfl
  refine ⟨_, congrArg Host.Outcome.next (State.request_accepted a 0x14 _ _), ?_⟩
  rw [hserve, hcount]
  generalize ((s.take h.port).jump day minute second).1 = t at hframe hports hjump ⊢
  refine ⟨⟨?_, ?_⟩, hjump.of_take.updPort _ (fun _ => rfl), State.answer_portsAnswered hports _ _, ?_⟩
  · rw [State.answer_port_self]
  · rw [State.answer_port_self, State.take_address]
    rfl
  · exact State.eq_of_taken (congrArg (fun u => (s.take h.port).answer h.port 0x14
      (okWith u (.count (s.usedEntries - u.usedEntries)))) hframe)

/-- R33, R34: a broadcast SET_CLOCK in range jumps. -/
theorem exec_setClock_cast (c : Cast s h)
    (hrole : (s.portSetup h.port).roles.timetable = true ∨ (s.portSetup h.port).roles.setup = true) (hday : day ≤ 15)
    (hminute : minute ≤ 1439) (hsecond : second ≤ 59) : ∃ t, exec (.setClock h day minute second) s = .next t ∧
      Jumped s t day minute second ∧ PortsCast s t h.port ∧
      t = { s with arb := s.arb.restarted h.port s.setup.arbiter.idleCode, ports := t.ports, clock := t.clock
                   timetables := t.timetables, notices := t.notices, pressure := t.pressure, evals := t.evals
                   signs := t.signs, lines := t.lines, quiet := t.quiet } := by
  have hcast : castClock h.port day minute second ((s.take h.port).hunt h.port) =
      some (((s.take h.port).hunt h.port).jump day minute second).1 := by
    refine if_pos ?_
    rw [State.hunt_portSetup, State.take_portSetup, Bool.and_eq_true, timetableOrSetup_met, clockInRange_iff]
    exact ⟨hrole, hday, hminute, hsecond⟩
  refine ⟨_, congrArg Host.Outcome.next (State.request_carried c hcast), ?_, ?_, ?_⟩
  · exact (State.jump_jumped _ _ _ _).of_hunt.of_take
  · exact PortsCast.of_taken (State.jump_port _ _ _ _)
  · exact State.eq_of_taken (State.jump_eq _ _ _ _)

end SetClock

/-- Settles O36: a SET_CLOCK that passes its checks is a jump of the hub as its request was taken, and every other is
refused or dropped. -/
theorem clockIsSet : Obligations.ClockIsSet := by
  unfold Obligations.ClockIsSet
  intro s h day minute second
  refine ⟨fun d hfits htimetable hsetup => ?denied, fun a => ⟨exec_setClock_badTime a, exec_setClock_jumps a⟩,
    fun c => ⟨exec_setClock_dropped c, exec_setClock_cast c⟩⟩
  case denied =>
    have hrole : Need.timetableOrSetup.met (s.portSetup h.port).roles = false := by simp [Need.met, htimetable, hsetup]
    exact congrArg Host.Outcome.next (State.request_denied d hfits hrole _ _ _)

end Sys2Proof.Machine
end

section
/-! PROOFS. WITHDRAW_NOTICE (R60, R68). A removal of notices works in two parts: the records go and the pressure level is
re-evaluated, which reaches the notices, the level and the port flags alone; then the rooms that the records targeted are
evaluated, which reaches the delivery side alone. A withdrawal is a removal around the request path, which moves no flag and
nothing else that a removal reads. -/

namespace Sys2Proof.Machine

/-! ### What a removal leaves behind -/

/-- R22, R60: the notices that meet gone are removed in one operation, and the rooms they target evaluated with origin o. -/
structure Removed (s t : State) (gone : Notice → Bool) (o : Origin) : Prop where
  notices : t.notices = s.notices.filter (fun n => !gone n)
  pressure : Repressed s t
  boards : Evaluated s t (fun r => s.notices.any (fun n => gone n && n.targets r)) o false

/-- A change of the delivery side leaves a re-evaluated level re-evaluated. -/
theorem Repressed.of_offBoard {s t u : State} (h : Repressed s t) (hu : u.offBoard = t.offBoard) : Repressed s u := by
  have hd := desk_of_offBoard hu
  have hport : ∀ q, u.port q = t.port q := fun q => congrArg (·[portIndex q]) (ports_of_offBoard hu)
  refine ⟨?_, fun q => ?_⟩
  · rw [pressure_of_offBoard hu, State.freeEntries_congr (timetables_of_desk hd),
      State.freeCells_congr (timetables_of_desk hd) (notices_of_desk hd) (setup_of_desk hd)]
    exact h.level
  · rw [hport q, pressure_of_offBoard hu]
    exact h.pace q

/-- A removal reads no port but its flags, and not the arbiter. -/
theorem Removed.of_before {s t : State} {a : Arbiter} {ps : Vector PortRecord 3} {gone : Notice → Bool} {o : Origin}
    (hraised : ∀ q, ({ s with arb := a, ports := ps }.port q).raised = (s.port q).raised)
    (h : Removed { s with arb := a, ports := ps } t gone o) : Removed s t gone o where
  notices := h.notices
  pressure := ⟨h.pressure.level, fun q => hraised q ▸ h.pressure.pace q⟩
  boards := h.boards.of_before rfl rfl rfl rfl rfl

section Transfer
variable {s t : State} {p : Port} {gone : Notice → Bool} {o : Origin}

theorem Removed.of_take (h : Removed (s.take p) t gone o) : Removed s t gone o := by
  have hraised := s.take_raised p
  rw [State.take_eq] at h hraised
  exact h.of_before hraised

theorem Removed.of_hunt (h : Removed (s.hunt p) t gone o) : Removed s t gone o := by
  have hraised : ∀ q, ((s.hunt p).port q).raised = (s.port q).raised := s.updPort_raised p (fun _ => rfl)
  exact Removed.of_before (a := s.arb) (ps := (s.hunt p).ports) hraised h

/-- A change at a port that keeps its flags leaves a removal a removal. -/
theorem Removed.updPort (h : Removed s t gone o) (p : Port) {f : PortRecord → PortRecord}
    (hf : ∀ x, (f x).raised = x.raised) : Removed s (t.updPort p f) gone o := by
  have hraised := t.updPort_raised p hf
  exact { notices := h.notices, pressure := ⟨h.pressure.level, fun q => hraised q ▸ h.pressure.pace q⟩
          boards := h.boards.with_ports _ }

/-- What a removal of a taken request reaches, in terms of the hub before it was taken. -/
theorem State.eq_of_taken_removal
    (h : t = { s.take p with ports := t.ports, notices := t.notices, pressure := t.pressure, evals := t.evals
                             signs := t.signs, lines := t.lines, quiet := t.quiet }) :
    t = { s with arb := s.arb.restarted p s.setup.arbiter.idleCode, ports := t.ports, notices := t.notices
                 pressure := t.pressure, evals := t.evals, signs := t.signs, lines := t.lines, quiet := t.quiet } := by
  rwa [State.take_eq] at h

end Transfer

/-! ### The removal -/

/-- R60: the hub once the records are gone and the level re-evaluated, before the evaluation. -/
def State.strippedOf (s : State) (gone : Notice → Bool) : State :=
  ({ s with notices := s.notices.filter (fun n => !gone n) }).repress

section Removal
variable (s : State) (gone : Notice → Bool) (o : Origin)

/-- R60: the strip reaches the notices, the pressure level and the ports alone. -/
theorem State.strippedOf_eq : s.strippedOf gone = { s with
    notices := s.notices.filter (fun n => !gone n), pressure := (s.strippedOf gone).pressure
    ports := (s.strippedOf gone).ports } := State.repress_eq _

/-- R22: the level is re-evaluated on what the removal leaves. -/
theorem State.strippedOf_repressed : Repressed s (s.strippedOf gone) := by
  have h := ({ s with notices := s.notices.filter (fun n => !gone n) }).repress_repressed
  exact ⟨h.level, h.pace⟩

/-- R60: the rooms evaluated are those that a removed record targets. -/
theorem State.removeNotices_def : s.removeNotices gone o =
    (s.strippedOf gone).evaluateRooms (fun r => s.notices.any (fun n => gone n && n.targets r)) o := by
  simp only [State.removeNotices, List.any_filter]
  rfl

theorem State.removeNotices_offBoard : (s.removeNotices gone o).offBoard = (s.strippedOf gone).offBoard := by
  rw [State.removeNotices_def]
  exact State.evaluateRooms_offBoard _ _ _

/-- R60: what a removal reaches. -/
theorem State.removeNotices_eq : s.removeNotices gone o = { s with
    ports := (s.removeNotices gone o).ports, notices := (s.removeNotices gone o).notices
    pressure := (s.removeNotices gone o).pressure, evals := (s.removeNotices gone o).evals
    signs := (s.removeNotices gone o).signs, lines := (s.removeNotices gone o).lines
    quiet := (s.removeNotices gone o).quiet } := by
  have h := State.eq_of_offBoard (s.removeNotices_offBoard gone o)
  generalize s.removeNotices gone o = t at h ⊢
  rw [State.strippedOf_eq] at h
  rw [h]

/-- R23, R60: of a port, a removal reaches the flags alone. -/
theorem State.removeNotices_port (q : Port) : (s.removeNotices gone o).port q =
    { s.port q with raised := ((s.removeNotices gone o).port q).raised } := by
  have hport : (s.removeNotices gone o).port q = (s.strippedOf gone).port q :=
    congrArg (·[portIndex q]) (ports_of_offBoard (s.removeNotices_offBoard gone o))
  rw [hport]
  exact State.repress_port _ q

/-- R22, R60: the removal, whole. -/
theorem State.removeNotices_removed : Removed s (s.removeNotices gone o) gone o where
  notices := by rw [notices_of_desk (desk_of_offBoard (s.removeNotices_offBoard gone o)), State.strippedOf_eq]
  pressure := (s.strippedOf_repressed gone).of_offBoard (s.removeNotices_offBoard gone o)
  boards := by
    rw [State.removeNotices_def]
    refine Evaluated.of_before (State.evaluateRooms_evaluated _ _ _) ?_ ?_ ?_ ?_ ?_ <;> rw [State.strippedOf_eq]

end Removal

/-! ### The withdrawal -/

theorem State.noticeOf_isNone_eq_false {s : State} {id : Nat} (h : ∃ n ∈ s.notices, n.id = id) :
    (s.noticeOf id).isNone = false := by
  simpa [State.noticeOf] using h

@[simp] theorem State.hunt_noticeOf (s : State) (p : Port) (id : Nat) : (s.hunt p).noticeOf id = s.noticeOf id := rfl

/-- R166, R172: a broadcast that is taken with no effect of its own. -/
theorem State.take_hunt_eq (s : State) (p : Port) : (s.take p).hunt p = { s.setPort p { s.port p with
      reception := .hunting, buffer := [], monitor := .alive
      heartbeat := heartbeatTime (s.portSetup p).interval } with
    arb := s.arb.restarted p s.setup.arbiter.idleCode } := by
  rw [State.hunt, State.updPort, State.take_port_self, State.take_eq]
  simp [State.setPort]

section Withdraw
variable {s : State} {h : Header} {id : Nat}

/-- R68: a direct withdrawal of id 0, or of an id not in the table, is refused. -/
theorem exec_withdrawNotice_noNotice (a : Accepted s h .notice) (hno : id = 0 ∨ ∀ n ∈ s.notices, n.id ≠ id) :
    exec (.withdrawNotice h id) s = .next (s.answeredWith h 0x21 .noNotice .empty) := by
  refine congrArg Host.Outcome.next (State.request_refuse a (if_pos ?_))
  rw [State.take_noticeOf]
  rcases hno with h0 | hn
  · exact .inr h0
  · exact .inl (by rw [State.noticeOf_none hn]; rfl)

/-- R68, R166: a broadcast withdrawal from a port without the NOTICE role is dropped. -/
theorem exec_withdrawNotice_dropped (c : Cast s h) (hrole : (s.portSetup h.port).roles.notice = false) :
    exec (.withdrawNotice h id) s = exec (.broadcastDropped h.port) s := by
  refine State.request_dropped c (if_pos ?_)
  rw [State.hunt_portSetup, State.take_portSetup, Need.met, hrole]
  rfl

/-- R68: a broadcast withdrawal of an id not in the table is taken, without another effect. -/
theorem exec_withdrawNotice_idle (c : Cast s h) (hrole : (s.portSetup h.port).roles.notice = true)
    (hn : ∀ n ∈ s.notices, n.id ≠ id) :
    exec (.withdrawNotice h id) s = .next ((s.take h.port).hunt h.port) := by
  refine congrArg Host.Outcome.next (State.request_carried c ?_)
  simp [castWithdraw, Need.met, hrole, State.noticeOf_none hn]

/-- R60, R68: a direct withdrawal of an id in the table. -/
theorem exec_withdrawNotice_removes (a : Accepted s h .notice) (h0 : id ≠ 0) (hn : ∃ n ∈ s.notices, n.id = id) :
    ∃ t, exec (.withdrawNotice h id) s = .next t ∧ Replied s t h 0x21 .ok false (.smallCount t.notices.length) ∧
      Removed s t (fun n => n.id == id) (.port h.port) ∧ PortsAnswered s t h.port ∧
      t = { s with arb := s.arb.restarted h.port s.setup.arbiter.idleCode, ports := t.ports, notices := t.notices
                   pressure := t.pressure, evals := t.evals, signs := t.signs, lines := t.lines, quiet := t.quiet } := by
  have hserve : serveWithdraw h.port id (s.take h.port) =
      okWith ((s.take h.port).removeNotices (fun n => n.id == id) (.port h.port))
        (.smallCount ((s.take h.port).removeNotices (fun n => n.id == id) (.port h.port)).notices.length) :=
    if_neg (by simp [State.noticeOf_isNone_eq_false hn, h0])
  have hframe := (s.take h.port).removeNotices_eq (fun n => n.id == id) (.port h.port)
  have hports := (s.take h.port).removeNotices_port (fun n => n.id == id) (.port h.port)
  have hremoved := (s.take h.port).removeNotices_removed (fun n => n.id == id) (.port h.port)
  refine ⟨_, congrArg Host.Outcome.next (State.request_accepted a 0x21 _ _), ?_⟩
  rw [hserve]
  generalize (s.take h.port).removeNotices (fun n => n.id == id) (.port h.port) = t at hframe hports hremoved ⊢
  refine ⟨⟨?_, ?_⟩, hremoved.of_take.updPort _ (fun _ => rfl), State.answer_portsAnswered hports _ _, ?_⟩
  · rw [State.answer_port_self]
  · rw [State.answer_port_self, State.take_address]
    rfl
  · exact State.eq_of_taken_removal (congrArg (fun u => (s.take h.port).answer h.port 0x21
      (okWith u (.smallCount u.notices.length))) hframe)

/-- R60, R68: a broadcast withdrawal of an id in the table. -/
theorem exec_withdrawNotice_cast (c : Cast s h) (hrole : (s.portSetup h.port).roles.notice = true)
    (hn : ∃ n ∈ s.notices, n.id = id) : ∃ t, exec (.withdrawNotice h id) s = .next t ∧
      Removed s t (fun n => n.id == id) .setup ∧ PortsCast s t h.port ∧
      t = { s with arb := s.arb.restarted h.port s.setup.arbiter.idleCode, ports := t.ports, notices := t.notices
                   pressure := t.pressure, evals := t.evals, signs := t.signs, lines := t.lines, quiet := t.quiet } := by
  have hcast : castWithdraw h.port id ((s.take h.port).hunt h.port) =
      some (((s.take h.port).hunt h.port).removeNotices (fun n => n.id == id) .setup) := by
    simp [castWithdraw, Need.met, hrole, State.noticeOf_isNone_eq_false hn]
  refine ⟨_, congrArg Host.Outcome.next (State.request_carried c hcast), ?_, ?_, ?_⟩
  · exact (State.removeNotices_removed _ _ _).of_hunt.of_take
  · exact PortsCast.of_taken (State.removeNotices_port _ _ _)
  · exact State.eq_of_taken_removal (State.removeNotices_eq _ _ _)

end Withdraw

/-- Settles O39: a withdrawal that finds its notice is a removal of the hub as its request was taken; a direct one that
finds none is refused, a broadcast one is taken and no more, and a missing role denies or drops it. -/
theorem noticeIsWithdrawn : Obligations.NoticeIsWithdrawn := by
  unfold Obligations.NoticeIsWithdrawn
  intro s h id
  refine ⟨fun d hfits hrole => ?denied, fun a => ⟨exec_withdrawNotice_noNotice a, fun h0 hn => ?direct⟩,
    fun c => ⟨exec_withdrawNotice_dropped c, fun hrole hn => ?idle, fun hrole hn => ?cast⟩⟩
  case denied => exact congrArg Host.Outcome.next (State.request_denied (need := .notice) d hfits hrole _ _ _)
  case direct =>
    obtain ⟨t, hexec, hreply, hremoved, hports, hframe⟩ := exec_withdrawNotice_removes a h0 hn
    exact ⟨t, hexec, hreply, hremoved.notices, hremoved.pressure, hremoved.boards, hports, hframe⟩
  case idle => rw [exec_withdrawNotice_idle c hrole hn, State.take_hunt_eq]
  case cast =>
    obtain ⟨t, hexec, hremoved, hports, hframe⟩ := exec_withdrawNotice_cast c hrole hn
    exact ⟨t, hexec, hremoved.notices, hremoved.pressure, hremoved.boards, hports, hframe⟩

end Sys2Proof.Machine
end

section
/-! PROOFS. The law of the grant (R74). Whatever a command does to the arbiter is a sequence of a few moves: the idle timer
restarts, a port opens or joins the wait list, the holder stages, the grant is released, passed on or withdrawn, a waiter
leaves, or the arbiter is cleared. Every command is traced to its moves once, and the law is kept because each move keeps
it. -/

namespace Sys2Proof.Machine

/-! ### The moves of the arbiter -/

/-- One change of the arbiter, as the rules of chapter 05 allow it. -/
inductive Arbiter.Move : Arbiter → Arbiter → Prop
  /-- R77: the idle timer of the holder restarts. -/
  | restarted {a : Arbiter} (n : Nat) (held : a.holder.isSome = true) : Move a { a with idle := some n }
  /-- R85, R88: the staging list of the holder changes. -/
  | staged {a : Arbiter} (l : List Staged) (held : a.holder.isSome = true) : Move a { a with staging := l }
  /-- R76: the grant is free, and a port that does not wait takes it. -/
  | opened {a : Arbiter} (p : Port) (rooms : List RoomId) (n : Nat) (free : a.holder = none)
      (new : ∀ w ∈ a.waiters, w.port ≠ p) :
      Move a { a with holder := some p, rooms := rooms, staging := [], idle := some n }
  /-- R76: the grant is held, and a port that neither holds it nor waits joins the wait list. -/
  | queued {a : Arbiter} (w : Waiter) (held : a.holder.isSome = true) (other : a.holder ≠ some w.port)
      (new : ∀ x ∈ a.waiters, x.port ≠ w.port) : Move a { a with waiters := a.waiters ++ [w] }
  /-- R79: the grant is released to nobody. -/
  | released {a : Arbiter} : Move a { a with holder := none, rooms := [], staging := [], idle := none }
  /-- R80: the grant passes to a waiter, who leaves the wait list. -/
  | passed {a : Arbiter} (w : Waiter) (n : Nat) (waits : w ∈ a.waiters) :
      Move a { a with holder := some w.port, rooms := w.rooms, waiters := a.waiters.filter (fun x => x.port != w.port)
                      staging := [], idle := some n }
  /-- R78: a withdrawal is counted. -/
  | counted {a : Arbiter} (n : Nat) : Move a { a with withdrawals := n }
  /-- R81: a port leaves the wait list. -/
  | left {a : Arbiter} (p : Port) : Move a { a with waiters := a.waiters.filter (fun x => x.port != p) }
  /-- R91: grant and wait list are cleared. -/
  | cleared {a : Arbiter} : Move a a.cleared
  /-- R73: the arbiter of a start. -/
  | renewed {a : Arbiter} : Move a .fresh

/-- The arbiter after any number of moves. -/
def Arbiter.Evolves : Arbiter → Arbiter → Prop := Relation.ReflTransGen Arbiter.Move

section Evolves
variable {a b c : Arbiter}

theorem Arbiter.Evolves.refl (a : Arbiter) : a.Evolves a := Relation.ReflTransGen.refl

theorem Arbiter.Evolves.of_eq (h : b = a) : a.Evolves b := h ▸ .refl a

theorem Arbiter.Move.evolves (h : a.Move b) : a.Evolves b := Relation.ReflTransGen.single h

theorem Arbiter.Evolves.trans (h : a.Evolves b) (k : b.Evolves c) : a.Evolves c := Relation.ReflTransGen.trans h k

end Evolves

/-! ### The moves of the arbiter's own operations -/

/-- R80: the waiter chosen waits. -/
theorem chooseWaiter_mem {fairness : Bool} {l : List Waiter} {w : Waiter} (h : chooseWaiter fairness l = some w) :
    w ∈ l := by
  unfold chooseWaiter at h
  split at h
  · exact List.mem_of_mem_head? h
  split at h
  · next hfind => exact List.mem_of_find?_eq_some (hfind.trans h)
  split at h
  · next hfind => exact List.mem_of_find?_eq_some (hfind.trans h)
  · exact List.mem_of_find?_eq_some h

/-- R77: a request on the holder's port restarts the idle timer. -/
theorem Arbiter.restarted_evolves (a : Arbiter) (p : Port) (code : Nat) : a.Evolves (a.restarted p code) := by
  unfold Arbiter.restarted
  split
  · next held => exact (Move.restarted _ (held ▸ rfl)).evolves
  · exact .refl a

/-- R79, R80: a release frees the grant or passes it on. -/
theorem State.release_evolves (s : State) : s.arb.Evolves s.release.arb := by
  unfold State.release
  split
  · exact Arbiter.Move.released.evolves
  · next w chosen => exact (Arbiter.Move.passed w _ (chooseWaiter_mem chosen)).evolves

/-- R78: the hub whose grant is about to be released by a withdrawal: counted, with WITHDRAW raised on the holder. -/
def State.withdrawing (s : State) (p : Port) : State :=
  ({ s with arb := { s.arb with withdrawals := min 255 (s.arb.withdrawals + 1) } }).raise p .withdraw

/-- R78. -/
theorem State.withdraw_def {s : State} {p : Port} (h : s.arb.holder = some p) :
    s.withdraw = (s.withdrawing p).release := by
  simp only [State.withdraw, h]
  rfl

/-- R78: a withdrawal is counted before the release. -/
theorem State.withdraw_evolves (s : State) : s.arb.Evolves s.withdraw.arb := by
  cases h : s.arb.holder with
  | none => exact .of_eq (by simp only [State.withdraw, h])
  | some p =>
    rw [State.withdraw_def h]
    exact (Arbiter.Move.counted _).evolves.trans (s.withdrawing p).release_evolves

/-- R81: a lapse withdraws the grant or takes the port from the wait list. -/
theorem State.lapseGrant_evolves (s : State) (p : Port) : s.arb.Evolves (s.lapseGrant p).arb := by
  unfold State.lapseGrant
  split
  · exact s.withdraw_evolves
  · exact (Arbiter.Move.left p).evolves

/-- R90. -/
theorem serveAbandon_evolves (p : Port) (s : State) : s.arb.Evolves (serveAbandon p s).st.arb := by
  unfold serveAbandon
  split
  · exact .refl _
  · exact s.release_evolves

/-- R76: the two outcomes of an OPEN_BATCH that passes. -/
theorem serveOpen_evolves (p : Port) (rooms : List Nat) (s : State) : s.arb.Evolves (serveOpen p rooms s).st.arb := by
  unfold serveOpen
  split
  · exact .refl _
  next hbusy =>
  obtain ⟨other, waiting⟩ := not_or.1 hbusy
  have new : ∀ w ∈ s.arb.waiters, w.port ≠ p := by simpa using waiting
  split
  · exact .refl _
  split
  · exact .refl _
  split
  · exact .refl _
  split
  · next free => exact (Arbiter.Move.opened p _ _ (Option.isNone_iff_eq_none.1 free) new).evolves
  · next held => exact (Arbiter.Move.queued _ (by simpa [Option.isSome_iff_ne_none] using held) other new).evolves

/-- R84, R85: only the holder stages. -/
theorem stage_evolves (p : Port) (room : Nat) (range : Option Status) (make : RoomId → Staged) (s : State) :
    s.arb.Evolves (stage p room range make s).st.arb := by
  unfold stage
  split
  · exact .refl _
  next held =>
  have held : s.arb.holder.isSome = true := by simp [not_not.1 held]
  split
  · exact .refl _
  split
  · exact .refl _
  split
  · exact .refl _
  dsimp only
  split
  · exact .refl _
  · exact (Arbiter.Move.staged _ held).evolves

/-- R87: a record of the trial leaves the arbiter alone. -/
theorem Trial.record_arb {t u : Trial} {p : Port} {x : Staged} (h : t.record p x = .ok u) : u.st.arb = t.st.arb := by
  cases x with
  | put r f =>
    simp only [Trial.record, Trial.put] at h
    repeat' split at h
    all_goals cases h
    all_goals rfl
  | drop r tag =>
    simp only [Trial.record, Trial.drop] at h
    repeat' split at h
    all_goals cases h
    all_goals rfl
  | mark r tag setMarks clearMarks =>
    simp only [Trial.record, Trial.mark] at h
    repeat' split at h
    all_goals cases h
    all_goals rfl
  | clearDay r day =>
    simp only [Trial.record, Trial.clearDay] at h
    repeat' split at h
    all_goals cases h
    all_goals rfl

/-- R86: the trial leaves the arbiter alone. -/
theorem Trial.run_arb {p : Port} {l : List Staged} :
    ∀ {t u : Trial} {i : Nat}, Trial.run p t i l = .ok u → u.st.arb = t.st.arb := by
  induction l with
  | nil => intro t u i h; cases h; rfl
  | cons x l ih =>
    intro t u i h
    rw [Trial.run] at h
    split at h
    · cases h
    · next hrecord => exact (ih h).trans (Trial.record_arb hrecord)

/-- R86 to R88: a commit empties the staging list, or releases the grant. -/
theorem serveCommit_evolves (p : Port) (s : State) : s.arb.Evolves (serveCommit p s).st.arb := by
  unfold serveCommit
  split
  · exact .refl _
  next held =>
  have held : s.arb.holder.isSome = true := by simp [not_not.1 held]
  split
  · have restarted := Arbiter.Move.restarted (a := { s.arb with staging := [] }) (idleTime s.setup.arbiter.idleCode) held
    exact (Arbiter.Move.staged [] held).evolves.trans restarted.evolves
  · next t hrun =>
    have harb := arb_of_desk ((desk_of_offBoard (State.evaluateRooms_offBoard t.st.repress
      (fun r => s.arb.rooms.contains r) (.port p))).trans t.st.repress_desk)
    exact (Arbiter.Evolves.of_eq (harb.trans (Trial.run_arb hrun))).trans (State.release_evolves _)

/-! ### Operations that leave the arbiter alone -/

theorem arb_of_offBoard {s t : State} (h : t.offBoard = s.offBoard) : t.arb = s.arb := arb_of_desk (desk_of_offBoard h)

section Kept
variable (s : State)

@[simp] theorem State.raise_arb (p : Port) (src : Source) : (s.raise p src).arb = s.arb := rfl
@[simp] theorem State.raiseAll_arb (src : Source) : (s.raiseAll src).arb = s.arb := arb_of_desk (s.raiseAll_desk src)
@[simp] theorem State.repress_arb : s.repress.arb = s.arb := arb_of_desk s.repress_desk
@[simp] theorem State.evaluateRoom_arb (r : RoomId) (o : Origin) (forced : Bool) :
    (s.evaluateRoom r o forced).arb = s.arb := arb_of_offBoard (s.evaluateRoom_offBoard r o forced)
@[simp] theorem State.evaluateRooms_arb (rooms : RoomId → Bool) (o : Origin) : (s.evaluateRooms rooms o).arb = s.arb :=
  arb_of_offBoard (s.evaluateRooms_offBoard rooms o)
@[simp] theorem State.evaluateAll_arb (o : Origin) : (s.evaluateAll o).arb = s.arb :=
  arb_of_offBoard (s.evaluateAll_offBoard o)
@[simp] theorem State.forcedEvaluation_arb : s.forcedEvaluation.arb = s.arb :=
  arb_of_offBoard s.forcedEvaluation_offBoard
@[simp] theorem State.wakeCause_arb : s.wakeCause.arb = s.arb := arb_of_offBoard s.wakeCause_offBoard
@[simp] theorem State.entryCheck_arb : s.entryCheck.arb = s.arb := arb_of_offBoard s.entryCheck_offBoard
@[simp] theorem State.quietSettled_arb : s.quietSettled.arb = s.arb := arb_of_offBoard s.quietSettled_offBoard
@[simp] theorem State.moveQuiet_arb (b : Bool) : (s.moveQuiet b).arb = s.arb := arb_of_offBoard (s.moveQuiet_offBoard b)
@[simp] theorem State.settleSign_arb (i : SignId) : (s.settleSign i).arb = s.arb :=
  arb_of_offBoard (s.settleSign_offBoard i)
@[simp] theorem State.restoreLine_arb (l : LineId) : (s.restoreLine l).arb = s.arb :=
  arb_of_offBoard (s.restoreLine_offBoard l)
@[simp] theorem State.refill_arb : s.refill.arb = s.arb := arb_of_offBoard s.refill_offBoard
@[simp] theorem State.tickWaits_arb : s.tickWaits.arb = s.arb := arb_of_offBoard s.tickWaits_offBoard

/-! ### Timetable, notices and clock -/

@[simp] theorem State.removeNotices_arb (gone : Notice → Bool) (o : Origin) : (s.removeNotices gone o).arb = s.arb := by
  rw [State.removeNotices_eq]

@[simp] theorem State.storeNotice_arb (n : Notice) (o : Origin) : (s.storeNotice n o).arb = s.arb := by
  simp [State.storeNotice]

@[simp] theorem State.jump_arb (day minute second : Nat) : (s.jump day minute second).1.arb = s.arb := by
  rw [State.jump_eq]

@[simp] theorem State.expireNotices_arb (m : Nat) : (s.expireNotices m).arb = s.arb := by rw [State.expireNotices_eq]

@[simp] theorem State.purge_arb (d : Nat) : (s.purge d).arb = s.arb := (s.purgeEntries d).repress_arb

@[simp] theorem State.minuteWork_arb : s.minuteWork.arb = s.arb := by simp [State.minuteWork]

@[simp] theorem State.endOfDays_arb : s.endOfDays.arb = s.arb := by simp [State.endOfDays]

@[simp] theorem State.advanceClock_arb : s.advanceClock.arb = s.arb := by
  unfold State.advanceClock
  dsimp only
  repeat' split
  all_goals simp

@[simp] theorem State.boundary_arb : s.boundary.arb = s.arb := by simp [State.boundary]

theorem servePut_arb (p : Port) (room : Nat) (f : PutFields) : (servePut p room f s).st.arb = s.arb := by
  unfold servePut
  dsimp only
  repeat' split
  all_goals simp

theorem serveDrop_arb (p : Port) (room tag : Nat) : (serveDrop p room tag s).st.arb = s.arb := by
  unfold serveDrop
  repeat' split
  all_goals simp

theorem serveMark_arb (p : Port) (room tag : Nat) (a b : Marks) : (serveMark p room tag a b s).st.arb = s.arb := by
  unfold serveMark
  dsimp only
  repeat' split
  all_goals simp

theorem serveClearDay_arb (p : Port) (room day : Nat) : (serveClearDay p room day s).st.arb = s.arb := by
  unfold serveClearDay
  dsimp only
  repeat' split
  all_goals simp

theorem servePost_arb (p : Port) (f : PostFields) : (servePost p f s).st.arb = s.arb := by
  unfold servePost
  split <;> simp

theorem castPost_arb {s t : State} {p : Port} {f : PostFields} (h : castPost p f s = some t) : t.arb = s.arb := by
  unfold castPost at h
  repeat' split at h
  all_goals cases h
  simp

theorem serveWithdraw_arb (p : Port) (id : Nat) : (serveWithdraw p id s).st.arb = s.arb := by
  unfold serveWithdraw
  split <;> simp

theorem castWithdraw_arb {s t : State} {p : Port} {id : Nat} (h : castWithdraw p id s = some t) : t.arb = s.arb := by
  unfold castWithdraw at h
  repeat' split at h
  all_goals cases h
  · rfl
  · simp

theorem serveClock_arb (day minute second : Nat) : (serveClock day minute second s).st.arb = s.arb := by
  unfold serveClock
  split <;> simp

theorem castClock_arb {s t : State} {p : Port} {day minute second : Nat} (h : castClock p day minute second s = some t) :
    t.arb = s.arb := by
  unfold castClock at h
  split at h
  · rw [← Option.some.inj h, State.jump_arb]
  · cases h

/-! ### Rooms, signs and lines -/

theorem serveRoom_arb (room : Nat) (f : RoomFields) : (serveRoom room f s).st.arb = s.arb := by
  unfold serveRoom State.storeRoom
  dsimp only
  repeat' split
  all_goals simp

@[simp] theorem State.takeOff_arb (i : SignId) : (s.takeOff i).arb = s.arb := by
  unfold State.takeOff
  split <;> rfl

theorem serveMap_arb (sign : Nat) (f : PlaceFields) : (serveMap sign f s).st.arb = s.arb := by
  unfold serveMap State.mapSign
  split <;> simp

theorem serveUnmap_arb (sign : Nat) : (serveUnmap sign s).st.arb = s.arb := by
  unfold serveUnmap State.unmapSign
  repeat' split
  all_goals simp

theorem TestRun.card_arb (t : TestRun) (c : TestCard) (i : SignId) : (t.card c i).st.arb = t.st.arb := by
  unfold TestRun.card State.testSign
  repeat' split
  all_goals simp

theorem TestRun.off_arb (t : TestRun) (i : SignId) : (t.off i).st.arb = t.st.arb := by
  unfold TestRun.off State.testSign
  repeat' split
  all_goals simp

/-- R107: what each sign of a SET_TEST leaves alone, the whole run does. -/
theorem TestRun.foldl_arb {f : TestRun → SignId → TestRun} (hf : ∀ t i, (f t i).st.arb = t.st.arb) (l : List SignId) :
    ∀ t : TestRun, (l.foldl f t).st.arb = t.st.arb := by
  induction l with
  | nil => exact fun _ => rfl
  | cons i l ih => exact fun t => (ih (f t i)).trans (hf t i)

theorem serveTest_arb (signs : List Nat) (pattern : Nat) : (serveTest signs pattern s).st.arb = s.arb := by
  unfold serveTest
  split
  · exact TestRun.foldl_arb (fun t i => t.card_arb _ i) _ _
  · rfl

theorem serveTestOff_arb (signs : List Nat) : (serveTestOff signs s).st.arb = s.arb := by
  unfold serveTestOff
  split
  · exact TestRun.foldl_arb TestRun.off_arb _ _
  · rfl

@[simp] theorem State.reconfigureLine_arb (l : LineId) (c : LineSetup) : (s.reconfigureLine l c).arb = s.arb := rfl

@[simp] theorem State.storeLine_arb (l : LineId) (f : LineFields) : (s.storeLine l f).arb = s.arb := by
  simp [State.storeLine, State.setGrouping]

theorem serveLine_arb (line : Nat) (f : LineFields) : (serveLine line f s).st.arb = s.arb := by
  unfold serveLine
  dsimp only
  repeat' split
  all_goals simp

@[simp] theorem State.storeQuiet_arb (q : QuietSetup) : (s.storeQuiet q).arb = s.arb := by simp [State.storeQuiet]

theorem serveQuiet_arb (enable qEnter qExit : Nat) : (serveQuiet enable qEnter qExit s).st.arb = s.arb := by
  unfold serveQuiet
  split <;> simp

theorem serveWake_arb : (serveWake s).st.arb = s.arb := by simp [serveWake]

theorem serveFaultMode_arb (f : ModeFields) : (serveFaultMode f s).st.arb = s.arb := by
  unfold serveFaultMode
  split <;> rfl

theorem serveClearSign_arb (sign : Nat) : (serveClearSign sign s).st.arb = s.arb := by
  unfold serveClearSign State.clearSign
  repeat' split
  all_goals rfl

theorem serveClearLine_arb (line : Nat) : (serveClearLine line s).st.arb = s.arb := by
  unfold serveClearLine
  split <;> simp

/-! ### Ports and reads -/

@[simp] theorem State.clearRead_arb (p : Port) (src : Source) : (s.clearRead p src).arb = s.arb := by
  cases src <;> rfl

theorem serveAttention_arb (p : Port) : (serveAttention p s).st.arb = s.arb := by
  unfold serveAttention
  dsimp only
  split <;> simp

theorem servePort_arb (target : Nat) (roles : RoleSet) (code : Nat) : (servePort target roles code s).st.arb = s.arb := by
  unfold servePort
  split <;> rfl

theorem serveCabinet_arb (p : Port) (address : Nat) : (serveCabinet p address s).st.arb = s.arb := by
  unfold serveCabinet
  split <;> rfl

theorem serveArbiter_arb (code fairness : Nat) : (serveArbiter code fairness s).st.arb = s.arb := by
  unfold serveArbiter
  split <;> rfl

theorem serveReadRoom_arb (room first : Nat) : (serveReadRoom room first s).st.arb = s.arb := by
  unfold serveReadRoom
  split <;> rfl

theorem serveReadEntry_arb (room tag : Nat) : (serveReadEntry room tag s).st.arb = s.arb := by
  unfold serveReadEntry
  repeat' split
  all_goals rfl

theorem serveReadSign_arb (sign : Nat) : (serveReadSign sign s).st.arb = s.arb := by
  unfold serveReadSign
  split <;> rfl

theorem serveReadLine_arb (line : Nat) : (serveReadLine line s).st.arb = s.arb := by
  unfold serveReadLine
  split <;> rfl

theorem serveReadNotice_arb (id : Nat) : (serveReadNotice id s).st.arb = s.arb := by
  unfold serveReadNotice
  repeat' split
  all_goals rfl

@[simp] theorem State.applyAddress_arb (a : Option Nat) : (s.applyAddress a).arb = s.arb := by cases a <;> rfl

theorem State.finishReply_arb (p : Port) : (s.finishReply p).arb = s.arb := by simp [State.finishReply]

@[simp] theorem State.lapseNotices_arb (p : Port) : (s.lapseNotices p).arb = s.arb := by
  unfold State.lapseNotices
  split <;> simp

@[simp] theorem State.raisePeers_arb (p : Port) : (s.raisePeers p).arb = s.arb := by
  refine foldl_same State.arb _ (fun t q => ?_) allPorts s
  split <;> rfl

/-! ### The setup store -/

theorem serveLoad_arb (p : Port) : (serveLoad p s).st.arb = s.arb := by
  unfold serveLoad
  repeat' split
  all_goals rfl

theorem State.completeSave_arb : s.completeSave.arb = s.arb := by
  unfold State.completeSave
  split <;> rfl

@[simp] theorem State.loadRooms_arb (new : Setup) : (s.loadRooms new).arb = s.arb := State.repress_arb _

@[simp] theorem State.loadSigns_arb (new : Setup) : (s.loadSigns new).arb = s.arb := rfl

@[simp] theorem State.loadLines_arb (new : Setup) : (s.loadLines new).arb = s.arb :=
  foldl_same State.arb _ (fun t l => t.reconfigureLine_arb l new.lines[l]) allLines (s.setGrouping new.grouping)

@[simp] theorem State.loadPort_arb (new : Setup) (p : Port) : (s.loadPort new p).arb = s.arb := by
  unfold State.loadPort
  dsimp only
  split <;> rfl

@[simp] theorem State.loadSettings_arb (new : Setup) : (s.loadSettings new).arb = s.arb := by
  simp only [State.loadSettings]
  rw [foldl_same State.arb (fun t p => t.loadPort new p) (fun t p => t.loadPort_arb new p)]

theorem State.applySetup_arb (new : Setup) : (s.applySetup new).arb = s.arb := by
  simp only [State.applySetup, State.forcedEvaluation_arb, State.quietSettled_arb, State.storeQuiet_arb,
    State.loadSettings_arb, State.loadLines_arb, State.loadSigns_arb, State.loadRooms_arb]

theorem State.completeLoad_arb : s.completeLoad.arb = s.arb := by
  unfold State.completeLoad
  split
  · dsimp only [State.storeOutcome, State.raise_arb, State.updPort_arb]
    split
    · exact s.applySetup_arb _
    · rfl
  · rfl

end Kept

/-! ### Lapse, SOFT_CLEAR and starts -/

/-- R173: of a lapse, the grant's part alone reaches the arbiter. -/
theorem State.lapse_evolves (s : State) (p : Port) : s.arb.Evolves (s.lapse p).arb := by
  have h := State.lapseGrant_evolves
    ((s.updPort p (fun x => { x with monitor := .lapsed, heartbeat := none })).lapseNotices p) p
  rw [State.lapseNotices_arb, State.updPort_arb] at h
  rwa [State.lapse, State.raisePeers_arb]

/-- R91, R182. -/
theorem State.softClear_arb (s : State) : s.softClear.arb = s.arb.cleared := by
  simp [State.softClear, State.untested, State.emptied]

theorem serveClear_evolves (s : State) : s.arb.Evolves (serveClear s).st.arb := by
  rw [serveClear, okWith_st, State.softClear_arb]
  exact Arbiter.Move.cleared.evolves

/-- R73, R181. -/
theorem State.startUp_arb (s : State) (cause : StartCause) (baud : Baud) (address : Nat) (programmed : Bool) :
    (s.startUp cause baud address programmed).arb = .fresh := State.forcedEvaluation_arb _

theorem State.startUp_evolves (s : State) (cause : StartCause) (baud : Baud) (address : Nat) (programmed : Bool) :
    s.arb.Evolves (s.startUp cause baud address programmed).arb := by
  rw [State.startUp_arb]
  exact Arbiter.Move.renewed.evolves

/-! ### What every command does to the arbiter -/

/-- R77: a request moves the arbiter by its arrival, and then by what its block or its broadcast form does. -/
theorem State.request_evolves (s : State) {h : Header} {code : Nat} {need : Need} {cast : State → Option State}
    {serve : State → Served} (hcast : ∀ u v : State, cast u = some v → u.arb.Evolves v.arb)
    (hserve : ∀ u : State, u.arb.Evolves (serve u).st.arb) : s.arb.Evolves (s.request h code need cast serve).arb :=
  State.request_keeps (P := fun u => s.arb.Evolves u.arb) (fun _ _ _ hu => hu)
    (fun u p hu => hu.trans (u.take_arb p ▸ Arbiter.restarted_evolves _ _ _))
    (fun u hu => hu.trans (hserve u)) (fun u v hu hv => hu.trans (hcast u v hv)) (.refl _)

/-- A request without a broadcast form. -/
theorem State.request_evolves_noCast (s : State) {h : Header} {code : Nat} {need : Need} {serve : State → Served}
    (hserve : ∀ u : State, u.arb.Evolves (serve u).st.arb) : s.arb.Evolves (s.request h code need noCast serve).arb :=
  s.request_evolves (fun _ _ hv => nomatch hv) hserve

/-- A request without a broadcast form, whose block leaves the arbiter alone. -/
theorem State.request_arrives (s : State) {h : Header} {code : Nat} {need : Need} {serve : State → Served}
    (hserve : ∀ u : State, (serve u).st.arb = u.arb) : s.arb.Evolves (s.request h code need noCast serve).arb :=
  s.request_evolves_noCast (fun u => .of_eq (hserve u))

/-- A choice between two changes. -/
theorem State.ite_evolves {s t u : State} {c : Prop} [Decidable c] (ht : s.arb.Evolves t.arb) (hu : s.arb.Evolves u.arb) :
    s.arb.Evolves (if c then t else u).arb := by
  split
  · exact ht
  · exact hu

theorem State.whenRunning_evolves {s : State} {f : State → State} (hf : s.arb.Evolves (f s).arb) :
    s.arb.Evolves (s.whenRunning f).arb := State.ite_evolves hf (.refl _)

theorem State.whenHeard_evolves {s : State} {p : Port} {f : State → State} (hf : s.arb.Evolves (f s).arb) :
    s.arb.Evolves (s.whenHeard p f).arb := State.ite_evolves hf (.refl _)

/-- An event that needs a running hub and a condition. -/
theorem State.whenRunning_if {s : State} {c : State → Prop} [∀ u, Decidable (c u)] {f : State → State}
    (hf : s.arb.Evolves (f s).arb) : s.arb.Evolves (s.whenRunning fun u => if c u then f u else u).arb :=
  State.whenRunning_evolves (State.ite_evolves hf (.refl _))

/-- An event that needs a running hub and leaves the arbiter alone. -/
theorem State.whenRunning_still {s : State} {f : State → State} (hf : (f s).arb = s.arb) :
    s.arb.Evolves (s.whenRunning f).arb := State.whenRunning_evolves (.of_eq hf)

/-- R73 to R81, R91: what any command does to the arbiter is a sequence of moves. -/
theorem exec_evolves (s : State) : ∀ c : Instr, ∃ t, exec c s = .next t ∧ s.arb.Evolves t.arb
  | .readStatus _ => ⟨_, rfl, s.request_arrives fun _ => rfl⟩
  | .readRoom _ room first => ⟨_, rfl, s.request_arrives fun u => serveReadRoom_arb u room first⟩
  | .readEntry _ room tag => ⟨_, rfl, s.request_arrives fun u => serveReadEntry_arb u room tag⟩
  | .readSign _ sign => ⟨_, rfl, s.request_arrives fun u => serveReadSign_arb u sign⟩
  | .readLine _ line => ⟨_, rfl, s.request_arrives fun u => serveReadLine_arb u line⟩
  | .readNotice _ id => ⟨_, rfl, s.request_arrives fun u => serveReadNotice_arb u id⟩
  | .heartbeat _ => ⟨_, rfl, s.request_evolves (fun _ _ hv => Option.some.inj hv ▸ .refl _) fun _ => .refl _⟩
  | .readAttention h => ⟨_, rfl, s.request_arrives fun u => serveAttention_arb u h.port⟩
  | .setAttentionMask _ _ => ⟨_, rfl, s.request_arrives fun _ => rfl⟩
  | .putEntry h room f => ⟨_, rfl, s.request_arrives fun u => servePut_arb u h.port room f⟩
  | .dropEntry h room tag => ⟨_, rfl, s.request_arrives fun u => serveDrop_arb u h.port room tag⟩
  | .markEntry h room tag a b => ⟨_, rfl, s.request_arrives fun u => serveMark_arb u h.port room tag a b⟩
  | .clearDay h room day => ⟨_, rfl, s.request_arrives fun u => serveClearDay_arb u h.port room day⟩
  | .setClock _ day minute second => ⟨_, rfl, s.request_evolves (fun _ _ hv => .of_eq (castClock_arb hv))
      fun u => .of_eq (serveClock_arb u day minute second)⟩
  | .openBatch h rooms => ⟨_, rfl, s.request_evolves_noCast (serveOpen_evolves h.port rooms)⟩
  | .stagePut h room f => ⟨_, rfl, s.request_evolves_noCast (stage_evolves h.port room (putRange f) _)⟩
  | .stageDrop h room tag => ⟨_, rfl, s.request_evolves_noCast (stage_evolves h.port room (tagRange tag) _)⟩
  | .stageMark h room tag _ _ => ⟨_, rfl, s.request_evolves_noCast (stage_evolves h.port room (tagRange tag) _)⟩
  | .stageClearDay h room day => ⟨_, rfl, s.request_evolves_noCast (stage_evolves h.port room (dayRange day) _)⟩
  | .commitBatch h => ⟨_, rfl, s.request_evolves_noCast (serveCommit_evolves h.port)⟩
  | .abandonBatch h => ⟨_, rfl, s.request_evolves_noCast (serveAbandon_evolves h.port)⟩
  | .postNotice h f => ⟨_, rfl, s.request_evolves (fun _ _ hv => .of_eq (castPost_arb hv))
      fun u => .of_eq (servePost_arb u h.port f)⟩
  | .withdrawNotice h id => ⟨_, rfl, s.request_evolves (fun _ _ hv => .of_eq (castWithdraw_arb hv))
      fun u => .of_eq (serveWithdraw_arb u h.port id)⟩
  | .setRoom _ room f => ⟨_, rfl, s.request_arrives fun u => serveRoom_arb u room f⟩
  | .mapSign _ sign f => ⟨_, rfl, s.request_arrives fun u => serveMap_arb u sign f⟩
  | .mapSignUnmap _ sign => ⟨_, rfl, s.request_arrives fun u => serveUnmap_arb u sign⟩
  | .setTest _ signs pattern => ⟨_, rfl, s.request_arrives fun u => serveTest_arb u signs pattern⟩
  | .setTestOff _ signs => ⟨_, rfl, s.request_arrives fun u => serveTestOff_arb u signs⟩
  | .setLine _ line f => ⟨_, rfl, s.request_arrives fun u => serveLine_arb u line f⟩
  | .setQuiet _ enable qEnter qExit => ⟨_, rfl, s.request_arrives fun u => serveQuiet_arb u enable qEnter qExit⟩
  | .wakeLines _ => ⟨_, rfl, s.request_arrives serveWake_arb⟩
  | .setFaultMode _ f => ⟨_, rfl, s.request_arrives fun u => serveFaultMode_arb u f⟩
  | .clearFaultSign _ sign => ⟨_, rfl, s.request_arrives fun u => serveClearSign_arb u sign⟩
  | .clearFaultLine _ line => ⟨_, rfl, s.request_arrives fun u => serveClearLine_arb u line⟩
  | .setPort _ target roles code => ⟨_, rfl, s.request_arrives fun u => servePort_arb u target roles code⟩
  | .setCabinet h address => ⟨_, rfl, s.request_arrives fun u => serveCabinet_arb u h.port address⟩
  | .setArbiter _ code fairness => ⟨_, rfl, s.request_arrives fun u => serveArbiter_arb u code fairness⟩
  | .saveSetup _ => ⟨_, rfl, s.request_arrives fun _ => rfl⟩
  | .loadSetup h => ⟨_, rfl, s.request_arrives fun u => serveLoad_arb u h.port⟩
  | .softClear _ => ⟨_, rfl, s.request_evolves_noCast serveClear_evolves⟩
  | .unknownRequest _ _ => ⟨_, rfl, s.request_arrives fun _ => rfl⟩
  | .broadcastDropped p => ⟨_, rfl, State.whenHeard_evolves (s.take_arb p ▸ Arbiter.restarted_evolves _ _ _)⟩
  | .packetDiscarded _ => ⟨_, rfl, State.whenHeard_evolves (.refl _)⟩
  | .packetIgnored _ => ⟨_, rfl, State.whenHeard_evolves (.refl _)⟩
  | .bodyLengthOver240 _ => ⟨_, rfl, State.whenHeard_evolves (.refl _)⟩
  | .receivingGap _ => ⟨_, rfl, State.whenRunning_if (.of_eq rfl)⟩
  | .skippingGap _ => ⟨_, rfl, State.whenRunning_if (.of_eq rfl)⟩
  | .replySent p => ⟨_, rfl, State.whenRunning_if (.of_eq (s.finishReply_arb p))⟩
  | .secondBoundary => ⟨_, rfl, State.whenRunning_still s.boundary_arb⟩
  | .minuteBoundary => ⟨_, rfl, State.whenRunning_if (.of_eq s.boundary_arb)⟩
  | .dayBoundary => ⟨_, rfl, State.whenRunning_if (.of_eq s.boundary_arb)⟩
  | .dayBoundaryOutOfDay15 => ⟨_, rfl, State.whenRunning_if (.of_eq s.boundary_arb)⟩
  | .idleTimerExpiry => ⟨_, rfl, State.whenRunning_if s.withdraw_evolves⟩
  | .heartbeatLapse p => ⟨_, rfl, State.whenRunning_if (s.lapse_evolves p)⟩
  | .jobCreation l => ⟨_, rfl, State.whenRunning_still (arb_of_offBoard (s.createJob_offBoard l))⟩
  | .jobStart l => ⟨_, rfl, State.whenRunning_still (arb_of_offBoard (s.startJob_offBoard l))⟩
  | .ack l pos => ⟨_, rfl, State.whenRunning_still (arb_of_offBoard (s.takeAck_offBoard l pos))⟩
  | .ackWaitExpiry l => ⟨_, rfl, State.whenRunning_still (arb_of_desk (s.ackMissed_desk l))⟩
  | .pollTimerExpiry _ => ⟨_, rfl, State.whenRunning_still rfl⟩
  | .pollExchange _ => ⟨_, rfl, State.whenRunning_still rfl⟩
  | .busyAnswer l pos => ⟨_, rfl, State.whenRunning_still (arb_of_offBoard (s.takeBusy_offBoard l pos))⟩
  | .doneOrIdle l pos digest => ⟨_, rfl, State.whenRunning_still (arb_of_desk (s.takeDone_desk l pos digest))⟩
  | .pollAnswerWaitExpiry l => ⟨_, rfl, State.whenRunning_still (arb_of_desk (s.pollMissed_desk l))⟩
  | .refreshTimerExpiry l sign => ⟨_, rfl, State.whenRunning_still (arb_of_desk (s.slow_desk l sign))⟩
  | .settleTimerExpiry _ => ⟨_, rfl, State.whenRunning_still rfl⟩
  | .rollCallIntervalExpiry _ => ⟨_, rfl, State.whenRunning_still rfl⟩
  | .rollCallStart _ => ⟨_, rfl, State.whenRunning_still rfl⟩
  | .classAnswer l pos cls => ⟨_, rfl, State.whenRunning_still (arb_of_desk (s.takeClass_desk l pos cls))⟩
  | .rollAnswerWaitExpiry l => ⟨_, rfl, State.whenRunning_still (arb_of_desk (s.rollMissed_desk l))⟩
  | .lineSleep l => ⟨_, rfl, State.whenRunning_still (arb_of_offBoard (s.sleepLine_offBoard l))⟩
  | .trip l => ⟨_, rfl, State.whenRunning_if (.of_eq (arb_of_desk (s.trip_desk l)))⟩
  | .retryTimerExpiry sign =>
    ⟨_, rfl, State.whenRunning_if (.of_eq (arb_of_offBoard (s.endRetry_offBoard sign)))⟩
  | .lineRetryWaitExpiry l => ⟨_, rfl, State.whenRunning_if (.of_eq (s.restoreLine_arb l))⟩
  | .saveCompletion => ⟨_, rfl, State.whenRunning_still s.completeSave_arb⟩
  | .loadCompletion => ⟨_, rfl, State.whenRunning_still s.completeLoad_arb⟩
  | .powerOn _ _ => ⟨_, rfl, State.ite_evolves (.refl _) (State.ite_evolves (.refl _) (s.startUp_evolves _ _ _ _))⟩
  | .resetPinRelease => ⟨_, rfl, State.ite_evolves (s.startUp_evolves _ _ _ _) (.refl _)⟩
  | .resetPinAssert => ⟨_, rfl, State.ite_evolves Arbiter.Move.renewed.evolves (.refl _)⟩
  | .powerLoss => ⟨_, rfl, State.ite_evolves (.refl _) Arbiter.Move.renewed.evolves⟩
  | .leadByteInHunting _ => ⟨_, rfl, State.whenRunning_if (.of_eq rfl)⟩
  | .excessCurrentOnset _ => ⟨_, rfl, State.whenRunning_if (.of_eq rfl)⟩
  | .excessCurrentEnd _ => ⟨_, rfl, State.whenRunning_still rfl⟩

/-! ### The law of the grant -/

/-- R74, of the arbiter alone. -/
structure Arbiter.Lawful (a : Arbiter) : Prop where
  apart : ∀ w ∈ a.waiters, a.holder ≠ some w.port
  few : a.waiters.length ≤ 2
  once : (a.waiters.map Waiter.port).Nodup

theorem grantLaw_iff (s : State) : GrantLaw s ↔ s.arb.Lawful :=
  ⟨fun ⟨apart, few, once⟩ => ⟨apart, few, once⟩, fun h => ⟨h.apart, h.few, h.once⟩⟩

/-- There are three ports. -/
theorem length_le_three_of_nodup {l : List Port} (h : l.Nodup) : l.length ≤ 3 := by
  simpa using (h.map fun _ _ => portIndex_injective).length_le_card

/-- What leaves the wait list leaves the rest of it in order. -/
theorem waiters_filter_once {l : List Waiter} (h : (l.map Waiter.port).Nodup) (keep : Waiter → Bool) :
    ((l.filter keep).map Waiter.port).Nodup :=
  h.sublist (List.filter_sublist.map _)

theorem waiters_filter_few {l : List Waiter} (h : l.length ≤ 2) (keep : Waiter → Bool) : (l.filter keep).length ≤ 2 :=
  (List.length_filter_le keep l).trans h

/-- R74, R76: the holder, the waiters and a port that joins them are at most three ports. -/
theorem Arbiter.Lawful.queued {a : Arbiter} (h : a.Lawful) {w : Waiter} (held : a.holder.isSome = true)
    (other : a.holder ≠ some w.port) (new : ∀ x ∈ a.waiters, x.port ≠ w.port) :
    Arbiter.Lawful { a with waiters := a.waiters ++ [w] } := by
  obtain ⟨p, hp⟩ := Option.isSome_iff_exists.1 held
  have once : ((a.waiters ++ [w]).map Waiter.port).Nodup := by
    rw [List.map_append, List.nodup_append]
    exact ⟨h.once, List.nodup_singleton _, by simpa using new⟩
  have apart : ∀ x ∈ a.waiters ++ [w], a.holder ≠ some x.port := by
    simpa [or_imp, forall_and] using ⟨h.apart, other⟩
  have three : (p :: (a.waiters ++ [w]).map Waiter.port).Nodup := by
    refine List.nodup_cons.2 ⟨fun hmem => ?_, once⟩
    obtain ⟨x, hx, rfl⟩ := List.mem_map.1 hmem
    exact apart x hx hp
  have count := length_le_three_of_nodup three
  rw [List.length_cons, List.length_map] at count
  exact ⟨apart, Nat.le_of_succ_le_succ count, once⟩

/-- R74: every move keeps the law. -/
theorem Arbiter.Move.lawful {a b : Arbiter} (m : a.Move b) (h : a.Lawful) : b.Lawful := by
  cases m with
  | restarted n held => exact ⟨h.apart, h.few, h.once⟩
  | staged l held => exact ⟨h.apart, h.few, h.once⟩
  | opened p rooms n free new => exact ⟨fun w hw e => new w hw (Option.some.inj e).symm, h.few, h.once⟩
  | queued w held other new => exact h.queued held other new
  | released => exact ⟨fun _ _ e => (nomatch e), h.few, h.once⟩
  | passed w n waits =>
    refine ⟨fun x hx e => ?_, waiters_filter_few h.few _, waiters_filter_once h.once _⟩
    exact bne_iff_ne.1 (List.mem_filter.1 hx).2 (Option.some.inj e).symm
  | counted n => exact ⟨h.apart, h.few, h.once⟩
  | left p =>
    exact ⟨fun x hx => h.apart x (List.mem_filter.1 hx).1, waiters_filter_few h.few _, waiters_filter_once h.once _⟩
  | cleared => exact ⟨fun _ hw => (nomatch hw), Nat.zero_le 2, List.nodup_nil⟩
  | renewed => exact ⟨fun _ hw => (nomatch hw), Nat.zero_le 2, List.nodup_nil⟩

theorem Arbiter.Evolves.lawful {a b : Arbiter} (e : a.Evolves b) (h : a.Lawful) : b.Lawful := by
  induction e with
  | refl => exact h
  | tail _ m ih => exact m.lawful ih

/-- What a step does to the arbiter is a sequence of moves. -/
theorem step_evolves {s t : State} (h : step s = .next t) : s.arb.Evolves t.arb := by
  unfold step at h
  split at h
  · exact .of_eq (congrArg State.arb (Host.Outcome.next.inj h)).symm
  · next c rest _ =>
    obtain ⟨u, hexec, hmoves⟩ := exec_evolves { s with pending := rest } c
    exact Host.Outcome.next.inj (hexec.symm.trans h) ▸ hmoves

/-- Settles O4: the moves of a step keep the law one by one. -/
theorem grantLawKept : Obligations.GrantLawKept := by
  unfold Obligations.GrantLawKept
  intro s t h hstep
  rw [grantLaw_iff] at h ⊢
  exact (step_evolves hstep).lawful h

end Sys2Proof.Machine
end

section
/-! PROOFS. ABANDON_BATCH and the expiry of the idle timer (R78 to R80, R90). Both are a release of the grant, which reaches
the arbiter and the port flags alone; ABANDON_BATCH stands within the request path, which moves nothing that a release reads,
and the expiry counts the withdrawal and raises WITHDRAW first. -/

namespace Sys2Proof.Machine

/-! ### The release -/

/-- R79, R80: a release reaches the arbiter and the ports alone. -/
theorem State.release_eq (s : State) : s.release = { s with arb := s.release.arb, ports := s.release.ports } := by
  unfold State.release
  split <;> rfl

/-- R174: a source raised on a port, seen at any port: of its record the flags alone move. -/
theorem State.raise_port (s : State) (p q : Port) (src : Source) :
    (s.raise p src).port q = { s.port q with raised := ((s.raise p src).port q).raised } := by
  rw [State.raise, State.port_updPort]
  split <;> rfl

/-- R80: of a port, a release reaches the flags alone. -/
theorem State.release_port (s : State) (q : Port) :
    s.release.port q = { s.port q with raised := (s.release.port q).raised } := by
  unfold State.release
  split
  · rfl
  · exact State.raise_port _ _ q .grant

/-- Of the hub before it, a release reads the setup, the wait list and the flags alone. -/
theorem Released.of_before {s u t : State} {n : Nat} (h : Released u t n) (hsetup : u.setup = s.setup)
    (hwaiters : u.arb.waiters = s.arb.waiters) (hraised : ∀ q, (u.port q).raised = (s.port q).raised) :
    Released s t n where
  free := hwaiters ▸ h.free
  granted := hwaiters ▸ hsetup ▸ h.granted
  flags q := hraised q ▸ h.flags q

/-- Taking a request leaves what a release reads. -/
theorem Released.of_take {s t : State} {p : Port} {n : Nat} (h : Released (s.take p) t n) : Released s t n :=
  h.of_before (s.take_setup p) (by simp) (s.take_raised p)

/-- A change at a port that keeps its flags leaves a release a release. -/
theorem Released.updPort {s t : State} {n : Nat} (h : Released s t n) (p : Port) {f : PortRecord → PortRecord}
    (hf : ∀ x, (f x).raised = x.raised) : Released s (t.updPort p f) n where
  free := h.free
  granted := h.granted
  flags q := t.updPort_raised p hf q ▸ h.flags q

/-! ### The withdrawal -/

section Withdraw
variable {s : State} {p : Port} (h : s.arb.holder = some p)
include h

/-- R78: a withdrawal reaches the arbiter and the ports alone. -/
theorem State.withdraw_eq : s.withdraw = { s with arb := s.withdraw.arb, ports := s.withdraw.ports } := by
  rw [State.withdraw_def h]
  exact State.release_eq _

/-- R78: of a port, a withdrawal reaches the flags alone. -/
theorem State.withdraw_port (q : Port) : s.withdraw.port q = { s.port q with raised := (s.withdraw.port q).raised } := by
  rw [State.withdraw_def h, State.release_port, State.withdrawing, State.raise_port]
  rfl

/-- R78 to R80: a withdrawal is a release of the hub with WITHDRAW raised on the holder. -/
theorem State.withdraw_released :
    Released (s.setPort p { s.port p with raised := (s.port p).raised ||| Source.flag .withdraw }) s.withdraw
      (min 255 (s.arb.withdrawals + 1)) := by
  rw [State.withdraw_def h]
  exact (State.release_released (s.withdrawing p)).of_before rfl rfl fun _ => rfl

end Withdraw

/-- R77, R163: a request whose block reaches the arbiter and the ports alone. -/
theorem State.answer_eq_of_arb {s : State} {p : Port} {v : Served}
    (h : v.st = { s.take p with arb := v.st.arb, ports := v.st.ports }) (code : Nat) :
    (s.take p).answer p code v = { s with arb := v.st.arb, ports := ((s.take p).answer p code v).ports } := by
  rw [State.take_eq] at h
  exact congrArg (fun u : State => { u with ports := ((s.take p).answer p code v).ports }) h

/-! ### ABANDON_BATCH and IDLE_TIMER_EXPIRY -/

section Abandon
variable {s : State} {h : Header}

/-- R90: only the holder abandons. -/
theorem exec_abandonBatch_notHolder (a : Accepted s h .timetable) (hother : s.arb.holder ≠ some h.port) :
    exec (.abandonBatch h) s = .next (s.answeredWith h 0x1E .notHolder .empty) := by
  refine congrArg Host.Outcome.next (State.request_refuse a (if_pos ?_))
  rwa [State.take_arb, Arbiter.restarted_holder]

/-- R90: the holder's ABANDON_BATCH releases the grant. -/
theorem exec_abandonBatch_releases (a : Accepted s h .timetable) (hholds : s.arb.holder = some h.port) :
    ∃ t, exec (.abandonBatch h) s = .next t ∧ Replied s t h 0x1E .ok false .empty ∧ Released s t s.arb.withdrawals ∧
      PortsAnswered s t h.port ∧ t = { s with arb := t.arb, ports := t.ports } := by
  have hserve : serveAbandon h.port (s.take h.port) = okWith (s.take h.port).release .empty :=
    if_neg (by rw [State.take_arb, Arbiter.restarted_holder]; exact not_not.2 hholds)
  have hframe := (s.take h.port).release_eq
  have hports := (s.take h.port).release_port
  have hreleased := (s.take h.port).release_released
  rw [State.take_arb, Arbiter.restarted_withdrawals] at hreleased
  refine ⟨_, congrArg Host.Outcome.next (State.request_accepted a 0x1E _ _), ?_⟩
  rw [hserve]
  generalize (s.take h.port).release = t at hframe hports hreleased ⊢
  refine ⟨⟨?_, ?_⟩, hreleased.of_take.updPort _ (fun _ => rfl), State.answer_portsAnswered hports _ _, ?_⟩
  · rw [State.answer_port_self]
  · rw [State.answer_port_self, State.take_address]
    rfl
  · exact State.answer_eq_of_arb (v := okWith t .empty) hframe 0x1E

/-- R78: the idle timer of a running hub expires. -/
theorem exec_idleTimerExpiry (hrun : s.run = .running) (hidle : s.arb.idle.isSome = true) :
    exec .idleTimerExpiry s = .next s.withdraw :=
  congrArg Host.Outcome.next ((if_pos hrun).trans (if_pos hidle))

end Abandon

/-- Settles O44: ABANDON_BATCH by its holder is a release of the hub as its request was taken, and the idle timer's expiry
is a withdrawal. -/
theorem abandonAndIdleExpiryRelease : Obligations.AbandonAndIdleExpiryRelease := by
  unfold Obligations.AbandonAndIdleExpiryRelease
  intro s
  refine ⟨fun h a => ⟨exec_abandonBatch_notHolder a, exec_abandonBatch_releases a⟩, fun p hrun hholds hidle => ?expiry⟩
  case expiry =>
    exact ⟨s.withdraw, exec_idleTimerExpiry hrun hidle, State.withdraw_released hholds, State.withdraw_port hholds,
      State.withdraw_eq hholds⟩

end Sys2Proof.Machine
end

section
/-! PROOFS. READ_SIGN and READ_LINE (R95, R109, R129, R150). Both are requests whose block leaves the state as it was taken;
what they report of it, taking the request does not touch. The report of a sign follows its mapping: the delivery state, the
place and the job are those of the line the sign is mapped to. -/

namespace Sys2Proof.Machine

/-! ### What the reports see of a taken request -/

@[simp] theorem State.take_jobOf (s : State) (p : Port) (i : SignId) : (s.take p).jobOf i = s.jobOf i := by
  simp [State.jobOf]

@[simp] theorem State.take_delivery (s : State) (p : Port) (i : SignId) : (s.take p).delivery i = s.delivery i := by
  simp [State.delivery]

@[simp] theorem State.take_queuePlace (s : State) (p : Port) (i : SignId) : (s.take p).queuePlace i = s.queuePlace i := by
  simp [State.queuePlace]

@[simp] theorem State.take_signReport (s : State) (p : Port) (i : SignId) : (s.take p).signReport i = s.signReport i := by
  simp [State.signReport]

@[simp] theorem State.take_lineReport (s : State) (p : Port) (l : LineId) : (s.take p).lineReport l = s.lineReport l := by
  simp [State.lineReport]

/-! ### The report of a sign, by its mapping -/

section Unmapped
variable {s : State} {i : SignId} (hm : s.mapping i = none)
include hm

theorem State.jobOf_unmapped : s.jobOf i = none := by simp only [State.jobOf, hm]

theorem State.delivery_unmapped : s.delivery i = .clean := by simp only [State.delivery, hm]

theorem State.queuePlace_unmapped : s.queuePlace i = none := by simp only [State.queuePlace, hm]

/-- R109: of an unmapped sign the record alone says something. -/
theorem State.signReport_unmapped : s.signReport i =
    { number := i, mapping := none, record := s.sign i, delivery := .clean, place := none, job := none } := by
  rw [State.signReport, hm, State.delivery_unmapped hm, State.queuePlace_unmapped hm, State.jobOf_unmapped hm,
    Option.map_none]

end Unmapped

section Mapped
variable {s : State} {i : SignId} {m : Mapping} (hm : s.mapping i = some m)
include hm

theorem State.jobOf_mapped : s.jobOf i = (s.line m.line).jobOf i := by simp only [State.jobOf, hm]

theorem State.delivery_mapped : s.delivery i =
    if ((s.line m.line).jobOf i).isSome then .jobbed else if (s.sign i).matched then .clean else .dirty := by
  simp only [State.delivery, hm]

theorem State.queuePlace_mapped : s.queuePlace i = ((s.line m.line).dirty.idxOf? i).map (fun n => n + 1) := by
  simp only [State.queuePlace, hm]

/-- R95, R109: the delivery state, the place and the job of a mapped sign are read off its line. -/
theorem State.signReport_mapped : s.signReport i =
    { number := i, mapping := some m, record := s.sign i
      delivery := if ((s.line m.line).jobOf i).isSome then .jobbed
        else if (s.sign i).matched then .clean else .dirty
      place := ((s.line m.line).dirty.idxOf? i).map (fun n => n + 1)
      job := ((s.line m.line).jobOf i).map (fun j => (j.kind, j.state, j.urgent)) } := by
  rw [State.signReport, hm, State.delivery_mapped hm, State.queuePlace_mapped hm, State.jobOf_mapped hm]

end Mapped

/-! ### The blocks -/

@[simp] theorem sign?_val (i : SignId) : sign? i.val = some i := dif_pos i.isLt

theorem sign?_of_le {n : Nat} (h : 96 ≤ n) : sign? n = none := dif_neg (Nat.not_lt.2 h)

@[simp] theorem line?_val (l : LineId) : line? l.val = some l := dif_pos l.isLt

theorem line?_of_le {n : Nat} (h : 6 ≤ n) : line? n = none := dif_neg (Nat.not_lt.2 h)

theorem serveReadSign_absent {n : Nat} (h : 96 ≤ n) (s : State) : serveReadSign n s = refuse s .badValue := by
  simp only [serveReadSign, sign?_of_le h]

theorem serveReadSign_sign (i : SignId) (s : State) : serveReadSign i.val s = okWith s (.sign (s.signReport i)) := by
  simp only [serveReadSign, sign?_val]

theorem serveReadLine_absent {n : Nat} (h : 6 ≤ n) (s : State) : serveReadLine n s = refuse s .badValue := by
  simp only [serveReadLine, line?_of_le h]

theorem serveReadLine_line (l : LineId) (s : State) : serveReadLine l.val s = okWith s (.line (s.lineReport l)) := by
  simp only [serveReadLine, line?_val]

/-! ### The two requests -/

section Reads
variable {s : State} {h : Header} (a : Accepted s h .none)
include a

theorem exec_readSign_absent {n : Nat} (hn : 96 ≤ n) :
    exec (.readSign h n) s = .next (s.answeredWith h 0x04 .badValue .empty) :=
  congrArg Host.Outcome.next (State.request_refuse a (serveReadSign_absent hn _))

theorem exec_readSign_sign (i : SignId) :
    exec (.readSign h i.val) s = .next (s.answeredWith h 0x04 .ok (.sign (s.signReport i))) := by
  refine congrArg Host.Outcome.next (State.request_okWith a ?_)
  rw [serveReadSign_sign, State.take_signReport]

theorem exec_readLine_absent {n : Nat} (hn : 6 ≤ n) :
    exec (.readLine h n) s = .next (s.answeredWith h 0x05 .badValue .empty) :=
  congrArg Host.Outcome.next (State.request_refuse a (serveReadLine_absent hn _))

theorem exec_readLine_line (l : LineId) :
    exec (.readLine h l.val) s = .next (s.answeredWith h 0x05 .ok (.line (s.lineReport l))) := by
  refine congrArg Host.Outcome.next (State.request_okWith a ?_)
  rw [serveReadLine_line, State.take_lineReport]

end Reads

/-- Settles O26: each read reports the state as its request found it, a sign by its mapping. The fields that the statement
spells out are `LineRecord.jobOf` and `State.lineReport` by definition. -/
theorem signAndLineReadsReport : Obligations.SignAndLineReadsReport := by
  unfold Obligations.SignAndLineReadsReport
  intro s h a
  refine ⟨fun _ hn => exec_readSign_absent a hn, fun _ hn => exec_readLine_absent a hn, ?unmapped, ?mapped,
    ?line⟩
  case unmapped =>
    intro i hm
    rw [exec_readSign_sign a, State.signReport_unmapped hm]
  case mapped =>
    intro i m hm
    rw [exec_readSign_sign a, State.signReport_mapped hm]
    rfl
  case line =>
    intro l
    rw [exec_readLine_line a]
    rfl

end Sys2Proof.Machine
end

section
/-! PROOFS. SET_ATTENTION_MASK (R176). An accepted request whose block writes one field of its own port's record, a field that
the answer does not touch, comes to a request that changes nothing else, with that field written after it; what the ports show
is read off that one state. -/

namespace Sys2Proof.Machine

/-! ### Requests that change nothing else, at the ports -/

/-- R163, R168, R172: the port at which a request was answered with nothing else changed. -/
@[simp] theorem State.answered_port_self (s : State) (p : Port) (r : Reply) :
    (s.answered p r).port p = { s.port p with reception := .answering, buffer := [], reply := some r, monitor := .alive
                                              heartbeat := heartbeatTime (s.portSetup p).interval } :=
  s.port_setPort_self p _

theorem State.answered_port_of_ne (s : State) {p q : Port} (h : q ≠ p) (r : Reply) : (s.answered p r).port q = s.port q :=
  s.port_setPort_of_ne h _

/-! ### Requests that write one more field of their own port -/

theorem State.updPort_updPort (s : State) (p : Port) (f g : PortRecord → PortRecord) :
    (s.updPort p f).updPort p g = s.updPort p (fun x => g (f x)) := by
  simp [State.updPort, State.setPort, State.port]

/-- R163, R168: an accepted request whose block changes its own port's record, in a way that the answer neither sees nor undoes
(hf), is a request that changes nothing else with that change made after it. -/
theorem State.request_updPort {s : State} {h : Header} {need : Need} (a : Accepted s h need) {code : Nat}
    {cast : State → Option State} {serve : State → Served} {f : PortRecord → PortRecord} {r : Result}
    (hserve : serve (s.take h.port) = okWith ((s.take h.port).updPort h.port f) r)
    (hf : ∀ x y, f { x with reception := .answering, buffer := [], reply := y } =
      { f x with reception := .answering, buffer := [], reply := y }) :
    s.request h code need cast serve = (s.answeredWith h code .ok r).updPort h.port f := by
  have hplain : (s.take h.port).answer h.port code (okWith (s.take h.port) r) = s.answeredWith h code .ok r :=
    s.answer_unchanged h code _ rfl rfl
  rw [State.request_accepted a, hserve, ← hplain]
  simp only [State.answer, okWith_st, State.updPort_updPort, hf]
  rfl

/-! ### SET_ATTENTION_MASK -/

/-- R174: the attention line of a port stands for a source that is pending and enabled. -/
theorem State.attentionLine_iff (s : State) (p : Port) :
    s.attentionLine p = true ↔ (s.port p).raised &&& (s.port p).mask ≠ 0#8 := bne_iff_ne

/-- R176: the block writes the mask and reports it with the pending flags, which it leaves. -/
theorem serveMask_eq (p : Port) (mask : BitVec 8) (s : State) :
    serveMask p mask s = okWith (s.updPort p fun x => { x with mask := mask }) (.mask mask (s.port p).raised) := by
  simp only [serveMask, State.port_updPort_self]

section SetAttentionMask
variable {s : State} {h : Header} (mask : BitVec 8)

/-- R166, R176: there is no broadcast form. -/
theorem exec_setAttentionMask_dropped (c : Cast s h) :
    exec (.setAttentionMask h mask) s = exec (.broadcastDropped h.port) s :=
  State.request_dropped c rfl

/-- R176: the whole next state: the request answered, with the mask written at its port. -/
theorem exec_setAttentionMask_accepted (a : Accepted s h .none) :
    exec (.setAttentionMask h mask) s = .next ((s.answeredWith h 0x09 .ok (.mask mask (s.port h.port).raised)).updPort
      h.port fun x => { x with mask := mask }) := by
  refine congrArg Host.Outcome.next (State.request_updPort a ?_ fun _ _ => rfl)
  rw [serveMask_eq, State.take_raised]

/-- R163, R168, R172, R176: the same state seen at its ports: of the requesting one the mask is all that moves beside what
every answered request moves, of the others nothing. -/
theorem exec_setAttentionMask_ports (a : Accepted s h .none) : ∃ t, exec (.setAttentionMask h mask) s = .next t ∧
    t.port h.port = { s.port h.port with
      reception := .answering, buffer := [], monitor := .alive, heartbeat := heartbeatTime (s.portSetup h.port).interval
      reply := some { cabinet := s.address, code := 0x09, status := .ok, low := s.pressure == .low, clamped := false
                      result := .mask mask (s.port h.port).raised }
      mask := mask } ∧
    (∀ q, q ≠ h.port → t.port q = s.port q) ∧
    t = { s with ports := t.ports, arb := s.arb.restarted h.port s.setup.arbiter.idleCode } := by
  refine ⟨_, exec_setAttentionMask_accepted mask a, ?self, fun q hq => ?others, rfl⟩
  case self => rw [State.port_updPort_self, State.answeredWith, State.answered_port_self]
  case others => rw [State.port_updPort_of_ne _ hq, State.answeredWith, State.answered_port_of_ne s hq]

end SetAttentionMask

/-- Settles O23: a broadcast has no form to carry it out, and what a direct request leaves is read off its port's record. -/
theorem attentionMaskIsSet : Obligations.AttentionMaskIsSet := by
  unfold Obligations.AttentionMaskIsSet
  intro s h mask
  refine ⟨exec_setAttentionMask_dropped mask, fun a => ?_⟩
  obtain ⟨t, hexec, hport, hothers, hframe⟩ := exec_setAttentionMask_ports mask a
  have hpressure : t.pressure = s.pressure := by rw [hframe]
  have hreplied : Replied s t h 0x09 .ok false (.mask mask (s.port h.port).raised) := by
    rw [Replied, hport, hpressure]
    exact ⟨rfl, rfl⟩
  have hline : t.attentionLine h.port = true ↔ (s.port h.port).raised &&& mask ≠ 0#8 := by
    rw [State.attentionLine_iff, hport]
  refine ⟨t, hexec, hreplied, ?_, ?_, ?_, ?_, hline, hothers, hframe⟩ <;> rw [hport]

end Sys2Proof.Machine
end

section
/-! PROOFS. What a command can do to what the laws of the device speak of: the clock, the timetables, the notices, the setup
and its stored copy, the boards, the signs and the lines. Every command is traced once to a sequence of moves: moves of the
desk, which leave the delivery side alone; moves of the floor, which leave everything but signs and lines alone; and the few
that reach both. A law is then kept because each move keeps it. -/

namespace Sys2Proof.Machine

/-! ### What no law speaks of -/

/-- The hub without run state, pins, store state, address, pressure level, arbiter, quiet state and ports. -/
def State.core (s : State) : State :=
  { s with
    run := .running
    resetPin := false
    baud := .b115200
    store := .blank
    startCause := .power
    address := 0
    programmed := false
    pressure := .normal
    arb := .fresh
    quiet := .disabled
    ports := State.reset.ports }

/-! ### Moves of a line -/

/-- One change of a line under its settings. No sign comes to its queue or its job list that was in neither. -/
inductive LineRecord.Move (c : LineSetup) : LineRecord → LineRecord → Prop
  /-- Jobs and queued signs leave, and timers, exchange, roll call, extras and counters move. -/
  | thinned {a b : LineRecord} (mode : b.mode = a.mode) (hold : b.hold = a.hold) (budget : b.budget = a.budget)
      (jobs : b.jobs.Sublist a.jobs) (dirty : b.dirty.Sublist a.dirty) : Move c a b
  /-- R110: a sign with a job joins the queue. -/
  | joined {a : LineRecord} (i : SignId) (h : i ∈ a.dirty ∨ i ∈ a.jobs.map Job.sign) : Move c a (a.join i)
  /-- R116, R136: jobs are changed in their places, with their signs and states kept. -/
  | retouched {a : LineRecord} (f : Job → Job) (sign : ∀ j, (f j).sign = j.sign) (state : ∀ j, (f j).state = j.state) :
      Move c a { a with jobs := a.jobs.map f }
  /-- R113, R114: a job is made for a queued sign that has none. -/
  | created {a : LineRecord} (j : Job) (room : a.jobs.length < Config.jobPlaces) (queued : j.sign ∈ a.dirty)
      (first : j.sign ∉ a.jobs.map Job.sign) (ready : j.state = .ready) :
      Move c a { a.leave j.sign with jobs := a.jobs ++ [j] }
  /-- R120, R121: a job starts. -/
  | started {a : LineRecord} (j : Job) (f : Job → Job) (h : startCandidate c a = some j) (sign : ∀ x, (f x).sign = x.sign)
      (state : ∀ x, (f x).state = .sending) :
      Move c a { a.updJob j.sign f with budget := a.budget - ((j.effective c.capacity : Nat) : Int) }
  /-- R137: a SENDING job becomes REFRESHING. -/
  | refreshed {a : LineRecord} (j : Job) (i : SignId) (f : Job → Job) (h : a.jobOf i = some j) (sending : j.state = .sending)
      (sign : ∀ x, (f x).sign = x.sign) (state : ∀ x, (f x).state = .refreshing) : Move c a (a.updJob i f)
  /-- R118: the budget is refilled. -/
  | refilled {a : LineRecord} : Move c a { a with budget := refillBudget c a.budget }
  /-- R134, R145: a held, QUIET or OFF line is woken. -/
  | woken {a : LineRecord} (h : a.hold ≠ .none ∨ a.mode = .quiet ∨ a.mode = .off) : Move c a a.wake
  /-- R140: the roll call of a WAKING line is complete. -/
  | activated {a : LineRecord} (h : a.mode = .waking) : Move c a { a with mode := .active }
  /-- R133, R143, R147: a line with no job in flight is switched off, asleep or held. -/
  | stopped {a : LineRecord} (mode : LineMode) (hold : Hold) (idle : a.inFlight = 0)
      (h : hold = .none ∨ mode = .tripped ∨ (hold = a.hold ∧ a.mode = .active)) :
      Move c a { a with mode := mode, hold := hold }
  /-- R159: a hold counts down. -/
  | counted {a : LineRecord} (n : Nat) (h : a.hold ≠ .none) : Move c a { a with hold := .waiting n }

/-- A line after any number of moves. -/
def LineRecord.Evolves (c : LineSetup) : LineRecord → LineRecord → Prop := Relation.ReflTransGen (LineRecord.Move c)

/-! ### Moves of the hub -/

/-- One change of the desk: clock, timetables, notices, setup and stored copy. -/
inductive State.DeskMove : State → State → Prop
  /-- R28. -/
  | second {s : State} (isSet : s.clock.isSet = true) (h : s.clock.second < 59) :
      DeskMove s { s with clock := { s.clock with second := s.clock.second + 1 } }
  /-- R29. -/
  | minute {s : State} (isSet : s.clock.isSet = true) (h : s.clock.minute < 1439) :
      DeskMove s { s with clock := { s.clock with minute := s.clock.minute + 1, second := 0 } }
  /-- R20, R30. -/
  | day {s : State} (isSet : s.clock.isSet = true) (h : s.clock.day < 15) :
      DeskMove s { s with clock := { s.clock with day := s.clock.day + 1, minute := 0, second := 0 }
                          timetables := purged s (s.clock.day + 1) }
  /-- R31. -/
  | unset {s : State} : DeskMove s { s with clock := .unset }
  /-- R34. -/
  | jumped {s : State} (day minute second : Nat) (h : clockInRange day minute second = true) :
      DeskMove s { s with
        clock := { isSet := true, day := day, minute := minute, second := second }
        timetables := if s.clock.isSet = false ∨ s.clock.day < day then purged s day else s.timetables }
  /-- R60, R69: notices go. -/
  | unposted {s : State} (keep : Notice → Bool) : DeskMove s { s with notices := s.notices.filter keep }
  /-- R61, R65. -/
  | posted {s : State} (f : PostFields) (t : Target) (tied : Bool) (p : Port) (broadcast : Bool) (h : s.postCheck f = .ok t) :
      DeskMove s { s with notices := s.withoutNotice f.id ++ [PostFields.notice f t tied p broadcast] }
  /-- R12 to R15. -/
  | put {s : State} (r : RoomId) (e : Entry) (supersede : Bool) (enabled : (s.roomSetup r).enabled = true)
      (h : s.putCheck r e supersede = none) : DeskMove s (s.setTimetable r (putTimetable (s.timetable r) e))
  /-- R16, R19: entries go. -/
  | dropped {s : State} (r : RoomId) (keep : Entry → Bool) : DeskMove s (s.setTimetable r ((s.timetable r).filter keep))
  /-- R17, R18. -/
  | marked {s : State} (r : RoomId) (tag : Nat) (e : Entry) (new : Marks) (p : Port) (h : entryOf (s.timetable r) tag = some e)
      (free : markOverlaps (s.timetable r) e new = false) :
      DeskMove s (s.setTimetable r (markTimetable (s.timetable r) tag new p))
  /-- R3, R4. -/
  | room {s : State} (r : RoomId) (f : RoomFields) (h : s.roomCheck r f = none) :
      DeskMove s (s.setRoomSetup r (RoomFields.setup f))
  /-- R82, R146, R152, R170: settings that no law speaks of. -/
  | settings {s : State} (x : Setup) (rooms : x.rooms = s.setup.rooms) (signMap : x.signMap = s.setup.signMap)
      (lines : x.lines = s.setup.lines) : DeskMove s { s with setup := x }
  /-- R178. -/
  | stored {s : State} (x : StoredCopy) (h : x.image = s.setup ∨ x.image = s.stored.image) : DeskMove s { s with stored := x }
  /-- R182. -/
  | cleared {s : State} : DeskMove s { s with timetables := Vector.replicate 64 [], notices := [] }

/-- One change of the floor: signs and lines. -/
inductive State.FloorMove : State → State → Prop
  /-- Sign records change, with no new fault. -/
  | signs {s : State} (v : Vector SignRecord 96)
      (h : ∀ i : SignId, v[i].fault = (s.sign i).fault ∨ v[i].fault = .none) : FloorMove s { s with signs := v }
  /-- Lines move under their settings. -/
  | lines {s : State} (v : Vector LineRecord 6)
      (h : ∀ l : LineId, LineRecord.Evolves (s.lineSetup l) (s.line l) v[l]) : FloorMove s { s with lines := v }
  /-- R110: a mapped sign without a fault joins the queue of its line. -/
  | queued {s : State} (i : SignId) (m : Mapping) (mapped : s.mapping i = some m) (fault : (s.sign i).fault = .none) :
      FloorMove s (s.updLine m.line fun ln => ln.join i)
  /-- R153: a sign without a job takes a fault and leaves the queue. -/
  | faulted {s : State} (i : SignId) (g : SignRecord)
      (h : ∀ m, s.mapping i = some m → (s.line m.line).jobOf i = none) : FloorMove s ((s.setSign i g).leaveQueue i)
  /-- R123, R153: a sign's job fails with a fault, and the sign leaves the queue. -/
  | jobFailed {s : State} (l : LineId) (i : SignId) (g : SignRecord) (h : i ∈ (s.line l).jobs.map Job.sign) :
      FloorMove s (((s.updLine l fun ln => ln.dropJob i).setSign i g).leaveQueue i)

/-- One change of the hub, as far as the laws of the device speak of it. -/
inductive State.Move : State → State → Prop
  /-- No law speaks of what changes. -/
  | aside {s t : State} (h : t.core = s.core) : Move s t
  | desk {s t : State} (h : s.DeskMove t) : Move s t
  | floor {s t : State} (h : s.FloorMove t) : Move s t
  /-- R36, R40: a board is what an evaluation gives, or in the disabled form. -/
  | board {s : State} (r : RoomId) (e : EvalRecord) (h : e = .disabled ∨ ∃ rs tt n k, e = evaluation rs tt n k) :
      Move s (s.setEval r e)
  /-- R101 to R103: a sign is taken off its line and mapped anew, or not at all. -/
  | remapped {s : State} (i : SignId) (x : Option Mapping)
      (h : ∀ m, x = some m → (s.roomSetup m.room).enabled = true ∧ s.placeTaken i m.line m.position = false) :
      Move s ((s.takeOff i).setMapping i x)
  /-- R127: a line takes new settings, with the budget clamped. -/
  | relined {s : State} (l : LineId) (c : LineSetup) (interval : Option Nat) (h : (s.line l).inFlight ≤ c.limit) :
      Move s ((s.setLineSetup l c).updLine l fun ln =>
        { ln with budget := clampBudget c.capacity ln.budget, interval := interval })
  /-- R5, R105, R180: rooms, names, entries and the sign map after a load. -/
  | loaded {s : State} (h : s.loadStatus = .ok) : Move s ((s.loadRooms s.stored.image).loadSigns s.stored.image)
  /-- R181: a start, or a halt. -/
  | cold {s : State} (setup : Setup) (store : StoreState) (cause : StartCause) (baud : Baud) (address : Nat)
      (programmed : Bool) (h : setup = .blank ∨ setup = s.stored.image) :
      Move s (State.cold s.stored setup store cause baud address programmed s.pending)

/-- The hub after any number of moves. -/
def State.Goes : State → State → Prop := Relation.ReflTransGen State.Move

section Goes
variable {s t u : State}

theorem State.Goes.refl (s : State) : s.Goes s := Relation.ReflTransGen.refl

theorem State.Goes.trans (h : s.Goes t) (k : t.Goes u) : s.Goes u := Relation.ReflTransGen.trans h k

theorem State.Move.goes (h : s.Move t) : s.Goes t := Relation.ReflTransGen.single h

theorem State.DeskMove.goes (h : s.DeskMove t) : s.Goes t := (Move.desk h).goes

theorem State.FloorMove.goes (h : s.FloorMove t) : s.Goes t := (Move.floor h).goes

theorem State.goes_of_core (h : t.core = s.core) : s.Goes t := (Move.aside h).goes

/-- A move, seen from and to states that no law tells from its ends. -/
theorem State.Goes.aside (h : s.Goes t) (k : u.core = t.core) : s.Goes u := h.trans (goes_of_core k)

end Goes

theorem LineRecord.Move.evolves {c : LineSetup} {a b : LineRecord} (h : a.Move c b) : a.Evolves c b :=
  Relation.ReflTransGen.single h

theorem LineRecord.Evolves.refl (c : LineSetup) (a : LineRecord) : a.Evolves c a := Relation.ReflTransGen.refl

theorem LineRecord.Evolves.trans {c : LineSetup} {a b d : LineRecord} (h : a.Evolves c b) (k : b.Evolves c d) :
    a.Evolves c d := Relation.ReflTransGen.trans h k

end Sys2Proof.Machine
end

section
/-! PROOFS. The moves of the floor: what settling, hands, faults, wakes, trips, roll calls and evaluations come to. -/

namespace Sys2Proof.Machine

/-! ### Single updates and folds -/

/-- What every step of a fold goes through, the fold does. -/
theorem State.goes_foldl {α : Type} {f : State → α → State} (h : ∀ (s : State) (a : α), s.Goes (f s a)) (l : List α) (s : State) :
    s.Goes (l.foldl f s) :=
  foldl_keeps s.Goes f (fun t a ht => ht.trans (h t a)) l s (.refl s)

/-- A choice between two ways. -/
theorem State.goes_ite {s t u : State} {c : Prop} [Decidable c] (ht : c → s.Goes t) (hu : ¬ c → s.Goes u) :
    s.Goes (if c then t else u) := by
  split
  · next h => exact ht h
  · next h => exact hu h

theorem State.goes_setLine (s : State) (l : LineId) (x : LineRecord)
    (h : LineRecord.Evolves (s.lineSetup l) (s.line l) x) : s.Goes (s.setLine l x) := by
  refine (FloorMove.lines _ fun k => ?_).goes
  show LineRecord.Evolves _ _ ((s.setLine l x).line k)
  rw [State.line_setLine]
  split
  · next e => exact e ▸ h
  · exact .refl _ _

theorem State.goes_updLine (s : State) (l : LineId) (f : LineRecord → LineRecord)
    (h : LineRecord.Evolves (s.lineSetup l) (s.line l) (f (s.line l))) : s.Goes (s.updLine l f) :=
  s.goes_setLine l _ h

theorem State.goes_setSign (s : State) (i : SignId) (g : SignRecord)
    (h : g.fault = (s.sign i).fault ∨ g.fault = .none) : s.Goes (s.setSign i g) := by
  refine (FloorMove.signs _ fun k => ?_).goes
  show ((s.setSign i g).sign k).fault = _ ∨ ((s.setSign i g).sign k).fault = _
  rw [State.sign_setSign]
  split
  · next e => exact e ▸ h
  · exact .inl rfl

theorem State.goes_updSign (s : State) (i : SignId) (f : SignRecord → SignRecord)
    (h : (f (s.sign i)).fault = (s.sign i).fault ∨ (f (s.sign i)).fault = .none) : s.Goes (s.updSign i f) :=
  s.goes_setSign i _ h

/-- R174, R158: the ports are no law's matter. -/
theorem State.goes_updPort (s : State) (p : Port) (f : PortRecord → PortRecord) : s.Goes (s.updPort p f) :=
  goes_of_core rfl

theorem State.goes_raise (s : State) (p : Port) (src : Source) : s.Goes (s.raise p src) := s.goes_updPort p _

theorem State.goes_raiseAll (s : State) (src : Source) : s.Goes (s.raiseAll src) :=
  goes_foldl (fun t p => t.goes_raise p src) allPorts s

theorem State.goes_raiseSetup (s : State) (src : Source) : s.Goes (s.raiseSetup src) :=
  goes_foldl (fun t p => goes_ite (fun _ => t.goes_raise p src) fun _ => .refl t) allPorts s

theorem State.goes_raiseFault (s : State) (o : Origin) (i : SignId) (k : FaultKind) : s.Goes (s.raiseFault o i k) := by
  rw [State.raiseFault_eq]
  exact goes_of_core rfl

theorem State.goes_repress (s : State) : s.Goes s.repress := by
  rw [State.repress_eq]
  exact goes_of_core rfl

/-! ### Moves of one line -/

section Line
variable (c : LineSetup) (a : LineRecord)

theorem LineRecord.leave_evolves (i : SignId) : a.Evolves c (a.leave i) :=
  (Move.thinned (a := a) (b := a.leave i) rfl rfl rfl (List.Sublist.refl _) List.filter_sublist).evolves

theorem LineRecord.dropJob_evolves (i : SignId) : a.Evolves c (a.dropJob i) :=
  (Move.thinned (a := a) (b := a.dropJob i) rfl rfl rfl List.filter_sublist (List.Sublist.refl _)).evolves

/-- What touches neither mode, hold, budget, jobs nor queue. -/
theorem LineRecord.evolves_of_eq {b : LineRecord} (mode : b.mode = a.mode) (hold : b.hold = a.hold)
    (budget : b.budget = a.budget) (jobs : b.jobs = a.jobs) (dirty : b.dirty = a.dirty) : a.Evolves c b :=
  (Move.thinned mode hold budget (jobs ▸ .refl _) (dirty ▸ .refl _)).evolves

/-- A sign's jobs are changed in their places, with sign and state kept. -/
theorem LineRecord.updJob_evolves (i : SignId) (f : Job → Job) (sign : ∀ j, (f j).sign = j.sign)
    (state : ∀ j, (f j).state = j.state) : a.Evolves c (a.updJob i f) := by
  refine (Move.retouched (fun j => if j.sign == i then f j else j) (fun j => ?_) fun j => ?_).evolves
  · split
    · exact sign j
    · rfl
  · split
    · exact state j
    · rfl

theorem LineRecord.resume_evolves : a.Evolves c a.resume := by
  unfold LineRecord.resume
  split
  · exact .refl _ _
  · split
    · exact a.evolves_of_eq c rfl rfl rfl rfl rfl
    · exact .refl _ _

theorem LineRecord.free_evolves : a.Evolves c a.free :=
  .trans (a.evolves_of_eq c (b := { a with transmitter := none }) rfl rfl rfl rfl rfl) (LineRecord.resume_evolves c _)

/-- R124, R133: a sign with a job there, or queued already, is queued and its job goes. -/
theorem LineRecord.requeue_evolves (i : SignId) (h : i ∈ a.dirty ∨ i ∈ a.jobs.map Job.sign) :
    a.Evolves c ((a.dropJob i).join i) := by
  have swap : (a.dropJob i).join i = (a.join i).dropJob i := by
    by_cases h : a.dirty.contains i <;> simp only [LineRecord.join, LineRecord.dropJob, h, if_true] <;> rfl
  rw [swap]
  exact (Move.joined i h).evolves.trans (LineRecord.dropJob_evolves c _ i)

/-- R133, R143, R147: a line with no job in flight loses its power. -/
theorem LineRecord.powerOff_evolves (mode : LineMode) (hold : Hold) (idle : a.inFlight = 0)
    (h : hold = .none ∨ mode = .tripped ∨ (hold = a.hold ∧ a.mode = .active)) :
    a.Evolves c { a.powerOff mode with hold := hold } :=
  (Move.stopped mode hold idle h).evolves.trans (LineRecord.evolves_of_eq c _ rfl rfl rfl rfl rfl)

end Line

/-! ### Settling and hands -/

/-- The job that a line finds for a sign is one of its jobs. -/
theorem LineRecord.mem_of_jobOf {ln : LineRecord} {i : SignId} {j : Job} (h : ln.jobOf i = some j) :
    j ∈ ln.jobs ∧ j.sign = i :=
  ⟨List.mem_of_find?_eq_some h, by simpa using List.find?_some h⟩

theorem LineRecord.mem_signs_of_jobOf {ln : LineRecord} {i : SignId} {j : Job} (h : ln.jobOf i = some j) :
    i ∈ ln.jobs.map Job.sign :=
  List.mem_map.2 ⟨j, mem_of_jobOf h⟩

theorem LineRecord.jobOf_eq_none {ln : LineRecord} {i : SignId} : ln.jobOf i = none ↔ i ∉ ln.jobs.map Job.sign := by
  simp [LineRecord.jobOf]

/-- R98: settling. -/
theorem State.goes_settleSign (s : State) (i : SignId) : s.Goes (s.settleSign i) := by
  unfold State.settleSign
  split
  · exact .refl s
  next m hm =>
  split
  · next j hj =>
    split
    · split
      · exact s.goes_updLine _ _ (LineRecord.dropJob_evolves _ _ i)
      · exact s.goes_updLine _ _ (LineRecord.updJob_evolves _ _ i _ (fun _ => rfl) fun _ => rfl)
    · exact s.goes_updLine _ _ (LineRecord.Move.joined i (.inr (LineRecord.mem_signs_of_jobOf hj))).evolves
  · split
    · next hf =>
      split
      · exact s.goes_updLine _ _ (LineRecord.leave_evolves _ _ i)
      · exact (FloorMove.queued i m hm hf).goes
    · exact .refl s

theorem State.goes_hand (s : State) (i : SignId) (d : Option Digests) (o : Origin) (forced : Bool) :
    s.Goes (s.hand i d o forced) := by
  have settled (g : SignRecord) (h : g.fault = (s.sign i).fault) : s.Goes ((s.setSign i g).settleSign i) :=
    (s.goes_setSign i g (.inl h)).trans (State.goes_settleSign _ i)
  unfold State.hand
  dsimp only
  split
  · split
    · exact settled _ rfl
    · exact .refl s
  · exact settled _ rfl

/-! ### Jobs -/

theorem State.goes_createJob (s : State) (l : LineId) : s.Goes (s.createJob l) := by
  unfold State.createJob
  split
  · next hroom =>
    rw [Bool.and_eq_true, decide_eq_true_eq] at hroom
    split
    · exact .refl s
    next i hi =>
    split
    · exact .refl s
    next m hm =>
    have hmem : i ∈ (s.line l).dirty.filter fun k => s.takeable l k := by
      unfold State.nextSign at hi
      dsimp only at hi
      split at hi
      · next hfind => exact Option.some.inj hi ▸ List.mem_of_find?_eq_some hfind
      · exact List.mem_of_mem_head? hi
    obtain ⟨hqueued, htake⟩ := List.mem_filter.1 hmem
    have hfirst : (s.line l).jobOf i = none := by
      have h := (Bool.and_eq_true _ _ ▸ htake : _ ∧ _).1
      exact Option.isNone_iff_eq_none.1 h
    exact s.goes_updLine l _ (LineRecord.Move.created (s.newJob i m) hroom.2 hqueued
      (LineRecord.jobOf_eq_none.1 hfirst) rfl).evolves
  · exact .refl s

theorem State.goes_startJob (s : State) (l : LineId) : s.Goes (s.startJob l) := by
  unfold State.startJob
  split
  · exact .refl s
  next j hj =>
  split
  · exact .refl s
  next m hm =>
  refine s.goes_updLine l _ (LineRecord.Evolves.trans ?_ (LineRecord.resume_evolves _ _))
  exact (LineRecord.Move.started j (fun x => { x with state := .sending, content := some (s.contentOf x m), resends := 0 }) hj
    (fun _ => rfl) fun _ => rfl).evolves

/-! ### Faults -/

theorem State.setSign_setSign (s : State) (i : SignId) (g k : SignRecord) : (s.setSign i g).setSign i k = s.setSign i k := by
  simp [State.setSign]

theorem State.updSign_eq_setSign (s : State) (i : SignId) (f : SignRecord → SignRecord) :
    s.updSign i f = s.setSign i (f (s.sign i)) := rfl

/-- R153: a fault of a sign that can take one and leave the queue: `out` says so of every record the fault may leave. -/
theorem State.goes_applyFault {s u : State} {i : SignId} (k : FaultKind) (o : Origin) (here : s.Goes u)
    (out : ∀ g, s.Goes ((u.setSign i g).leaveQueue i)) : s.Goes (u.applyFault i k o) := by
  have counted : s.Goes (u.updSign i fun g => g.countFault k) := here.trans (u.goes_updSign i _ (.inl rfl))
  have latched : s.Goes ((u.updSign i fun g => g.countFault k).latchSign i) := by
    simp only [State.latchSign, State.updSign_eq_setSign, State.setSign_setSign]
    exact out _
  have waiting : s.Goes ((u.updSign i fun g => g.countFault k).waitSign i k) := by
    simp only [State.waitSign, State.updSign_eq_setSign, State.setSign_setSign]
    exact out _
  unfold State.applyFault
  dsimp only
  split
  · exact latched.trans (State.goes_raiseFault _ o i k)
  · split
    · exact latched.trans (State.goes_raiseFault _ o i k)
    · exact waiting
  · exact (counted.trans (State.goes_settleSign _ i)).trans (State.goes_raiseFault _ o i k)
  · exact counted.trans (State.goes_settleSign _ i)

theorem State.goes_applyAbsent {s u : State} {i : SignId} (o : Origin) (here : s.Goes u)
    (out : ∀ g, s.Goes ((u.setSign i g).leaveQueue i)) : s.Goes (u.applyAbsent i o) :=
  goes_ite (fun _ => here.trans (u.goes_updSign i _ (.inl rfl))) fun _ => goes_applyFault .absent o here out

/-- R123: a failed job of the line's list. -/
theorem State.goes_retireFailed (s : State) (l : LineId) (j : Job) (k : FaultKind)
    (h : j.sign ∈ (s.line l).jobs.map Job.sign) : s.Goes (s.retireFailed l j k) := by
  have dropped : s.Goes (s.updLine l fun ln => ln.dropJob j.sign) :=
    s.goes_updLine l _ (LineRecord.dropJob_evolves _ _ j.sign)
  have out : ∀ g, s.Goes (((s.updLine l fun ln => ln.dropJob j.sign).setSign j.sign g).leaveQueue j.sign) :=
    fun g => (FloorMove.jobFailed l j.sign g h).goes
  unfold State.retireFailed
  dsimp only
  split
  · refine goes_applyAbsent _ (dropped.trans (State.goes_updSign _ j.sign _ (.inl rfl))) fun g => ?_
    rw [State.updSign_eq_setSign, State.setSign_setSign]
    exact out g
  · exact goes_applyFault k j.origin dropped out

theorem State.goes_retireDone (s : State) (l : LineId) (j : Job) : s.Goes (s.retireDone l j) :=
  ((s.goes_updLine l _ (LineRecord.dropJob_evolves _ _ j.sign)).trans (State.goes_updSign _ j.sign _ (.inl rfl))).trans
    (State.goes_settleSign _ j.sign)

theorem State.goes_endRetry (s : State) (i : SignId) : s.Goes (s.endRetry i) :=
  (s.goes_updSign i _ (.inr rfl)).trans (State.goes_settleSign _ i)

theorem State.goes_settleFound (s : State) (i : SignId) : s.Goes (s.settleFound i) := by
  unfold State.settleFound
  split
  · exact goes_ite (fun _ => s.goes_settleSign i) fun _ => .refl s
  · exact s.goes_settleSign i

theorem State.goes_foundPresent (s : State) (i : SignId) (m : Mapping) (c : SignClass) : s.Goes (s.foundPresent i m c) := by
  have found : s.Goes (s.setSign i { s.sign i with link := .present, reported := some c, pendingAbsent := none }) :=
    s.goes_setSign i _ (.inl rfl)
  unfold State.foundPresent
  extract_lets g s1 s2 s3 s4
  have h2 : s.Goes s2 := goes_ite (fun _ => found.trans (State.goes_raiseSetup _ .line)) fun _ => found
  have h3 : s.Goes s3 := h2.trans (State.goes_updSign _ i _ (.inl rfl))
  have h4 : s.Goes s4 := goes_ite (fun _ => h3.trans (State.goes_updSign _ i _ (.inr rfl))) fun _ => h3
  exact goes_ite (fun _ => h2) fun _ => h4.trans (State.goes_settleFound _ i)

theorem State.goes_foundSilent (s : State) {i : SignId} {m : Mapping} (hm : s.mapping i = some m) :
    s.Goes (s.foundSilent i m) := by
  have found : s.Goes (s.setSign i { s.sign i with link := .absent }) := s.goes_setSign i _ (.inl rfl)
  unfold State.foundSilent
  dsimp only
  refine goes_ite (fun _ => .refl s) fun _ => ?_
  split
  · next hj =>
    refine goes_applyAbsent _ found fun g => ?_
    rw [State.setSign_setSign]
    refine (FloorMove.faulted i g fun n hn => ?_).goes
    rw [hm] at hn
    exact Option.some.inj hn ▸ hj
  · next j hj =>
    refine goes_ite (fun _ => ?_) fun _ => found.trans (State.goes_updSign _ i _ (.inl rfl))
    refine goes_applyAbsent _ (found.trans (State.goes_updLine _ m.line _ (LineRecord.dropJob_evolves _ _ i))) fun g => ?_
    have swap : ((s.setSign i { s.sign i with link := .absent }).updLine m.line fun ln => ln.dropJob i).setSign i g =
        (s.updLine m.line fun ln => ln.dropJob i).setSign i g := by
      simp [State.setSign, State.updLine, State.setLine, State.line]
    rw [swap]
    exact (FloorMove.jobFailed m.line i g (LineRecord.mem_signs_of_jobOf hj)).goes

/-! ### Waking, trips and roll calls -/

theorem State.goes_wakeLines (s : State) : s.Goes s.wakeLines := by
  have woken : s.Goes { s with lines := s.lines.map fun ln => if ln.mode == .quiet then ln.wake else ln } := by
    refine (FloorMove.lines _ fun l => ?_).goes
    show LineRecord.Evolves _ _ (s.wakeLines.line l)
    rw [State.wakeLines_line]
    split
    · next h => exact (LineRecord.Move.woken (.inr (.inl (beq_iff_eq.1 h)))).evolves
    · exact .refl _ _
  exact woken.aside rfl

theorem State.goes_wakeCause (s : State) : s.Goes s.wakeCause := goes_ite (fun _ => s.goes_wakeLines) fun _ => .refl s

theorem State.goes_exitCheck (s : State) : s.Goes s.exitCheck := goes_ite (fun _ => s.goes_wakeLines) fun _ => .refl s

theorem State.goes_quietSettled (s : State) : s.Goes s.quietSettled := goes_ite (fun _ => goes_of_core rfl) fun _ => .refl s

theorem State.goes_entryCheck (s : State) : s.Goes s.entryCheck :=
  goes_ite (fun _ => .trans (t := { s with quiet := .settling }) (goes_of_core rfl) (State.goes_quietSettled _))
    fun _ => .refl s

theorem State.goes_moveQuiet (s : State) (b : Bool) : s.Goes (s.moveQuiet b) := by
  unfold State.moveQuiet
  split
  · exact goes_of_core rfl
  · exact goes_of_core rfl
  · exact s.goes_wakeLines.aside rfl
  · exact s.goes_wakeLines.aside rfl
  · exact s.goes_exitCheck

/-- R124: the signs of the jobs in flight are queued and their jobs go, one after the other. -/
theorem State.goes_retireTrips (l : LineId) (is : List SignId) : ∀ s : State,
    (∀ i ∈ is, i ∈ (s.line l).dirty ∨ i ∈ (s.line l).jobs.map Job.sign) →
    s.Goes (is.foldl (fun s i => s.retireTrip l i) s) := by
  induction is with
  | nil => exact fun s _ => .refl s
  | cons i is ih =>
    intro s h
    have first : s.Goes (s.retireTrip l i) :=
      (s.goes_updLine l _ (LineRecord.requeue_evolves _ _ i (h i List.mem_cons_self))).trans
        (State.goes_updSign _ i _ (.inl rfl))
    have line : (s.retireTrip l i).line l = ((s.line l).dropJob i).join i := by simp [State.retireTrip]
    have jobs : (((s.line l).dropJob i).join i).jobs = (s.line l).jobs.filter fun j => j.sign != i := by
      unfold LineRecord.join; split <;> rfl
    refine first.trans (ih _ fun k hk => ?_)
    rw [line, LineRecord.mem_join, jobs]
    by_cases hki : k = i
    · exact .inl (.inr hki)
    · refine (h k (List.mem_cons_of_mem _ hk)).imp .inl fun hj => ?_
      obtain ⟨j, hmem, rfl⟩ := List.mem_map.1 hj
      exact List.mem_map.2 ⟨j, List.mem_filter.2 ⟨hmem, by simpa using hki⟩, rfl⟩

theorem State.goes_tripLine (s : State) (l : LineId) : s.Goes (s.tripLine l) := by
  unfold State.tripLine
  extract_lets flying s1
  have retired : s.Goes s1 :=
    State.goes_retireTrips l flying s fun i hi => .inr ((List.filter_sublist.map _).subset hi)
  have idle : (s1.line l).inFlight = 0 := by
    obtain ⟨-, -, -, -, jobs, -, -⟩ := retireTrip_list l flying s
    rw [LineRecord.inFlight, jobs, List.countP_eq_zero]
    intro j hj hflies
    obtain ⟨hmem, hnot⟩ := List.mem_filter.1 hj
    have : j.sign ∈ flying := List.mem_map.2 ⟨j, List.mem_filter.2 ⟨hmem, hflies⟩, rfl⟩
    simp [this] at hnot
  exact retired.trans (State.goes_updLine s1 l (fun ln => { ln.powerOff .tripped with hold := s.setup.fault.tripHold })
    (LineRecord.powerOff_evolves _ _ .tripped _ idle (.inr (.inl rfl))))

theorem State.goes_restoreLine (s : State) (l : LineId) : s.Goes (s.restoreLine l) :=
  goes_ite (fun _ => .refl s) fun h => s.goes_updLine l _ (LineRecord.Move.woken (.inl h)).evolves

theorem State.goes_completeRoll (s : State) (l : LineId) (found : List Position) : s.Goes (s.completeRoll l found) := by
  unfold State.completeRoll
  extract_lets s1
  have h1 : s.Goes s1 := goes_ite (fun _ => .refl s) fun _ => s.goes_raiseSetup .line
  refine h1.trans (State.goes_updLine _ l _ ?_)
  by_cases h : (s1.line l).mode = .waking
  · have done := (LineRecord.Move.activated (c := s1.lineSetup l) h).evolves
    refine done.trans (LineRecord.evolves_of_eq _ _ ?_ rfl rfl rfl rfl)
    simp [h]
  · exact LineRecord.evolves_of_eq _ _ (by simp [h]) rfl rfl rfl rfl

theorem State.goes_nextRoll (s : State) (l : LineId) (pos : Position) (found : List Position) :
    s.Goes (s.nextRoll l pos found) := by
  unfold State.nextRoll
  split
  · exact s.goes_updLine l _ (LineRecord.evolves_of_eq _ _ rfl rfl rfl rfl rfl)
  · exact s.goes_completeRoll l found

theorem State.goes_sleepLine (s : State) (l : LineId) : s.Goes (s.sleepLine l) := by
  refine goes_ite (fun h => ?_) fun _ => .refl s
  obtain ⟨-, hsleep⟩ := (Bool.and_eq_true _ _ ▸ h : _ ∧ _)
  simp only [LineRecord.maySleep, Bool.and_eq_true, beq_iff_eq, List.isEmpty_iff] at hsleep
  obtain ⟨⟨⟨hmode, hjobs⟩, -⟩, -⟩ := hsleep
  refine .trans (s.goes_updLine l _ ?_) (State.goes_quietSettled _)
  exact LineRecord.powerOff_evolves _ _ .quiet (s.line l).hold (by simp [LineRecord.inFlight, hjobs])
    (.inr (.inr ⟨rfl, hmode⟩))

theorem State.goes_trip (s : State) (l : LineId) : s.Goes (s.trip l) := by
  have tripped : s.Goes ((s.tripLine l).updLine l fun ln => { ln with trips := min 255 (ln.trips + 1) }) :=
    (s.goes_tripLine l).trans (State.goes_updLine _ l _ (LineRecord.evolves_of_eq _ _ rfl rfl rfl rfl rfl))
  have told := tripped.trans (State.goes_raiseSetup _ .line)
  exact (told.trans (goes_ite (fun _ => State.goes_tripLine _ _) fun _ => .refl _)).trans (State.goes_quietSettled _)

/-! ### Evaluations -/

theorem State.goes_handRoom (s : State) (r : RoomId) (old new : EvalRecord) (o : Origin) (forced : Bool) :
    s.Goes (s.handRoom r old new o forced) := by
  refine goes_foldl (fun t i => ?_) allSigns s
  split
  · exact .refl t
  · exact goes_ite (fun _ => t.goes_hand i _ o forced) fun _ => .refl t

theorem State.goes_evaluateRoom (s : State) (r : RoomId) (o : Origin) (forced : Bool) :
    s.Goes (s.evaluateRoom r o forced) := by
  refine goes_ite (fun _ => ?_) fun _ => goes_ite (fun _ => (Move.board r _ (.inl rfl)).goes) fun _ => .refl s
  have handed := (Move.board (s := s) r (evaluation (s.roomSetup r) (s.timetable r) (shownNotice s.notices r) s.clock)
    (.inr ⟨_, _, _, _, rfl⟩)).goes.trans (State.goes_handRoom _ r (s.eval r)
    (evaluation (s.roomSetup r) (s.timetable r) (shownNotice s.notices r) s.clock) o forced)
  exact goes_ite (fun _ => handed.trans (State.goes_wakeCause _)) fun _ => handed

theorem State.goes_evaluateRooms (s : State) (p : RoomId → Bool) (o : Origin) : s.Goes (s.evaluateRooms p o) :=
  goes_foldl (fun t r => goes_ite (fun _ => t.goes_evaluateRoom r o false) fun _ => .refl t) allRooms s

theorem State.goes_forcedEvaluation (s : State) : s.Goes s.forcedEvaluation :=
  goes_foldl (fun t r => t.goes_evaluateRoom r .setup true) allRooms s

end Sys2Proof.Machine
end

section
/-! PROOFS. The moves of every request and event, and of every command. -/

namespace Sys2Proof.Machine

/-! ### Frames, polls and roll calls -/

section Line
variable (s : State) (l : LineId)

theorem State.goes_acked (i : SignId) (k : Nat) : s.Goes (s.acked l i k) := by
  unfold State.acked
  split
  · exact .refl s
  next j hj =>
  split
  · exact .refl s
  next hsending =>
  split
  · exact s.goes_updLine l _ ((LineRecord.updJob_evolves _ _ i (fun j => { j with resends := 0 }) (fun _ => rfl)
      fun _ => rfl).trans (LineRecord.evolves_of_eq _ _ rfl rfl rfl rfl rfl))
  · have hstate : j.state = .sending := by simpa [Job.isSending] using hsending
    exact s.goes_updLine l _ ((LineRecord.Move.refreshed j i
      (fun j => { j with state := .refreshing, refresh := some (s.lineSetup l).refreshLimit, resends := 0 }) hj hstate
      (fun _ => rfl) fun _ => rfl).evolves.trans (LineRecord.evolves_of_eq _ _ rfl rfl rfl rfl rfl))

theorem State.goes_takeAck (pos : Position) : s.Goes (s.takeAck l pos) := by
  unfold State.takeAck
  split
  · exact goes_ite (fun _ => s.goes_acked l _ _) fun _ => .refl s
  · exact .refl s

theorem State.goes_resume : s.Goes (s.updLine l LineRecord.resume) := s.goes_updLine l _ (LineRecord.resume_evolves _ _)

theorem State.goes_free : s.Goes (s.updLine l LineRecord.free) := s.goes_updLine l _ (LineRecord.free_evolves _ _)

theorem State.goes_missed (i : SignId) : s.Goes (s.missed l i) := by
  unfold State.missed
  split
  · exact .refl s
  next j hj =>
  split
  · exact s.goes_updLine l _ (LineRecord.updJob_evolves _ _ i _ (fun _ => rfl) fun _ => rfl)
  · have freed : s.Goes (s.updLine l fun ln => { ln with transmitter := none }) :=
      s.goes_updLine l _ (LineRecord.evolves_of_eq _ _ rfl rfl rfl rfl rfl)
    obtain ⟨hmem, -⟩ := LineRecord.mem_of_jobOf hj
    refine (freed.trans (State.goes_retireFailed _ l j .noAnswer ?_)).trans (State.goes_resume _ l)
    rw [State.line_updLine_self]
    exact List.mem_map_of_mem hmem

theorem State.goes_ackMissed : s.Goes (s.ackMissed l) := by
  unfold State.ackMissed
  split
  · exact s.goes_missed l _
  · exact .refl s

theorem LineRecord.pollDue_evolves (c : LineSetup) (a : LineRecord) : a.Evolves c a.pollDue := by
  unfold LineRecord.pollDue
  split
  · exact a.evolves_of_eq c rfl rfl rfl rfl rfl
  · exact .refl _ _

theorem pollNext_evolves (c : LineSetup) (a : LineRecord) : a.Evolves c (pollNext c a) := by
  unfold pollNext
  split
  · split
    · exact .refl _ _
    · exact a.evolves_of_eq c rfl rfl rfl rfl rfl
  · exact .refl _ _

theorem State.goes_takeBusy (pos : Position) : s.Goes (s.takeBusy l pos) := by
  unfold State.takeBusy
  split
  · next i _ =>
    exact goes_ite (fun _ => s.goes_updLine l _ ((LineRecord.updJob_evolves _ _ i (fun j => { j with resends := 0 })
      (fun _ => rfl) fun _ => rfl).trans (LineRecord.free_evolves _ _))) fun _ => .refl s
  · exact .refl s

/-- R136: a free transmitter leaves the jobs as they are. -/
theorem LineRecord.free_jobs (a : LineRecord) : a.free.jobs = a.jobs := by
  unfold LineRecord.free LineRecord.resume
  split
  · rfl
  · split <;> rfl

theorem State.goes_judge (i : SignId) (digest : Digest) : s.Goes (s.judge l i digest) := by
  unfold State.judge
  split
  · exact .refl s
  next j hj =>
  obtain ⟨hmem, -⟩ := LineRecord.mem_of_jobOf hj
  refine goes_ite (fun _ => (s.goes_free l).trans (State.goes_retireDone _ l j)) fun _ =>
    (s.goes_free l).trans (State.goes_retireFailed _ l j .mismatch ?_)
  rw [State.line_updLine_self, LineRecord.free_jobs]
  exact List.mem_map_of_mem hmem

theorem State.goes_takeDone (pos : Position) (digest : Digest) : s.Goes (s.takeDone l pos digest) := by
  unfold State.takeDone
  split
  · exact goes_ite (fun _ => s.goes_judge l _ _) fun _ => .refl s
  · exact .refl s

theorem State.goes_pollMissed : s.Goes (s.pollMissed l) := by
  unfold State.pollMissed
  split
  · exact s.goes_missed l _
  · exact s.goes_free l
  · exact .refl s

/-- R139: a stale poll changes the transmitter alone. -/
theorem LineRecord.stalePoll_eq (a : LineRecord) (i : SignId) :
    a.stalePoll i = { a with transmitter := (a.stalePoll i).transmitter } := by
  unfold LineRecord.stalePoll
  split
  · split <;> rfl
  · rfl

theorem State.goes_slow (i : SignId) : s.Goes (s.slow l i) := by
  unfold State.slow
  split
  · exact .refl s
  next j hj =>
  obtain ⟨hmem, -⟩ := LineRecord.mem_of_jobOf hj
  have stale : s.Goes (s.updLine l fun ln => ln.stalePoll i) := by
    refine s.goes_updLine l _ ?_
    rw [LineRecord.stalePoll_eq]
    exact LineRecord.evolves_of_eq _ _ rfl rfl rfl rfl rfl
  refine goes_ite (fun _ => stale.trans (State.goes_retireFailed _ l j .slow ?_)) fun _ => .refl s
  rw [State.line_updLine_self, LineRecord.stalePoll_eq]
  exact List.mem_map_of_mem hmem

theorem LineRecord.settled_evolves (c : LineSetup) (a : LineRecord) : a.Evolves c a.settled := by
  unfold LineRecord.settled
  split
  · exact a.evolves_of_eq c rfl rfl rfl rfl rfl
  · exact .refl _ _

theorem LineRecord.intervalDue_evolves (c : LineSetup) (a : LineRecord) : a.Evolves c a.intervalDue := by
  unfold LineRecord.intervalDue
  split
  · split
    · exact a.evolves_of_eq c rfl rfl rfl rfl rfl
    · exact a.evolves_of_eq c rfl rfl rfl rfl rfl
  · exact .refl _ _

theorem LineRecord.rollStart_evolves (c : LineSetup) (a : LineRecord) : a.Evolves c a.rollStart := by
  unfold LineRecord.rollStart
  split
  · exact .refl _ _
  · split
    · exact a.evolves_of_eq c rfl rfl rfl rfl rfl
    · exact .refl _ _

theorem State.goes_rollAnswered (pos : Position) (cls : SignClass) (found : List Position) :
    s.Goes (s.rollAnswered l pos cls found) := by
  unfold State.rollAnswered
  split
  · exact s.goes_nextRoll l pos _
  · split
    · exact .refl s
    · exact (s.goes_foundPresent _ _ cls).trans (State.goes_nextRoll _ l pos found)

theorem State.goes_rollSilent (pos : Position) (found : List Position) : s.Goes (s.rollSilent l pos found) := by
  unfold State.rollSilent
  split
  · exact s.goes_nextRoll l pos _
  · split
    · exact .refl s
    · next hm => exact (s.goes_foundSilent hm).trans (State.goes_nextRoll _ l pos found)

theorem State.goes_takeClass (pos : Position) (cls : SignClass) : s.Goes (s.takeClass l pos cls) := by
  unfold State.takeClass
  split
  · exact goes_ite (fun _ => s.goes_rollAnswered l pos cls _) fun _ => .refl s
  · exact .refl s

theorem State.goes_rollMissed : s.Goes (s.rollMissed l) := by
  unfold State.rollMissed
  split
  · exact goes_ite (fun _ => s.goes_rollSilent l _ _) fun _ =>
      s.goes_updLine l _ (LineRecord.evolves_of_eq _ _ rfl rfl rfl rfl rfl)
  · exact .refl s

end Line

/-! ### The clock -/

section Clock
variable (s : State)

theorem State.goes_refill : s.Goes s.refill :=
  goes_foldl (fun t l => t.goes_updLine l _ LineRecord.Move.refilled.evolves) allLines s

theorem State.goes_tickSign (i : SignId) : s.Goes (s.tickSign i) := by
  unfold State.tickSign
  split
  · exact goes_ite (fun _ => s.goes_endRetry i) fun _ => s.goes_updSign i _ (.inl rfl)
  · exact .refl s

theorem State.goes_tickLine (l : LineId) : s.Goes (s.tickLine l) := by
  unfold State.tickLine
  split
  · next h => exact goes_ite (fun _ => s.goes_restoreLine l) fun _ =>
      s.goes_updLine l _ (LineRecord.Move.counted _ (by simp [h])).evolves
  · exact .refl s

theorem State.goes_tickWaits : s.Goes s.tickWaits :=
  (goes_foldl (fun t i => t.goes_tickSign i) allSigns s).trans (goes_foldl (fun t l => t.goes_tickLine l) allLines _)

theorem State.goes_expireNotices (m : Nat) : s.Goes (s.expireNotices m) :=
  (DeskMove.unposted fun n => !n.expiry.any fun e => decide (e ≤ m)).goes.trans (State.goes_repress _)

theorem State.goes_minuteWork : s.Goes s.minuteWork :=
  ((s.goes_expireNotices _).trans (State.goes_evaluateRooms _ _ _)).trans (State.goes_entryCheck _)

theorem State.goes_endOfDays : s.Goes s.endOfDays :=
  ((DeskMove.unset.goes.trans (State.goes_raiseAll _ _)).trans (State.goes_evaluateRooms _ _ _)).trans
    (State.goes_wakeCause _)

theorem State.goes_advanceClock : s.Goes s.advanceClock := by
  unfold State.advanceClock
  dsimp only
  split
  · exact .refl s
  next hset =>
  have isSet : s.clock.isSet = true := by simpa using hset
  refine goes_ite (fun h => (DeskMove.second isSet h).goes) fun _ =>
    goes_ite (fun h => (DeskMove.minute isSet h).goes.trans (State.goes_minuteWork _)) fun _ =>
    goes_ite (fun h => ?_) fun _ => s.goes_endOfDays
  exact ((DeskMove.day isSet h).goes.trans (State.goes_repress _)).trans (State.goes_minuteWork _)

theorem State.goes_boundary : s.Goes s.boundary :=
  (s.goes_advanceClock.trans (State.goes_refill _)).trans (State.goes_tickWaits _)

theorem State.goes_jump (day minute second : Nat) (h : clockInRange day minute second = true) :
    s.Goes (s.jump day minute second).1 := by
  have caught : s.Goes { (if !s.clock.isSet || decide (s.clock.day < day) then s.purge day else s) with
      clock := { isSet := true, day := day, minute := minute, second := second } } := by
    refine (DeskMove.jumped (s := s) day minute second h).goes.aside ?_
    by_cases hp : s.clock.isSet = false ∨ s.clock.day < day
    · have hb : (!s.clock.isSet || decide (s.clock.day < day)) = true := by simpa using hp
      simp only [if_pos hb, if_pos hp, State.purge]
      rw [State.repress_eq]
      rfl
    · have hb : (!s.clock.isSet || decide (s.clock.day < day)) = false := by simpa using hp
      simp only [hb, if_neg hp]
      rfl
  exact ((caught.trans (State.goes_expireNotices _ _)).trans (State.goes_evaluateRooms _ _ _)).trans
    (goes_foldl (fun t p => t.goes_updPort p _) allPorts _)

theorem goes_serveClock (day minute second : Nat) : s.Goes (serveClock day minute second s).st := by
  unfold serveClock
  split
  · next h => exact s.goes_jump day minute second h
  · exact .refl s

theorem goes_castClock {p : Port} {day minute second : Nat} {t : State} (h : castClock p day minute second s = some t) :
    s.Goes t := by
  unfold castClock at h
  split at h
  · next hc => exact Option.some.inj h ▸ s.goes_jump day minute second ((Bool.and_eq_true _ _ ▸ hc : _ ∧ _).2)
  · cases h

end Clock

/-! ### The timetable and the batch -/

section Timetable
variable (s : State)

/-- An enabled room is an enabled room. -/
theorem State.enabledRoom?_enabled {s : State} {room : Nat} {r : RoomId} (h : s.enabledRoom? room = some r) :
    (s.roomSetup r).enabled = true := by
  unfold State.enabledRoom? at h
  split at h
  · cases h
  · split at h
    · next he => exact Option.some.inj h ▸ he
    · cases h

theorem goes_servePut (p : Port) (room : Nat) (f : PutFields) : s.Goes (servePut p room f s).st := by
  unfold servePut
  split
  · exact .refl s
  next r hr =>
  dsimp only
  split
  · exact .refl s
  · split
    · exact .refl s
    · split
      · exact .refl s
      · split
        · exact .refl s
        · next hput =>
          exact ((State.DeskMove.put r _ _ (State.enabledRoom?_enabled hr) hput).goes.trans (State.goes_repress _)).trans
            (State.goes_evaluateRoom _ r _ _)

theorem goes_serveDrop (p : Port) (room tag : Nat) : s.Goes (serveDrop p room tag s).st := by
  unfold serveDrop
  split
  · exact .refl s
  next r hr =>
  split
  · exact .refl s
  · split
    · exact .refl s
    · have dropped : s.Goes (s.setTimetable r (dropTimetable (s.timetable r) tag)) :=
        (State.DeskMove.dropped r _).goes
      exact (dropped.trans (State.goes_repress _)).trans (State.goes_evaluateRoom _ r _ _)

theorem goes_serveMark (p : Port) (room tag : Nat) (a b : Marks) : s.Goes (serveMark p room tag a b s).st := by
  unfold serveMark
  split
  · exact .refl s
  next r hr =>
  split
  · exact .refl s
  · split
    · exact .refl s
    next e he =>
    dsimp only
    split
    · exact .refl s
    next hfree =>
    split
    · exact .refl s
    · exact (State.DeskMove.marked r tag e _ p he (by simpa using hfree)).goes.trans (State.goes_evaluateRoom _ r _ _)

theorem goes_serveClearDay (p : Port) (room day : Nat) : s.Goes (serveClearDay p room day s).st := by
  unfold serveClearDay
  split
  · exact .refl s
  next r hr =>
  split
  · exact .refl s
  · split
    · exact .refl s
    dsimp only
    split
    · exact .refl s
    · have dropped : s.Goes (s.setTimetable r (clearTimetable (s.timetable r) day)) :=
        (State.DeskMove.dropped r _).goes
      exact (dropped.trans (State.goes_repress _)).trans (State.goes_evaluateRoom _ r _ _)

theorem Trial.goes_record {t u : Trial} {p : Port} {x : Staged} (h : t.record p x = .ok u) : t.st.Goes u.st := by
  cases x with
  | put r f =>
    simp only [Trial.record, Trial.put] at h
    split at h
    · cases h
    next he =>
    split at h
    · cases h
    · next hput => cases h; exact (State.DeskMove.put r _ _ (by simpa using he) hput).goes
  | drop r tag =>
    simp only [Trial.record, Trial.drop] at h
    split at h
    · cases h
    split at h
    · cases h
    · cases h; exact (State.DeskMove.dropped r fun e => e.tag != tag).goes
  | mark r tag a b =>
    simp only [Trial.record, Trial.mark] at h
    split at h
    · cases h
    split at h
    · cases h
    next e he =>
    split at h
    · cases h
    · next hfree => cases h; exact (State.DeskMove.marked r tag e _ p he (by simpa using hfree)).goes
  | clearDay r day =>
    simp only [Trial.record, Trial.clearDay] at h
    split at h
    · cases h
    · cases h; exact (State.DeskMove.dropped r fun e => e.day != day).goes

theorem Trial.goes_run (p : Port) (l : List Staged) : ∀ (t u : Trial) (i : Nat), Trial.run p t i l = .ok u →
    t.st.Goes u.st := by
  induction l with
  | nil =>
    intro t u i h
    cases h
    exact .refl _
  | cons x l ih =>
    intro t u i h
    rw [Trial.run] at h
    split at h
    · cases h
    · next t1 hx => exact (goes_record hx).trans (ih t1 u _ h)

theorem State.goes_release : s.Goes s.release := by
  rw [State.release_eq]
  exact State.goes_of_core rfl

theorem State.goes_withdraw : s.Goes s.withdraw := by
  unfold State.withdraw
  split
  · exact .refl s
  · next p _ =>
    have counted : s.Goes { s with arb := { s.arb with withdrawals := min 255 (s.arb.withdrawals + 1) } } := State.goes_of_core rfl
    exact (counted.trans (State.goes_raise _ p .withdraw)).trans (State.goes_release _)

theorem goes_serveCommit (p : Port) : s.Goes (serveCommit p s).st := by
  unfold serveCommit
  split
  · exact .refl s
  · split
    · exact State.goes_of_core rfl
    · next t ht => exact (((Trial.goes_run p _ _ t 0 ht).trans (State.goes_repress _)).trans
        (State.goes_evaluateRooms _ _ _)).trans (State.goes_release _)

theorem goes_stage (p : Port) (room : Nat) (range : Option Status) (make : RoomId → Staged) :
    s.Goes (stage p room range make s).st := by
  unfold stage
  split
  · exact .refl s
  split
  · exact .refl s
  split
  · exact .refl s
  split
  · exact .refl s
  dsimp only
  split
  · exact .refl s
  · exact State.goes_of_core rfl

theorem goes_serveOpen (p : Port) (rooms : List Nat) : s.Goes (serveOpen p rooms s).st := by
  unfold serveOpen
  repeat' split
  all_goals exact State.goes_of_core rfl

theorem goes_serveAbandon (p : Port) : s.Goes (serveAbandon p s).st := by
  unfold serveAbandon
  split
  · exact .refl s
  · exact s.goes_release

end Timetable

/-! ### Notices -/

section Notices
variable (s : State)

theorem State.goes_removeNotices (gone : Notice → Bool) (o : Origin) : s.Goes (s.removeNotices gone o) :=
  ((DeskMove.unposted fun n => !gone n).goes.trans (State.goes_repress _)).trans (State.goes_evaluateRooms _ _ _)

theorem State.goes_lapseNotices (p : Port) : s.Goes (s.lapseNotices p) :=
  goes_ite (fun _ => s.goes_removeNotices _ _) fun _ => .refl s

/-- R65: a checked post. -/
theorem State.goes_storeNotice {f : PostFields} {t : Target} (tied : Bool) (p : Port) (broadcast : Bool) (o : Origin)
    (h : s.postCheck f = .ok t) : s.Goes (s.storeNotice (PostFields.notice f t tied p broadcast) o) :=
  (((DeskMove.posted f t tied p broadcast h).goes.trans (State.goes_repress _)).trans (State.goes_evaluateRooms _ _ _)).trans
    (State.goes_wakeCause _)

theorem goes_servePost (p : Port) (f : PostFields) : s.Goes (servePost p f s).st := by
  unfold servePost
  split
  · exact .refl s
  · next h => exact s.goes_storeNotice _ _ _ _ h

theorem goes_castPost {p : Port} {f : PostFields} {t : State} (h : castPost p f s = some t) : s.Goes t := by
  unfold castPost at h
  split at h
  · cases h
  split at h
  · cases h
  split at h
  · cases h
  · next hc => exact Option.some.inj h ▸ s.goes_storeNotice _ _ _ _ hc

theorem goes_serveWithdraw (p : Port) (id : Nat) : s.Goes (serveWithdraw p id s).st := by
  unfold serveWithdraw
  split
  · exact .refl s
  · exact s.goes_removeNotices _ _

theorem goes_castWithdraw {p : Port} {id : Nat} {t : State} (h : castWithdraw p id s = some t) : s.Goes t := by
  unfold castWithdraw at h
  split at h
  · cases h
  split at h
  · exact Option.some.inj h ▸ .refl s
  · exact Option.some.inj h ▸ s.goes_removeNotices _ _

end Notices

/-! ### Rooms, signs and tests -/

section Signs
variable (s : State)

theorem State.goes_storeRoom (r : RoomId) (f : RoomFields) (h : s.roomCheck r f = none) : s.Goes (s.storeRoom r f) := by
  have stored := (DeskMove.room r f h).goes.trans (State.goes_repress _)
  exact goes_ite (fun _ => stored.trans (State.goes_evaluateRoom _ r _ _)) fun _ =>
    stored.trans (Move.board r _ (.inl rfl)).goes

theorem goes_serveRoom (room : Nat) (f : RoomFields) : s.Goes (serveRoom room f s).st := by
  unfold serveRoom
  split
  · exact .refl s
  · split
    · exact .refl s
    · next h => exact s.goes_storeRoom _ f h

/-- R101: the sign and the mapping that pass the checks of a map. -/
theorem State.mapCheck_ok {s : State} {sign : Nat} {f : PlaceFields} {i : SignId} {m : Mapping}
    (h : s.mapCheck sign f = .ok (i, m)) :
    (s.roomSetup m.room).enabled = true ∧ s.placeTaken i m.line m.position = false := by
  unfold State.mapCheck at h
  split at h
  · split at h
    · cases h
    next r hr =>
    split at h
    · cases h
    next hp =>
    split at h
    · cases h
    · cases h
      exact ⟨State.enabledRoom?_enabled hr, by simpa using hp⟩
  · cases h

/-- A second record of a line takes the place of the first. -/
theorem State.setLine_setLine (s : State) (l : LineId) (a b : LineRecord) : (s.setLine l a).setLine l b = s.setLine l b := by
  simp [State.setLine]

theorem State.goes_mapSign (i : SignId) (m : Mapping) (enabled : (s.roomSetup m.room).enabled = true)
    (free : s.placeTaken i m.line m.position = false) : s.Goes (s.mapSign i m) := by
  unfold State.mapSign
  generalize hrec : (fun g : SignRecord => g.mapped ((s.eval m.room).digests m.role)) = f
  have fault : ∀ g, (f g).fault = .none := fun g => hrec ▸ rfl
  have moved : s.Goes (((s.takeOff i).setMapping i (some m)).updSign i f) :=
    (Move.remapped i (some m) fun n hn => Option.some.inj hn ▸ ⟨enabled, free⟩).goes.trans
      (State.goes_updSign _ i f (.inr (fault _)))
  generalize ht : ((s.takeOff i).setMapping i (some m)).updSign i f = t at moved
  have unlisted : t.Goes (t.updLine m.line fun ln => ln.unlist fun p => p == m.position) :=
    t.goes_updLine m.line _ (LineRecord.evolves_of_eq _ _ rfl rfl rfl rfl rfl)
  have both : t.updLine m.line (fun ln => (ln.unlist fun p => p == m.position).join i) =
      (t.updLine m.line fun ln => ln.unlist fun p => p == m.position).updLine m.line fun ln => ln.join i := by
    simp [State.updLine, State.setLine_setLine]
  rw [both]
  refine (moved.trans unlisted).trans (FloorMove.queued i m ?_ ?_).goes
  · simp [← ht]
  · simp [← ht, fault]

theorem goes_serveMap (sign : Nat) (f : PlaceFields) : s.Goes (serveMap sign f s).st := by
  unfold serveMap
  split
  · exact .refl s
  · next x hx =>
    obtain ⟨enabled, free⟩ := State.mapCheck_ok (i := x.1) (m := x.2) hx
    exact s.goes_mapSign x.1 x.2 enabled free

theorem State.goes_unmapSign (i : SignId) : s.Goes (s.unmapSign i) := by
  unfold State.unmapSign
  split
  · exact .refl s
  · exact (Move.remapped i none nofun).goes.trans (State.goes_updSign _ i _ (.inr rfl))

theorem goes_serveUnmap (sign : Nat) : s.Goes (serveUnmap sign s).st := by
  unfold serveUnmap
  split
  · exact .refl s
  · split
    · exact .refl s
    · exact s.goes_unmapSign _

theorem State.goes_testSign (i : SignId) (card : Option TestCard) (wanted : Option Digests) :
    s.Goes (s.testSign i card wanted) :=
  (s.goes_updSign i _ (.inl rfl)).trans (State.goes_settleSign _ i)

theorem TestRun.goes_card (t : TestRun) (c : TestCard) (i : SignId) : t.st.Goes (t.card c i).st := by
  unfold TestRun.card
  split
  · exact .refl _
  · split
    · exact .refl _
    · split
      · exact .refl _
      · exact t.st.goes_testSign i _ _

theorem TestRun.goes_off (t : TestRun) (i : SignId) : t.st.Goes (t.off i).st := by
  unfold TestRun.off
  split
  · exact .refl _
  · split
    · exact .refl _
    · exact t.st.goes_testSign i _ _

/-- R107: what each sign's treatment goes through, the whole run does. -/
theorem TestRun.goes_foldl {f : TestRun → SignId → TestRun} (h : ∀ (t : TestRun) (i : SignId), t.st.Goes (f t i).st)
    (l : List SignId) (t : TestRun) : t.st.Goes (l.foldl f t).st := by
  induction l generalizing t with
  | nil => exact .refl _
  | cons i l ih => exact (h t i).trans (ih (f t i))

theorem goes_serveTest (signs : List Nat) (pattern : Nat) : s.Goes (serveTest signs pattern s).st := by
  unfold serveTest
  split
  · exact TestRun.goes_foldl (fun t i => t.goes_card _ i) _ (TestRun.start s)
  · exact .refl s

theorem goes_serveTestOff (signs : List Nat) : s.Goes (serveTestOff signs s).st := by
  unfold serveTestOff
  split
  · exact TestRun.goes_foldl (fun t i => t.goes_off i) _ (TestRun.start s)
  · exact .refl s

end Signs

/-! ### Line settings and the events of a line -/

section LineSettings
variable (s : State) (l : LineId)

/-- R133: the READY jobs of a line with none in flight are all of its jobs. -/
theorem LineRecord.disable_evolves (c : LineSetup) (a : LineRecord) (idle : a.inFlight = 0) :
    a.Evolves c a.disable := by
  have ready : ∀ j ∈ a.jobs, j.isReady = true := by
    intro j hj
    have := List.countP_eq_zero.1 idle j hj
    simpa [Job.inFlight, Job.isReady] using this
  have removed : ∀ (is : List SignId) (b : LineRecord), b.inFlight = 0 →
      (∀ i ∈ is, i ∈ b.dirty ∨ i ∈ b.jobs.map Job.sign) →
      b.Evolves c (is.foldl (fun ln i => (ln.dropJob i).join i) b) ∧
        (is.foldl (fun ln i => (ln.dropJob i).join i) b).inFlight = 0 := by
    intro is
    induction is with
    | nil => exact fun b hb _ => ⟨.refl _ _, hb⟩
    | cons i is ih =>
      intro b hb h
      have jobs : ((b.dropJob i).join i).jobs = b.jobs.filter fun j => j.sign != i := by
        unfold LineRecord.join; split <;> rfl
      have idle1 : ((b.dropJob i).join i).inFlight = 0 := by
        rw [LineRecord.inFlight, jobs]
        exact Nat.le_zero.1 (hb ▸ List.filter_sublist.countP_le)
      obtain ⟨evolves, idle2⟩ := ih _ idle1 fun k hk => by
        rw [LineRecord.mem_join, jobs]
        by_cases hki : k = i
        · exact .inl (.inr hki)
        · refine (h k (List.mem_cons_of_mem _ hk)).imp .inl fun hj => ?_
          obtain ⟨j, hmem, rfl⟩ := List.mem_map.1 hj
          exact List.mem_map.2 ⟨j, List.mem_filter.2 ⟨hmem, by simpa using hki⟩, rfl⟩
      exact ⟨(LineRecord.requeue_evolves c b i (h i List.mem_cons_self)).trans evolves, idle2⟩
  obtain ⟨evolves, idle1⟩ := removed ((a.jobs.filter Job.isReady).map Job.sign) a idle fun i hi =>
    .inr ((List.filter_sublist.map _).subset hi)
  exact evolves.trans (LineRecord.powerOff_evolves c _ .off .none idle1 (.inl rfl))

/-- R127, R133: an enabled line wakes if it is OFF, and a disabled one goes OFF. -/
def LineRecord.switched (a : LineRecord) (enabled : Bool) : LineRecord :=
  if enabled then (if a.mode == .off then a.wake else a) else if a.mode == .off then a else a.disable

/-- R127, R133, R140: new settings clamp the budget, may touch the interval, and switch the line. -/
theorem LineRecord.reconfigure_eq (a : LineRecord) (old new : LineSetup) : ∃ n, a.reconfigure old new =
    LineRecord.switched { a with budget := clampBudget new.capacity a.budget, interval := n } new.enabled := by
  unfold LineRecord.reconfigure LineRecord.switched
  by_cases h : old.interval = new.interval
  · exact ⟨a.interval, by simp only [if_pos h]⟩
  · exact ⟨_, by simp only [if_neg h]; rfl⟩

theorem LineRecord.switched_evolves (c : LineSetup) (a : LineRecord) (enabled : Bool)
    (idle : enabled = false → a.inFlight = 0) : a.Evolves c (a.switched enabled) := by
  unfold LineRecord.switched
  split
  · split
    · next hoff => exact (Move.woken (.inr (.inr (beq_iff_eq.1 hoff)))).evolves
    · exact .refl _ _
  · next hen =>
    split
    · exact .refl _ _
    · exact LineRecord.disable_evolves _ _ (idle (by simpa using hen))

theorem State.goes_reconfigureLine (new : LineSetup) (room : (s.line l).inFlight ≤ new.limit)
    (idle : new.enabled = false → (s.line l).inFlight = 0) : s.Goes (s.reconfigureLine l new) := by
  obtain ⟨n, hn⟩ := (s.line l).reconfigure_eq (s.lineSetup l) new
  have first := (Move.relined l new n room).goes
  have result : s.reconfigureLine l new = ((s.setLineSetup l new).updLine l fun ln =>
      { ln with budget := clampBudget new.capacity ln.budget, interval := n }).updLine l fun ln =>
        ln.switched new.enabled := by
    simp [State.reconfigureLine, State.updLine, State.setLine_setLine, hn]
  rw [result]
  refine first.trans (State.goes_updLine _ l _ (LineRecord.switched_evolves _ _ _ fun hen => ?_))
  rw [State.line_updLine_self]
  exact idle hen

theorem State.goes_setGrouping (g : Grouping) : s.Goes (s.setGrouping g) :=
  (State.DeskMove.settings { s.setup with grouping := g } rfl rfl rfl).goes

/-- R126: the settings that pass the checks leave the jobs in flight their room. -/
theorem State.lineCheck_none {s : State} {l : LineId} {f : LineFields} (h : s.lineCheck l f = none) :
    ((LineFields.setup f).enabled = false → (s.line l).inFlight = 0) ∧
      (s.line l).inFlight ≤ (LineFields.setup f).limit := by
  unfold State.lineCheck at h
  split at h
  · cases h
  next hvalues =>
  split at h
  · cases h
  next hidle =>
  split at h
  · cases h
  next hroom =>
  refine ⟨fun hen => ?_, Nat.le_of_not_lt hroom⟩
  have henabled : f.enabled ≠ 1 := by simpa [LineFields.setup] using hen
  have hyes : (yesNo? f.enabled).isSome = true := by
    simp only [LineFields.valuesOk, Bool.not_eq_true', Bool.not_eq_false, Bool.and_eq_true] at hvalues
    exact hvalues.1.1.1.1
  have hzero : f.enabled = 0 := by
    match hf : f.enabled, henabled, hyes with
    | 0, _, _ => rfl
    | 1, h1, _ => exact absurd rfl h1
  exact Nat.eq_zero_of_not_pos fun hpos => hidle ⟨hzero, hpos⟩

theorem State.goes_storeLine (f : LineFields) (h : s.lineCheck l f = none) : s.Goes (s.storeLine l f) := by
  obtain ⟨hidle, hroom⟩ := State.lineCheck_none h
  have grouped := s.goes_setGrouping ((grouping? f.grouping).getD .separate)
  have stored := State.goes_reconfigureLine (s.setGrouping ((grouping? f.grouping).getD .separate)) l (LineFields.setup f)
    hroom hidle
  exact (grouped.trans stored).trans (State.goes_quietSettled _)

theorem goes_serveLine (line : Nat) (f : LineFields) : s.Goes (serveLine line f s).st := by
  unfold serveLine
  split
  · exact .refl s
  · split
    · exact .refl s
    · next h => exact s.goes_storeLine _ f h

theorem State.goes_storeQuiet (q : QuietSetup) : s.Goes (s.storeQuiet q) :=
  (State.DeskMove.settings { s.setup with quiet := q } rfl rfl rfl).goes.trans (State.goes_moveQuiet _ _)

theorem goes_serveQuiet (enable qEnter qExit : Nat) : s.Goes (serveQuiet enable qEnter qExit s).st := by
  unfold serveQuiet
  split
  · exact .refl s
  · exact s.goes_storeQuiet _

theorem goes_serveFaultMode (f : ModeFields) : s.Goes (serveFaultMode f s).st := by
  unfold serveFaultMode
  split
  · exact .refl s
  · next x _ => exact (State.DeskMove.settings { s.setup with fault := x } rfl rfl rfl).goes

theorem goes_serveArbiter (code fairness : Nat) : s.Goes (serveArbiter code fairness s).st := by
  unfold serveArbiter
  split
  · exact .refl s
  · next x _ =>
    exact (State.DeskMove.settings { s.setup with arbiter := { idleCode := min 3 code, fairness := x } } rfl rfl rfl).goes

theorem State.goes_clearSign (i : SignId) : s.Goes (s.clearSign i) := by
  unfold State.clearSign
  split
  · exact .refl s
  next m hm =>
  refine goes_ite (fun _ => .refl s) fun _ => ?_
  have cleared : s.Goes (s.updSign i fun g =>
      { g with fault := .none, retry := .stopped, failures := 0, delivered := none }) := s.goes_updSign i _ (.inr rfl)
  exact cleared.trans (FloorMove.queued (s := s.updSign i _) i m hm (by simp)).goes

theorem goes_serveClearSign (sign : Nat) : s.Goes (serveClearSign sign s).st := by
  unfold serveClearSign
  split
  · exact .refl s
  · exact s.goes_clearSign _

theorem goes_serveClearLine (line : Nat) : s.Goes (serveClearLine line s).st := by
  unfold serveClearLine
  split
  · exact .refl s
  · exact s.goes_restoreLine _

end LineSettings

/-! ### The ports -/

section Ports
variable (s : State)

theorem State.goes_take (p : Port) : s.Goes (s.take p) := by
  rw [State.take_eq]
  exact State.goes_of_core rfl

theorem State.goes_raisePeers (p : Port) : s.Goes (s.raisePeers p) :=
  goes_foldl (fun t q => goes_ite (fun _ => .refl t) fun _ => t.goes_raise q .peer) allPorts s

theorem State.goes_lapseGrant (p : Port) : s.Goes (s.lapseGrant p) :=
  goes_ite (fun _ => s.goes_withdraw) fun _ => State.goes_of_core rfl

theorem State.goes_lapse (p : Port) : s.Goes (s.lapse p) :=
  (((s.goes_updPort p _).trans (State.goes_lapseNotices _ p)).trans (State.goes_lapseGrant _ p)).trans
    (State.goes_raisePeers _ p)

theorem State.goes_finishReply (p : Port) : s.Goes (s.finishReply p) := by
  unfold State.finishReply State.applyAddress
  split
  · exact s.goes_updPort p _
  · exact State.goes_of_core rfl

theorem goes_serveAttention (p : Port) : s.Goes (serveAttention p s).st := by
  unfold serveAttention
  split
  · exact .refl s
  · next src _ => cases src <;> exact State.goes_of_core rfl

theorem State.goes_setPortSetup (p : Port) (x : PortSetup) : s.Goes (s.setPortSetup p x) :=
  (State.DeskMove.settings { s.setup with ports := s.setup.ports.set (portIndex p) x } rfl rfl rfl).goes

theorem goes_servePort (target : Nat) (roles : RoleSet) (code : Nat) : s.Goes (servePort target roles code s).st := by
  unfold servePort
  split
  · exact .refl s
  · next q _ =>
    exact (s.goes_setPortSetup q { roles := roles, interval := clampCode code }).trans (State.goes_updPort _ q _)

theorem goes_serveCabinet (p : Port) (address : Nat) : s.Goes (serveCabinet p address s).st := by
  unfold serveCabinet
  split
  · exact .refl s
  · exact s.goes_updPort p fun x => { x with newAddress := some address }

theorem goes_serveMask (p : Port) (mask : BitVec 8) : s.Goes (serveMask p mask s).st :=
  s.goes_updPort p fun x => { x with mask := mask }

end Ports

/-! ### The setup store and start-up -/

section Store
variable (s : State)

theorem goes_serveSave (p : Port) : s.Goes (serveSave p s).st :=
  (State.DeskMove.stored { image := s.setup, check := none } (.inl rfl)).goes.aside rfl

theorem State.goes_completeSave : s.Goes s.completeSave := by
  unfold State.completeSave
  split
  · exact (State.DeskMove.stored s.stored.sealed (.inr rfl)).goes.aside rfl
  · exact .refl s

theorem goes_serveLoad (p : Port) : s.Goes (serveLoad p s).st := by
  unfold serveLoad
  repeat' split
  all_goals exact State.goes_of_core rfl

/-- No line holds a job. -/
def State.Jobless (s : State) : Prop := ∀ l : LineId, (s.line l).jobs = []

theorem State.jobless_of_anyJob {s : State} (h : s.anyJob = false) : s.Jobless := by
  intro l
  have hmem : s.line l ∈ s.lines.toList := by simp [State.line]
  have := List.any_eq_false.1 h _ hmem
  simpa using this

/-- R179: a load that may be applied. -/
theorem State.anyJob_of_loadStatus {s : State} (h : s.loadStatus = .ok) : s.anyJob = false := by
  unfold State.loadStatus at h
  dsimp only at h
  split at h
  · cases h
  split at h
  · cases h
  · next hbusy =>
    simp only [Bool.or_eq_true, not_or, Bool.not_eq_true] at hbusy
    exact hbusy.2

/-- R127: new settings make no job. -/
theorem LineRecord.reconfigure_jobs {a : LineRecord} (h : a.jobs = []) (old new : LineSetup) :
    (a.reconfigure old new).jobs = [] := by
  obtain ⟨n, hn⟩ := a.reconfigure_eq old new
  rw [hn, LineRecord.switched]
  split
  · split
    · exact h
    · exact h
  · split
    · exact h
    · simp [LineRecord.disable, LineRecord.powerOff, h]

theorem State.goes_loadLines (new : Setup) (h : s.Jobless) : s.Goes (s.loadLines new) := by
  have idle {t : State} (ht : t.Jobless) (l : LineId) : (t.line l).inFlight = 0 := by
    simp [LineRecord.inFlight, ht l]
  have kept : s.Goes (s.loadLines new) ∧ (s.loadLines new).Jobless := by
    refine foldl_keeps (fun t => s.Goes t ∧ t.Jobless) _ (fun t l ht => ⟨ht.1.trans ?_, fun k => ?_⟩) allLines _
      ⟨s.goes_setGrouping _, h⟩
    · exact t.goes_reconfigureLine l _ (idle ht.2 l ▸ Nat.zero_le _) fun _ => idle ht.2 l
    · rw [State.reconfigureLine, State.line_updLine]
      split
      · next e => exact LineRecord.reconfigure_jobs (e ▸ ht.2 l) _ _
      · exact ht.2 k
  exact kept.1

theorem State.goes_loadPort (new : Setup) (p : Port) : s.Goes (s.loadPort new p) := by
  have stored := s.goes_setPortSetup p new.ports[portIndex p]
  exact goes_ite (fun _ => stored) fun _ => stored.trans (State.goes_updPort _ p _)

theorem State.goes_loadSettings (new : Setup) : s.Goes (s.loadSettings new) := by
  have first : s.Goes { s with setup := { s.setup with fault := new.fault } } :=
    (State.DeskMove.settings { s.setup with fault := new.fault } rfl rfl rfl).goes
  have ports := first.trans (goes_foldl (fun t p => t.goes_loadPort new p) allPorts _)
  exact ports.trans (State.DeskMove.settings { (State.setup _) with arbiter := new.arbiter } rfl rfl rfl).goes

theorem State.goes_applySetup (h : s.loadStatus = .ok) : s.Goes (s.applySetup s.stored.image) := by
  have jobless : ((s.loadRooms s.stored.image).loadSigns s.stored.image).Jobless := by
    intro l
    have none := State.jobless_of_anyJob (State.anyJob_of_loadStatus h) l
    rw [State.loadRooms, State.repress_eq]
    simpa [State.loadSigns, State.line, LineRecord.unlist] using none
  unfold State.applySetup
  exact (((((Move.loaded h).goes.trans (State.goes_loadLines _ _ jobless)).trans (State.goes_loadSettings _ _)).trans
    (State.goes_storeQuiet _ _)).trans (State.goes_quietSettled _)).trans (State.goes_forcedEvaluation _)

theorem State.goes_completeLoad : s.Goes s.completeLoad := by
  unfold State.completeLoad
  split
  · next p _ =>
    extract_lets st s1
    have applied : s.Goes s1 := goes_ite (fun h => s.goes_applySetup h) fun _ => .refl s
    have told : s1.Goes { s1 with store := if st = Status.badStore then .blank else .idle } := goes_of_core rfl
    exact ((applied.trans told).trans (State.goes_updPort _ p _)).trans (State.goes_raise _ p .store)
  · exact .refl s

theorem State.goes_softClear : s.Goes s.softClear := by
  have emptied : s.Goes s.emptied := DeskMove.cleared.goes.aside rfl
  have untested (t : State) : t.Goes t.untested := by
    have off : t.Goes { t with signs := t.signs.map fun g => { g with test := none } } :=
      (FloorMove.signs _ fun i => .inl (by simp [State.sign])).goes
    refine off.trans (FloorMove.lines (t.lines.map fun ln => { ln with jobs := ln.jobs.filter fun j => !j.isReady })
      fun l => ?_).goes
    have line : (t.lines.map fun ln => { ln with jobs := ln.jobs.filter fun j => !j.isReady })[l] =
      { t.line l with jobs := (t.line l).jobs.filter fun j => !j.isReady } := by simp [State.line]
    rw [line]
    exact (LineRecord.Move.thinned (a := t.line l)
      (b := { t.line l with jobs := (t.line l).jobs.filter fun j => !j.isReady }) rfl rfl rfl List.filter_sublist
      (List.Sublist.refl _)).evolves
  have forced := ((emptied.trans (State.goes_repress _)).trans (untested _)).trans (State.goes_forcedEvaluation _)
  unfold State.softClear
  generalize s.emptied.repress.untested.forcedEvaluation = t at forced ⊢
  exact forced.aside rfl

theorem State.goes_startUp (cause : StartCause) (baud : Baud) (address : Nat) (programmed : Bool) :
    s.Goes (s.startUp cause baud address programmed) := by
  refine (Move.cold _ _ cause baud address programmed ?_).goes.trans (State.goes_forcedEvaluation _)
  split
  · exact .inr rfl
  · exact .inl rfl

theorem State.goes_halt (run : RunState) (pin : Bool) : s.Goes (s.halt run pin) :=
  (Move.cold .blank .blank s.startCause s.baud s.address s.programmed (.inl rfl)).goes.aside rfl

end Store

/-! ### Every command -/

section Commands
variable {s : State}

/-- A request goes through its arrival, what its block or its broadcast form does, and its answer. -/
theorem State.goes_request {h : Header} {code : Nat} {need : Need} {cast : State → Option State} {serve : State → Served}
    (hcast : ∀ u v : State, cast u = some v → u.Goes v) (hserve : ∀ u : State, u.Goes (serve u).st) :
    s.Goes (s.request h code need cast serve) :=
  State.request_keeps (P := s.Goes) (fun u p f hu => hu.trans (u.goes_updPort p f)) (fun u p hu => hu.trans (u.goes_take p))
    (fun u hu => hu.trans (hserve u)) (fun u v hu hv => hu.trans (hcast u v hv)) (.refl s)

/-- A request without a broadcast form. -/
theorem State.goes_direct {h : Header} {code : Nat} {need : Need} {serve : State → Served}
    (hserve : ∀ u : State, u.Goes (serve u).st) : s.Goes (s.request h code need noCast serve) :=
  goes_request (fun _ _ hv => by cases hv) hserve

theorem State.goes_whenRunning {f : State → State} (h : s.Goes (f s)) : s.Goes (s.whenRunning f) :=
  goes_ite (fun _ => h) fun _ => .refl s

theorem State.goes_whenHeard {p : Port} {f : State → State} (h : s.Goes (f s)) : s.Goes (s.whenHeard p f) :=
  goes_ite (fun _ => h) fun _ => .refl s

theorem State.goes_whenIf {c : State → Prop} [∀ u, Decidable (c u)] {f : State → State} (h : s.Goes (f s)) :
    s.Goes (s.whenRunning fun u => if c u then f u else u) :=
  goes_whenRunning (goes_ite (fun _ => h) fun _ => .refl s)

end Commands

/-- Every command completes, and what it does is a sequence of moves. -/
theorem exec_goes (s : State) : ∀ c : Instr, ∃ t, exec c s = .next t ∧ s.Goes t
  | .readStatus _ => ⟨_, rfl, State.goes_direct fun u => .refl u⟩
  | .readRoom _ room first => ⟨_, rfl, State.goes_direct fun u => by unfold serveReadRoom; split <;> exact .refl u⟩
  | .readEntry _ room tag => ⟨_, rfl, State.goes_direct fun u => by
      unfold serveReadEntry; split
      · exact .refl u
      · split <;> exact .refl u⟩
  | .readSign _ sign => ⟨_, rfl, State.goes_direct fun u => by unfold serveReadSign; split <;> exact .refl u⟩
  | .readLine _ line => ⟨_, rfl, State.goes_direct fun u => by unfold serveReadLine; split <;> exact .refl u⟩
  | .readNotice _ id => ⟨_, rfl, State.goes_direct fun u => by
      unfold serveReadNotice; split
      · exact .refl u
      · split <;> exact .refl u⟩
  | .heartbeat _ => ⟨_, rfl, State.goes_request (fun u _ hv => Option.some.inj hv ▸ .refl u) fun u => .refl u⟩
  | .readAttention h => ⟨_, rfl, State.goes_direct fun u => goes_serveAttention u h.port⟩
  | .setAttentionMask h mask => ⟨_, rfl, State.goes_direct fun u => goes_serveMask u h.port mask⟩
  | .putEntry h room f => ⟨_, rfl, State.goes_direct fun u => goes_servePut u h.port room f⟩
  | .dropEntry h room tag => ⟨_, rfl, State.goes_direct fun u => goes_serveDrop u h.port room tag⟩
  | .markEntry h room tag a b => ⟨_, rfl, State.goes_direct fun u => goes_serveMark u h.port room tag a b⟩
  | .clearDay h room day => ⟨_, rfl, State.goes_direct fun u => goes_serveClearDay u h.port room day⟩
  | .setClock _ day minute second => ⟨_, rfl, State.goes_request (fun u _ hv => goes_castClock u hv)
      fun u => goes_serveClock u day minute second⟩
  | .openBatch h rooms => ⟨_, rfl, State.goes_direct fun u => goes_serveOpen u h.port rooms⟩
  | .stagePut h room f => ⟨_, rfl, State.goes_direct fun u => goes_stage u h.port room _ _⟩
  | .stageDrop h room tag => ⟨_, rfl, State.goes_direct fun u => goes_stage u h.port room _ _⟩
  | .stageMark h room tag _ _ => ⟨_, rfl, State.goes_direct fun u => goes_stage u h.port room _ _⟩
  | .stageClearDay h room day => ⟨_, rfl, State.goes_direct fun u => goes_stage u h.port room _ _⟩
  | .commitBatch h => ⟨_, rfl, State.goes_direct fun u => goes_serveCommit u h.port⟩
  | .abandonBatch h => ⟨_, rfl, State.goes_direct fun u => goes_serveAbandon u h.port⟩
  | .postNotice h f => ⟨_, rfl, State.goes_request (fun u _ hv => goes_castPost u hv) fun u => goes_servePost u h.port f⟩
  | .withdrawNotice h id => ⟨_, rfl, State.goes_request (fun u _ hv => goes_castWithdraw u hv)
      fun u => goes_serveWithdraw u h.port id⟩
  | .setRoom _ room f => ⟨_, rfl, State.goes_direct fun u => goes_serveRoom u room f⟩
  | .mapSign _ sign f => ⟨_, rfl, State.goes_direct fun u => goes_serveMap u sign f⟩
  | .mapSignUnmap _ sign => ⟨_, rfl, State.goes_direct fun u => goes_serveUnmap u sign⟩
  | .setTest _ signs pattern => ⟨_, rfl, State.goes_direct fun u => goes_serveTest u signs pattern⟩
  | .setTestOff _ signs => ⟨_, rfl, State.goes_direct fun u => goes_serveTestOff u signs⟩
  | .setLine _ line f => ⟨_, rfl, State.goes_direct fun u => goes_serveLine u line f⟩
  | .setQuiet _ enable qEnter qExit => ⟨_, rfl, State.goes_direct fun u => goes_serveQuiet u enable qEnter qExit⟩
  | .wakeLines _ => ⟨_, rfl, State.goes_direct fun u => u.goes_wakeCause⟩
  | .setFaultMode _ f => ⟨_, rfl, State.goes_direct fun u => goes_serveFaultMode u f⟩
  | .clearFaultSign _ sign => ⟨_, rfl, State.goes_direct fun u => goes_serveClearSign u sign⟩
  | .clearFaultLine _ line => ⟨_, rfl, State.goes_direct fun u => goes_serveClearLine u line⟩
  | .setPort _ target roles code => ⟨_, rfl, State.goes_direct fun u => goes_servePort u target roles code⟩
  | .setCabinet h address => ⟨_, rfl, State.goes_direct fun u => goes_serveCabinet u h.port address⟩
  | .setArbiter _ code fairness => ⟨_, rfl, State.goes_direct fun u => goes_serveArbiter u code fairness⟩
  | .saveSetup h => ⟨_, rfl, State.goes_direct fun u => goes_serveSave u h.port⟩
  | .loadSetup h => ⟨_, rfl, State.goes_direct fun u => goes_serveLoad u h.port⟩
  | .softClear _ => ⟨_, rfl, State.goes_direct fun u => u.goes_softClear⟩
  | .unknownRequest _ _ => ⟨_, rfl, State.goes_direct fun u => .refl u⟩
  | .broadcastDropped p => ⟨_, rfl, State.goes_whenHeard
      ((s.goes_take p).trans ((State.goes_updPort _ p _).trans (State.goes_updPort _ p _)))⟩
  | .packetDiscarded p => ⟨_, rfl, State.goes_whenHeard ((s.goes_updPort p _).trans (State.goes_updPort _ p _))⟩
  | .packetIgnored p => ⟨_, rfl, State.goes_whenHeard (s.goes_updPort p _)⟩
  | .bodyLengthOver240 p => ⟨_, rfl, State.goes_whenHeard ((s.goes_updPort p _).trans (State.goes_updPort _ p _))⟩
  | .receivingGap p => ⟨_, rfl, State.goes_whenIf (s.goes_updPort p _)⟩
  | .skippingGap p => ⟨_, rfl, State.goes_whenIf (s.goes_updPort p _)⟩
  | .replySent p => ⟨_, rfl, State.goes_whenIf (s.goes_finishReply p)⟩
  | .secondBoundary => ⟨_, rfl, State.goes_whenRunning s.goes_boundary⟩
  | .minuteBoundary => ⟨_, rfl, State.goes_whenIf s.goes_boundary⟩
  | .dayBoundary => ⟨_, rfl, State.goes_whenIf s.goes_boundary⟩
  | .dayBoundaryOutOfDay15 => ⟨_, rfl, State.goes_whenIf s.goes_boundary⟩
  | .idleTimerExpiry => ⟨_, rfl, State.goes_whenIf s.goes_withdraw⟩
  | .heartbeatLapse p => ⟨_, rfl, State.goes_whenIf (s.goes_lapse p)⟩
  | .jobCreation l => ⟨_, rfl, State.goes_whenRunning (s.goes_createJob l)⟩
  | .jobStart l => ⟨_, rfl, State.goes_whenRunning (s.goes_startJob l)⟩
  | .ack l pos => ⟨_, rfl, State.goes_whenRunning (s.goes_takeAck l pos)⟩
  | .ackWaitExpiry l => ⟨_, rfl, State.goes_whenRunning (s.goes_ackMissed l)⟩
  | .pollTimerExpiry l => ⟨_, rfl, State.goes_whenRunning (s.goes_updLine l _ (LineRecord.pollDue_evolves _ _))⟩
  | .pollExchange l => ⟨_, rfl, State.goes_whenRunning (s.goes_updLine l _ (pollNext_evolves _ _))⟩
  | .busyAnswer l pos => ⟨_, rfl, State.goes_whenRunning (s.goes_takeBusy l pos)⟩
  | .doneOrIdle l pos digest => ⟨_, rfl, State.goes_whenRunning (s.goes_takeDone l pos digest)⟩
  | .pollAnswerWaitExpiry l => ⟨_, rfl, State.goes_whenRunning (s.goes_pollMissed l)⟩
  | .refreshTimerExpiry l sign => ⟨_, rfl, State.goes_whenRunning (s.goes_slow l sign)⟩
  | .settleTimerExpiry l => ⟨_, rfl, State.goes_whenRunning (s.goes_updLine l _ (LineRecord.settled_evolves _ _))⟩
  | .rollCallIntervalExpiry l =>
    ⟨_, rfl, State.goes_whenRunning (s.goes_updLine l _ (LineRecord.intervalDue_evolves _ _))⟩
  | .rollCallStart l => ⟨_, rfl, State.goes_whenRunning (s.goes_updLine l _ (LineRecord.rollStart_evolves _ _))⟩
  | .classAnswer l pos cls => ⟨_, rfl, State.goes_whenRunning (s.goes_takeClass l pos cls)⟩
  | .rollAnswerWaitExpiry l => ⟨_, rfl, State.goes_whenRunning (s.goes_rollMissed l)⟩
  | .lineSleep l => ⟨_, rfl, State.goes_whenRunning (s.goes_sleepLine l)⟩
  | .trip l => ⟨_, rfl, State.goes_whenIf (s.goes_trip l)⟩
  | .retryTimerExpiry sign => ⟨_, rfl, State.goes_whenIf (s.goes_endRetry sign)⟩
  | .lineRetryWaitExpiry l => ⟨_, rfl, State.goes_whenIf (s.goes_restoreLine l)⟩
  | .saveCompletion => ⟨_, rfl, State.goes_whenRunning s.goes_completeSave⟩
  | .loadCompletion => ⟨_, rfl, State.goes_whenRunning s.goes_completeLoad⟩
  | .powerOn _ _ => ⟨_, rfl, State.goes_ite (fun _ => .refl s) fun _ =>
      State.goes_ite (fun _ => State.goes_of_core rfl) fun _ => s.goes_startUp _ _ _ _⟩
  | .resetPinRelease => ⟨_, rfl, State.goes_ite (fun _ => s.goes_startUp _ _ _ _) fun _ => State.goes_of_core rfl⟩
  | .resetPinAssert => ⟨_, rfl, State.goes_ite (fun _ => s.goes_halt _ _) fun _ => State.goes_of_core rfl⟩
  | .powerLoss => ⟨_, rfl, State.goes_ite (fun _ => .refl s) fun _ => (s.goes_halt .off s.resetPin).aside rfl⟩
  | .leadByteInHunting p => ⟨_, rfl, State.goes_whenIf (s.goes_updPort p _)⟩
  | .excessCurrentOnset l => ⟨_, rfl, State.goes_whenIf
      (s.goes_updLine l _ (LineRecord.evolves_of_eq _ _ rfl rfl rfl rfl rfl))⟩
  | .excessCurrentEnd l => ⟨_, rfl, State.goes_whenRunning
      (s.goes_updLine l _ (LineRecord.evolves_of_eq _ _ rfl rfl rfl rfl rfl))⟩

end Sys2Proof.Machine
end

section
/-! PROOFS. The laws of the desk: the clock, the notices, the timetables, the setup and the stores, each kept by every move. -/

namespace Sys2Proof.Machine

/-! ### From moves to steps -/

/-- A property of the hub without its queue that every move keeps, every step keeps. -/
theorem step_keeps {P : State → Prop} (queue : ∀ (s : State) (rest : List Instr), P s → P { s with pending := rest })
    (move : ∀ s t : State, s.Move t → P s → P t) {s t : State} (hs : P s) (h : step s = .next t) : P t := by
  have goes {u v : State} (g : u.Goes v) (hu : P u) : P v := by
    induction g with
    | refl => exact hu
    | tail _ m ih => exact move _ _ m ih
  unfold step at h
  split at h
  · cases h; exact hs
  next c rest _ =>
    obtain ⟨v, hv, g⟩ := exec_goes { s with pending := rest } c
    rw [hv] at h
    cases h
    exact goes g (queue s rest hs)

/-! ### What the moves leave alone -/

/-- Two hubs that no law tells apart. -/
structure State.Alike (s t : State) : Prop where
  clock : t.clock = s.clock
  timetables : t.timetables = s.timetables
  notices : t.notices = s.notices
  setup : t.setup = s.setup
  stored : t.stored = s.stored
  evals : t.evals = s.evals
  signs : t.signs = s.signs
  lines : t.lines = s.lines
  pending : t.pending = s.pending

theorem State.alike_of_core {s t : State} (h : t.core = s.core) : s.Alike t := by
  have field {α : Type} (f : State → α) : f t.core = f s.core := congrArg f h
  exact ⟨field State.clock, field State.timetables, field State.notices, field State.setup, field State.stored,
    field State.evals, field State.signs, field State.lines, field State.pending⟩

/-- R110: off its line, a sign leaves the lines alone changed. -/
theorem State.takeOff_frame (s : State) (i : SignId) : s.takeOff i = { s with lines := (s.takeOff i).lines } := by
  unfold State.takeOff
  split <;> rfl

theorem State.leaveQueue_frame (s : State) (i : SignId) : s.leaveQueue i = { s with lines := (s.leaveQueue i).lines } := by
  unfold State.leaveQueue
  split <;> rfl

/-- A move of the floor reaches the signs and the lines alone. -/
theorem State.FloorMove.frame {s t : State} (m : s.FloorMove t) : t = { s with signs := t.signs, lines := t.lines } := by
  cases m with
  | signs v h => rfl
  | lines v h => rfl
  | queued i m mapped fault => rfl
  | faulted i g h => rw [State.leaveQueue_frame]; rfl
  | jobFailed l i g h => rw [State.leaveQueue_frame]; rfl

/-- R180: loading rooms and signs, field by field. -/
theorem State.loaded_frame (s : State) (new : Setup) : (s.loadRooms new).loadSigns new = { s with
    setup := { s.setup with rooms := new.rooms, signMap := new.signMap }
    timetables := Vector.ofFn fun r : RoomId => if new.rooms[r].enabled then s.timetable r else []
    evals := Vector.ofFn fun r : RoomId => if new.rooms[r].enabled then s.eval r else .disabled
    signs := Vector.ofFn fun i : SignId => (s.sign i).loaded (s.mapping i) new.signMap[i]
    lines := Vector.ofFn fun l : LineId => { (s.line l).unlist (new.places l) with dirty := [] }
    pressure := (s.loadRooms new).pressure
    ports := (s.loadRooms new).ports } := by
  rw [State.loadRooms, State.repress_eq]
  rfl

/-- R5: a room's timetable after a load. -/
theorem State.loaded_timetable (s : State) (new : Setup) (r : RoomId) :
    ((s.loadRooms new).loadSigns new).timetable r = if new.rooms[r].enabled then s.timetable r else [] := by
  rw [State.loaded_frame]
  simp [State.timetable]

/-- R20: a room's timetable after a purge. -/
theorem purged_timetable (s : State) (d : Nat) (r : RoomId) :
    (purged s d)[r] = (s.timetable r).filter fun e => decide (d ≤ e.day) := by
  simp [purged, State.timetable]

/-- Without its queue, a cold hub has no entries. -/
theorem State.cold_timetable (x : StoredCopy) (setup : Setup) (store : StoreState) (cause : StartCause) (baud : Baud)
    (address : Nat) (programmed : Bool) (pending : List Instr) (r : RoomId) :
    (State.cold x setup store cause baud address programmed pending).timetable r = [] := by
  simp [State.timetable, State.cold]

/-! ### The clock -/

theorem ClockLaw.of_clock {s t : State} (h : t.clock = s.clock) (hs : ClockLaw s) : ClockLaw t := by
  simpa only [ClockLaw, h] using hs

theorem ClockLaw.of_unset {t : State} (h : t.clock = .unset) : ClockLaw t := by
  simp [ClockLaw, h, Clock.unset]

theorem ClockLaw.desk {s t : State} (m : s.DeskMove t) (hs : ClockLaw s) : ClockLaw t := by
  cases m with
  | second isSet h =>
    simp only [ClockLaw, isSet, if_true] at hs ⊢
    exact ⟨hs.1, hs.2.1, h⟩
  | minute isSet h =>
    simp only [ClockLaw, isSet, if_true] at hs ⊢
    exact ⟨hs.1, h, Nat.zero_le _⟩
  | day isSet h =>
    simp only [ClockLaw, isSet, if_true]
    exact ⟨h, Nat.zero_le _, Nat.zero_le _⟩
  | unset => exact .of_unset rfl
  | jumped day minute second h => simpa [ClockLaw] using clockInRange_iff.1 h
  | unposted | posted | put | dropped | marked | room | settings | stored | cleared => exact hs.of_clock rfl

theorem ClockLaw.move (s t : State) (m : s.Move t) (hs : ClockLaw s) : ClockLaw t := by
  cases m with
  | aside h => exact hs.of_clock (State.alike_of_core h).clock
  | desk m => exact hs.desk m
  | floor m => exact hs.of_clock (by rw [m.frame])
  | board r e h => exact hs.of_clock rfl
  | remapped i x h => exact hs.of_clock (by rw [State.takeOff_frame]; rfl)
  | relined l c n h => exact hs.of_clock rfl
  | loaded h => exact hs.of_clock (by rw [State.loaded_frame])
  | cold setup store cause baud address programmed h => exact .of_unset rfl

/-- Settles O3: the clock moves by its boundaries, by SET_CLOCK in range, and is unset at a start. -/
theorem clockStaysInRange : Obligations.ClockStaysInRange := by
  unfold Obligations.ClockStaysInRange
  exact fun s t hs h => step_keeps (fun _ _ h => h) ClockLaw.move hs h

/-! ### The notices -/

theorem NoticeLaw.of_notices {s t : State} (h : t.notices = s.notices) (hs : NoticeLaw s) : NoticeLaw t := by
  simpa only [NoticeLaw, h] using hs

theorem NoticeLaw.of_none {t : State} (h : t.notices = []) : NoticeLaw t := by
  simp [NoticeLaw, h]

/-- R58: records that are left are in order, distinct and in range. -/
theorem NoticeLaw.of_sublist {s t : State} (h : t.notices.Sublist s.notices) (hs : NoticeLaw s) : NoticeLaw t := by
  obtain ⟨few, once, lawful⟩ := hs
  exact ⟨h.length_le.trans few, once.sublist (h.map _), fun n hn => lawful n (h.subset hn)⟩

/-- R62: the rooms of a list are as many as its numbers. -/
theorem State.enabledRooms?_length {s : State} {l : List Nat} {rooms : List RoomId} (h : s.enabledRooms? l = some rooms) :
    rooms.length = l.length := by
  induction l generalizing rooms with
  | nil => cases h; rfl
  | cons n l ih =>
    unfold State.enabledRooms? at h
    split at h
    · next hl => cases h; simp [ih hl]
    · cases h

/-- R64: the cells of the text that a post replaces. -/
def State.replacedText (s : State) (id : Nat) : Nat :=
  match s.noticeOf id with
  | some n => textCellsOf n.text
  | none => 0

/-- R61: what the checks of a post say of it. -/
structure PostFields.Passed (f : PostFields) (s : State) (t : Target) : Prop where
  id : 1 ≤ f.id ∧ f.id ≤ 255
  text : 1 ≤ f.text.length ∧ f.text.length ≤ 96
  target : ∀ l, t = .rooms l → 1 ≤ l.length ∧ l.length ≤ 16 ∧ l.Nodup
  expiry : f.expiry ≤ 23039
  places : s.noticeOf f.id = none → s.notices.length < Config.noticePlaces
  cells : textCellsOf f.text ≤ s.freeCells + s.replacedText f.id

theorem State.postCheck_passed {s : State} {f : PostFields} {t : Target} (h : s.postCheck f = .ok t) : PostFields.Passed f s t := by
  unfold State.postCheck at h
  split at h
  · cases h
  next hvalues =>
  split at h
  · cases h
  next rooms hrooms =>
  split at h
  · cases h
  next hnodup =>
  split at h
  · cases h
  split at h
  · cases h
  next htime =>
  split at h
  · cases h
  next hplaces =>
  change (if s.freeCells + s.replacedText f.id < textCellsOf f.text then _ else _) = _ at h
  split at h
  · cases h
  next hcells =>
  have stored := Except.ok.inj h
  clear h
  simp only [PostFields.valuesOk, Bool.not_eq_true', Bool.not_eq_false, Bool.and_eq_true, decide_eq_true_eq] at hvalues
  obtain ⟨⟨⟨⟨⟨⟨hid, hid'⟩, -⟩, htext⟩, htext'⟩, htarget⟩, -⟩ := hvalues
  refine ⟨⟨hid, hid'⟩, ⟨htext, htext'⟩, fun l hl => ?_, ?_, fun hnone => ?_, Nat.le_of_not_lt hcells⟩
  · rw [← stored] at hl
    split at hl
    · cases hl
    next hempty =>
    cases hl
    have length := State.enabledRooms?_length hrooms
    refine ⟨?_, length ▸ htarget, by simpa using hnodup⟩
    rw [length, Nat.one_le_iff_ne_zero, Ne, List.length_eq_zero_iff]
    simpa using hempty
  · by_contra hlate
    exact htime ⟨by omega, .inr (by omega)⟩
  · by_contra hfull
    exact hplaces ⟨by simp [hnone], Nat.le_of_not_lt hfull⟩

/-- R58: a record that is replaced gives its place. -/
theorem State.withoutNotice_length (s : State) (id : Nat) :
    (s.withoutNotice id).length + (if (s.noticeOf id).isSome then 1 else 0) ≤ s.notices.length := by
  unfold State.withoutNotice State.noticeOf
  split
  · next h =>
    obtain ⟨n, hn⟩ := Option.isSome_iff_exists.1 h
    have hid : (n.id == id) = true := List.find?_some (p := fun n : Notice => n.id == id) hn
    exact List.length_filter_lt_length_iff_exists.2 ⟨n, List.mem_of_find?_eq_some hn, by simpa using hid⟩
  · exact List.length_filter_le _ _

theorem NoticeLaw.posted {s : State} {f : PostFields} {t : Target} (tied : Bool) (p : Port) (broadcast : Bool)
    (h : s.postCheck f = .ok t) (hs : NoticeLaw s) :
    NoticeLaw { s with notices := s.withoutNotice f.id ++ [PostFields.notice f t tied p broadcast] } := by
  obtain ⟨few, once, lawful⟩ := hs
  have passed := State.postCheck_passed h
  have left : (s.withoutNotice f.id).Sublist s.notices := List.filter_sublist
  refine ⟨?_, ?_, fun n hn => ?_⟩
  · have room := s.withoutNotice_length f.id
    show (s.withoutNotice f.id ++ [_]).length ≤ _
    rw [List.length_append, List.length_singleton]
    by_cases hid : (s.noticeOf f.id).isSome
    · rw [if_pos hid] at room
      exact room.trans few
    · rw [if_neg hid] at room
      exact Nat.lt_of_le_of_lt room (passed.places (by simpa using hid))
  · show ((s.withoutNotice f.id ++ [_]).map Notice.id).Nodup
    rw [List.map_append, List.nodup_append]
    refine ⟨once.sublist (left.map _), List.nodup_singleton _, fun a ha b hb => ?_⟩
    obtain ⟨n, hn, rfl⟩ := List.mem_map.1 ha
    rw [List.mem_singleton.1 hb]
    exact bne_iff_ne.1 (List.mem_filter.1 hn).2
  · rcases List.mem_append.1 hn with hn | hn
    · exact lawful n (left.subset hn)
    · rw [List.mem_singleton.1 hn]
      refine ⟨passed.id, passed.text, passed.target, fun e he => ?_⟩
      simp only [PostFields.notice] at he
      split at he
      · cases he
      · next hne => exact Option.some.inj he ▸ ⟨Nat.pos_of_ne_zero hne, passed.expiry⟩

theorem NoticeLaw.move (s t : State) (m : s.Move t) (hs : NoticeLaw s) : NoticeLaw t := by
  cases m with
  | aside h => exact hs.of_notices (State.alike_of_core h).notices
  | desk m =>
    cases m with
    | unposted keep => exact hs.of_sublist List.filter_sublist
    | posted f t tied p broadcast h => exact hs.posted tied p broadcast h
    | cleared => exact .of_none rfl
    | second | minute | day | unset | jumped | put | dropped | marked | room | settings | stored =>
      exact hs.of_notices rfl
  | floor m => exact hs.of_notices (by rw [m.frame])
  | board r e h => exact hs.of_notices rfl
  | remapped i x h => exact hs.of_notices (by rw [State.takeOff_frame]; rfl)
  | relined l c n h => exact hs.of_notices rfl
  | loaded h => exact hs.of_notices (by rw [State.loaded_frame])
  | cold setup store cause baud address programmed h => exact .of_none rfl

/-- Settles O8: a post passes its checks and has its place, and every other change of the table takes records away. -/
theorem noticeTableLawKept : Obligations.NoticeTableLawKept := by
  unfold Obligations.NoticeTableLawKept
  exact fun s t hs h => step_keeps (fun _ _ h => h) NoticeLaw.move hs h

/-! ### The timetables -/

/-- R10: standing in each other's way is mutual. -/
theorem Entry.clashes_comm (a b : Entry) : a.clashes b = b.clashes a := by
  unfold Entry.clashes Entry.overlaps
  rw [Bool.and_comm (decide (b.absStart < a.absEnd)), bne_comm, Bool.and_comm (!a.marks.cancelled)]

/-- R8: entries of different tags are ordered one way or the other. -/
theorem Entry.before_total {a b : Entry} (h : a.tag ≠ b.tag) (hab : a.before b = false) : b.before a = true := by
  simp only [Entry.before, Bool.or_eq_false_iff, Bool.or_eq_true, Bool.and_eq_false_iff, Bool.and_eq_true,
    decide_eq_true_eq, decide_eq_false_iff_not] at hab ⊢
  omega

theorem Entry.before_trans {a b c : Entry} (hab : a.before b = true) (hbc : b.before c = true) : a.before c = true := by
  simp only [Entry.before, Bool.or_eq_true, Bool.and_eq_true, decide_eq_true_eq] at *
  omega

/-- R8, R10: the law of one timetable. -/
structure Entries.Lawful (l : List Entry) : Prop where
  ordered : l.Pairwise fun a b => a.before b = true
  once : (l.map Entry.tag).Nodup
  apart : l.Pairwise fun a b => a.clashes b = false

theorem timetableLaw_iff (s : State) : TimetableLaw s ↔ ∀ r, Entries.Lawful (s.timetable r) :=
  ⟨fun h r => ⟨(h r).1, (h r).2.1, (h r).2.2⟩, fun h r => ⟨(h r).ordered, (h r).once, (h r).apart⟩⟩

theorem Entries.Lawful.nil : Entries.Lawful [] := ⟨.nil, List.nodup_nil, .nil⟩

theorem Entries.Lawful.sublist {l k : List Entry} (h : Entries.Lawful l) (sub : k.Sublist l) : Entries.Lawful k :=
  ⟨h.ordered.sublist sub, h.once.sublist (sub.map _), h.apart.sublist sub⟩

theorem insertEntry_perm (e : Entry) (l : List Entry) : (insertEntry e l).Perm (e :: l) := by
  induction l with
  | nil => exact .refl _
  | cons x l ih =>
    unfold insertEntry
    split
    · exact (ih.cons x).trans (List.Perm.swap e x l)
    · exact .refl _

theorem insertEntry_ordered {e : Entry} {l : List Entry} (h : l.Pairwise fun a b => a.before b = true)
    (new : ∀ x ∈ l, x.tag ≠ e.tag) : (insertEntry e l).Pairwise fun a b => a.before b = true := by
  induction l with
  | nil => exact List.pairwise_singleton _ _
  | cons x l ih =>
    obtain ⟨hx, hl⟩ := List.pairwise_cons.1 h
    unfold insertEntry
    split
    · next hxe =>
      refine List.pairwise_cons.2 ⟨fun y hy => ?_, ih hl fun y hy => new y (List.mem_cons_of_mem _ hy)⟩
      rcases List.mem_cons.1 ((insertEntry_perm e l).mem_iff.1 hy) with rfl | hy
      · exact hxe
      · exact hx y hy
    · next hxe =>
      have hex := Entry.before_total (new x List.mem_cons_self) (by simpa using hxe)
      exact List.pairwise_cons.2 ⟨fun y hy => (List.mem_cons.1 hy).elim (fun e => e ▸ hex)
        fun hy => Entry.before_trans hex (hx y hy), h⟩

/-- R8, R13, R15: a put keeps the law, as what shares its tag or stands in its way goes. -/
theorem Entries.Lawful.put {l : List Entry} (h : Entries.Lawful l) (e : Entry) : Entries.Lawful (putTimetable l e) := by
  have left := h.sublist (k := l.filter fun x => x.tag != e.tag && !e.clashes x) List.filter_sublist
  have new : ∀ x ∈ l.filter fun x => x.tag != e.tag && !e.clashes x, x.tag ≠ e.tag ∧ e.clashes x = false := by
    intro x hx
    simpa using (List.mem_filter.1 hx).2
  have perm := insertEntry_perm e (l.filter fun x => x.tag != e.tag && !e.clashes x)
  refine ⟨insertEntry_ordered left.ordered fun x hx => (new x hx).1, ?_, ?_⟩
  · refine (perm.map Entry.tag).nodup_iff.2 (List.nodup_cons.2 ⟨fun hmem => ?_, left.once⟩)
    obtain ⟨x, hx, htag⟩ := List.mem_map.1 hmem
    exact (new x hx).1 htag
  · refine (perm.pairwise_iff fun {a b} hab => (Entry.clashes_comm b a).trans hab).2 ?_
    exact List.pairwise_cons.2 ⟨fun x hx => (new x hx).2, left.apart⟩

/-- R17: what a mark change makes of an entry. -/
def Entry.remarked (e : Entry) (tag : Nat) (new : Marks) (p : Port) : Entry :=
  if e.tag == tag && e.marks != new then { e with marks := new, origin := p } else e

theorem markTimetable_eq (l : List Entry) (tag : Nat) (new : Marks) (p : Port) :
    markTimetable l tag new p = l.map fun e => e.remarked tag new p := rfl

/-- R17: a mark change leaves everything but marks and origin, and reaches its tag alone. -/
theorem Entry.remarked_cases (e : Entry) (tag : Nat) (new : Marks) (p : Port) :
    (e.tag ≠ tag ∧ e.remarked tag new p = e) ∨
      (e.tag = tag ∧ ∃ o, e.remarked tag new p = { e with marks := new, origin := o }) := by
  unfold Entry.remarked
  by_cases htag : e.tag = tag
  · refine .inr ⟨htag, ?_⟩
    by_cases hm : e.marks = new
    · exact ⟨e.origin, by subst hm; simp⟩
    · exact ⟨p, by simp [htag, hm]⟩
  · exact .inl ⟨htag, by simp [htag]⟩

/-- R17: a mark change leaves the place of an entry. -/
theorem Entry.remarked_place (e : Entry) (tag : Nat) (new : Marks) (p : Port) :
    (e.remarked tag new p).tag = e.tag ∧ (e.remarked tag new p).absStart = e.absStart ∧
      (e.remarked tag new p).absEnd = e.absEnd ∧ (e.remarked tag new p).day = e.day ∧
      (e.remarked tag new p).cells = e.cells := by
  unfold Entry.remarked
  split <;> exact ⟨rfl, rfl, rfl, rfl, rfl⟩

/-- R10, R17: what new marks leave of a clash. -/
theorem Entry.clashes_withMarks (e x : Entry) (new : Marks) (o : Port) :
    Entry.clashes { e with marks := new, origin := o } x =
      (!new.cancelled && (!x.marks.cancelled && x.tag != e.tag && x.overlaps e)) := by
  simp only [Entry.clashes, ← Bool.and_assoc]
  rfl

/-- R17: with new marks an entry meets nothing that it did not meet, or the un-cancelling check would have found it. -/
theorem Entry.remarked_apart {l : List Entry} {e x : Entry} {new : Marks} (free : markOverlaps l e new = false) (o : Port)
    (hx : x ∈ l) (apart : e.clashes x = false) : Entry.clashes { e with marks := new, origin := o } x = false := by
  rw [Entry.clashes_withMarks]
  cases hnew : new.cancelled with
  | true => rfl
  | false =>
    cases hwas : e.marks.cancelled with
    | true =>
      rw [markOverlaps, hnew, hwas] at free
      have none := List.any_eq_false.1 free x hx
      rw [Entry.clashes_withMarks, hnew] at none
      simpa using none
    | false =>
      rw [Entry.clashes, hwas] at apart
      simpa using apart

/-- R8: the entry that a tag names is the only one of that tag. -/
theorem entryOf_unique {l : List Entry} {tag : Nat} {e a : Entry} (once : (l.map Entry.tag).Nodup)
    (he : entryOf l tag = some e) (ha : a ∈ l) (htag : a.tag = tag) : a = e :=
  have etag : e.tag = tag := by simpa using List.find?_some he
  List.inj_on_of_nodup_map once ha (List.mem_of_find?_eq_some he) (htag.trans etag.symm)

theorem Entries.Lawful.marked {l : List Entry} (h : Entries.Lawful l) {tag : Nat} {e : Entry} {new : Marks} (p : Port)
    (he : entryOf l tag = some e) (free : markOverlaps l e new = false) : Entries.Lawful (markTimetable l tag new p) := by
  have tags : (l.map fun x => x.remarked tag new p).map Entry.tag = l.map Entry.tag := by
    rw [List.map_map]
    exact List.map_congr_left fun x _ => (x.remarked_place tag new p).1
  have distinct : l.Pairwise fun a b => a.tag ≠ b.tag := List.pairwise_map.1 h.once
  rw [markTimetable_eq]
  refine ⟨List.pairwise_map.2 (h.ordered.imp fun {a b} hab => ?_), tags ▸ h.once,
    List.pairwise_map.2 ((h.apart.and distinct).imp_of_mem fun {a b} ha hb hab => ?_)⟩
  · obtain ⟨atag, astart, -⟩ := a.remarked_place tag new p
    obtain ⟨btag, bstart, -⟩ := b.remarked_place tag new p
    simpa only [Entry.before, atag, astart, btag, bstart] using hab
  · obtain ⟨apart, other⟩ := hab
    rcases a.remarked_cases tag new p with ⟨-, ea⟩ | ⟨hatag, o, ea⟩ <;>
      rcases b.remarked_cases tag new p with ⟨-, eb⟩ | ⟨hbtag, o', eb⟩
    · rw [ea, eb]; exact apart
    · obtain rfl := entryOf_unique h.once he hb hbtag
      rw [ea, eb, Entry.clashes_comm]
      exact Entry.remarked_apart free o' ha ((Entry.clashes_comm b a).trans apart)
    · obtain rfl := entryOf_unique h.once he ha hatag
      rw [ea, eb]
      exact Entry.remarked_apart free o hb apart
    · exact absurd (hatag.trans hbtag.symm) other

theorem TimetableLaw.of_timetables {s t : State} (h : t.timetables = s.timetables) (hs : TimetableLaw s) :
    TimetableLaw t := by
  simpa only [TimetableLaw, State.timetable, h] using hs

/-- R8: timetables that lose entries, or all of them. -/
theorem TimetableLaw.of_sublist {s t : State} (h : ∀ r, (t.timetable r).Sublist (s.timetable r)) (hs : TimetableLaw s) :
    TimetableLaw t :=
  (timetableLaw_iff t).2 fun r => ((timetableLaw_iff s).1 hs r).sublist (h r)

/-- R8: one timetable that changes lawfully. -/
theorem TimetableLaw.set {s : State} {r : RoomId} {l : List Entry} (hs : TimetableLaw s)
    (h : Entries.Lawful (s.timetable r) → Entries.Lawful l) : TimetableLaw (s.setTimetable r l) := by
  rw [timetableLaw_iff] at hs ⊢
  intro k
  rw [State.timetable_setTimetable]
  split
  · exact h (hs r)
  · exact hs k

theorem TimetableLaw.desk {s t : State} (m : s.DeskMove t) (hs : TimetableLaw s) : TimetableLaw t := by
  cases m with
  | day isSet h =>
    refine hs.of_sublist fun r => ?_
    show ((purged s _)[r]).Sublist _
    rw [purged_timetable]
    exact List.filter_sublist
  | jumped day minute second h =>
    refine hs.of_sublist fun r => ?_
    simp only [State.timetable]
    split
    · rw [purged_timetable]
      exact List.filter_sublist
    · exact .refl _
  | put r e supersede enabled h => exact hs.set fun l => l.put e
  | dropped r keep => exact hs.set fun l => l.sublist List.filter_sublist
  | marked r tag e new p h free => exact hs.set fun l => l.marked p h free
  | cleared => exact hs.of_sublist fun r => by simp [State.timetable]
  | second | minute | unset | unposted | posted | room | settings | stored => exact hs.of_timetables rfl

theorem TimetableLaw.move (s t : State) (m : s.Move t) (hs : TimetableLaw s) : TimetableLaw t := by
  cases m with
  | aside h => exact hs.of_timetables (State.alike_of_core h).timetables
  | desk m => exact hs.desk m
  | floor m => exact hs.of_timetables (by rw [m.frame])
  | board r e h => exact hs.of_timetables rfl
  | remapped i x h => exact hs.of_timetables (by rw [State.takeOff_frame]; rfl)
  | relined l c n h => exact hs.of_timetables rfl
  | loaded h =>
    refine hs.of_sublist fun r => ?_
    rw [State.loaded_timetable]
    split
    · exact .refl _
    · exact List.nil_sublist _
  | cold setup store cause baud address programmed h =>
    exact hs.of_sublist fun r => State.cold_timetable .. ▸ List.nil_sublist _

/-- Settles O9: a put places its entry where the order has it once what shares its tag or overlaps it is gone, a mark change that
un-cancels has passed its check, and nothing else adds or changes entries. -/
theorem timetableLawKept : Obligations.TimetableLawKept := by
  unfold Obligations.TimetableLawKept
  exact fun s t hs h => step_keeps (fun _ _ h => h) TimetableLaw.move hs h

/-! ### No entry of an earlier day -/

theorem PurgeLaw.of_eq {s t : State} (clock : t.clock = s.clock) (h : t.timetables = s.timetables) (hs : PurgeLaw s) :
    PurgeLaw t := by
  simpa only [PurgeLaw, State.timetable, clock, h] using hs

theorem PurgeLaw.of_unset {t : State} (h : t.clock.isSet = false) : PurgeLaw t := by
  simp [PurgeLaw, h]

/-- R20: the clock's day stays, and a room gains no entry. -/
theorem PurgeLaw.of_subset {s t : State} (isSet : t.clock.isSet = s.clock.isSet) (day : t.clock.day = s.clock.day)
    (h : ∀ r, t.timetable r ⊆ s.timetable r) (hs : PurgeLaw s) : PurgeLaw t :=
  fun ht r e he => day ▸ hs (isSet ▸ ht) r e (h r he)

/-- R12 check 4, R20: one timetable whose entries lie on the days of the old one's, or on a day that is not past. -/
theorem PurgeLaw.set {s : State} {r : RoomId} {l : List Entry} (hs : PurgeLaw s)
    (h : ∀ e ∈ l, s.isPast e.day = false ∨ ∃ x ∈ s.timetable r, x.day = e.day) : PurgeLaw (s.setTimetable r l) := by
  intro isSet k e he
  rw [State.timetable_setTimetable] at he
  split at he
  · rcases h e he with hpast | ⟨x, hx, hday⟩
    · have isSet' : s.clock.isSet = true := isSet
      simpa [State.isPast, isSet'] using hpast
    · exact hday ▸ hs isSet r x hx
  · exact hs isSet k e he

/-- R20: after a purge for a day every entry lies on that day or later. -/
theorem PurgeLaw.purged {s t : State} (h : t.timetables = Machine.purged s t.clock.day) : PurgeLaw t := by
  intro _ r e he
  rw [State.timetable, h, Fin.getElem_fin, ← Fin.getElem_fin, purged_timetable] at he
  simpa using (List.mem_filter.1 he).2

/-- R12, check 4: a put that passes is not for an earlier day. -/
theorem State.isPast_of_putCheck {s : State} {r : RoomId} {e : Entry} {supersede : Bool}
    (h : s.putCheck r e supersede = none) : s.isPast e.day = false := by
  unfold State.putCheck at h
  dsimp only at h
  split at h
  · cases h
  · next hp => simpa using hp

theorem PurgeLaw.desk {s t : State} (m : s.DeskMove t) (hs : PurgeLaw s) : PurgeLaw t := by
  cases m with
  | second isSet h => exact hs.of_subset rfl rfl fun _ => List.Subset.refl _
  | minute isSet h => exact hs.of_subset rfl rfl fun _ => List.Subset.refl _
  | day isSet h => exact PurgeLaw.purged (s := s) rfl
  | unset => exact .of_unset rfl
  | jumped day minute second h =>
    by_cases hp : s.clock.isSet = false ∨ s.clock.day < day
    · exact PurgeLaw.purged (s := s) (if_pos hp)
    · intro _ r e he
      simp only [State.timetable, if_neg hp] at he
      rw [not_or, Bool.not_eq_false] at hp
      exact (Nat.le_of_not_lt hp.2).trans (hs hp.1 r e he)
  | put r e supersede enabled h =>
    refine hs.set fun x hx => ?_
    rcases List.mem_cons.1 ((insertEntry_perm e _).mem_iff.1 hx) with rfl | hx
    · exact .inl (State.isPast_of_putCheck h)
    · exact .inr ⟨x, (List.mem_filter.1 hx).1, rfl⟩
  | dropped r keep => exact hs.set fun x hx => .inr ⟨x, (List.mem_filter.1 hx).1, rfl⟩
  | marked r tag e new p h free =>
    refine hs.set fun x hx => ?_
    rw [markTimetable_eq] at hx
    obtain ⟨y, hy, rfl⟩ := List.mem_map.1 hx
    exact .inr ⟨y, hy, (y.remarked_place tag new p).2.2.2.1.symm⟩
  | cleared => exact hs.of_subset (s := s) rfl rfl fun r => by simp [State.timetable]
  | unposted | posted | room | settings | stored => exact hs.of_eq rfl rfl

theorem PurgeLaw.move (s t : State) (m : s.Move t) (hs : PurgeLaw s) : PurgeLaw t := by
  cases m with
  | aside h => exact hs.of_eq (State.alike_of_core h).clock (State.alike_of_core h).timetables
  | desk m => exact hs.desk m
  | floor m => exact hs.of_eq (by rw [m.frame]) (by rw [m.frame])
  | board r e h => exact hs.of_eq rfl rfl
  | remapped i x h => exact hs.of_eq (by rw [State.takeOff_frame]; rfl) (by rw [State.takeOff_frame]; rfl)
  | relined l c n h => exact hs.of_eq rfl rfl
  | loaded h =>
    refine hs.of_subset (by rw [State.loaded_frame]) (by rw [State.loaded_frame]) fun r => ?_
    rw [State.loaded_timetable]
    split
    · exact List.Subset.refl _
    · exact List.nil_subset _
  | cold setup store cause baud address programmed h => exact .of_unset rfl

/-- Settles O10: the clock reaches a later day by a purge, and a put that passes its checks is not for an earlier day. -/
theorem noEntryBelowTheDay : Obligations.NoEntryBelowTheDay := by
  unfold Obligations.NoEntryBelowTheDay
  exact fun s t hs h => step_keeps (fun _ _ h => h) PurgeLaw.move hs h

end Sys2Proof.Machine
end

section
/-! PROOFS. The laws of the setup, the stores, the boards and the grant's holder, and that every command completes. -/

namespace Sys2Proof.Machine

/-! ### The working setup and the stored copy -/

theorem Setup.Lawful.congr {x y : Setup} (hx : x.Lawful) (rooms : y.rooms = x.rooms) (signMap : y.signMap = x.signMap) :
    y.Lawful := by
  obtain ⟨places, enabled, names⟩ := hx
  constructor
  · simpa only [signMap] using places
  · simpa only [signMap, rooms] using enabled
  · simpa only [rooms] using names

theorem Setup.blank_lawful : Setup.blank.Lawful :=
  ⟨fun i j m n h => by simp [Setup.blank] at h, fun i m h => by simp [Setup.blank] at h, fun r => by simp [Setup.blank]⟩

/-- R1: an enabled room has its name, and a disabled one none. -/
theorem RoomFields.setup_name (f : RoomFields) : (RoomFields.setup f).name.isSome = (RoomFields.setup f).enabled := by
  unfold RoomFields.setup
  cases f.enable == 1 <;> rfl

/-- R3, check 2: only a room without entries and without signs is disabled. -/
theorem State.idle_of_roomCheck {s : State} {r : RoomId} {f : RoomFields} (h : s.roomCheck r f = none)
    (disabled : (RoomFields.setup f).enabled = false) :
    s.timetable r = [] ∧ ∀ i m, s.mapping i = some m → m.room ≠ r := by
  have hne : f.enable ≠ 1 := by simpa [RoomFields.setup] using disabled
  have free : s.roomBusy r = false := by
    unfold State.roomCheck at h
    split at h
    · cases h
    · split at h
      · cases h
      · next hb => simpa using hb
    · next hyes =>
      match hf : f.enable, hyes, hne with
      | 1, _, hne => exact absurd rfl hne
  simp only [State.roomBusy, Bool.or_eq_false_iff, Bool.not_eq_false', List.isEmpty_iff, List.any_eq_false] at free
  obtain ⟨⟨entries, signs⟩, -⟩ := free
  refine ⟨entries, fun i m hm => ?_⟩
  have := signs i (by simp [allSigns])
  simpa [hm] using this

/-- R101: a free place is no other mapped sign's. -/
theorem State.placeTaken_false {s : State} {i : SignId} {l : LineId} {pos : Position} (h : s.placeTaken i l pos = false)
    {j : SignId} {m : Mapping} (hj : s.mapping j = some m) (line : m.line = l) (position : m.position = pos) : j = i := by
  have := List.any_eq_false.1 h j (by simp [allSigns])
  by_contra hne
  simp [hj, line, position, hne] at this

theorem SetupLaw.of_eq {s t : State} (setup : t.setup = s.setup) (stored : t.stored = s.stored)
    (timetables : t.timetables = s.timetables) (hs : SetupLaw s) : SetupLaw t := by
  simpa only [SetupLaw, State.roomSetup, State.timetable, setup, stored, timetables] using hs

/-- R3: rooms and sign map stay, and a disabled room's entries stay away. -/
theorem SetupLaw.of_entries {s t : State} (hs : SetupLaw s) (setup : t.setup = s.setup) (stored : t.stored = s.stored)
    (h : ∀ r, (s.roomSetup r).enabled = false → s.timetable r = [] → t.timetable r = []) : SetupLaw t := by
  obtain ⟨working, image, empty⟩ := hs
  refine ⟨setup ▸ working, stored ▸ image, fun r hr => ?_⟩
  have hr' : (s.roomSetup r).enabled = false := by simpa only [State.roomSetup, setup] using hr
  exact h r hr' (empty r hr')

theorem SetupLaw.set {s : State} {r : RoomId} {l : List Entry} (hs : SetupLaw s)
    (h : (s.roomSetup r).enabled = false → s.timetable r = [] → l = []) : SetupLaw (s.setTimetable r l) := by
  refine hs.of_entries rfl rfl fun k hk empty => ?_
  rw [State.timetable_setTimetable]
  split
  · next e => exact h (e ▸ hk) (e ▸ empty)
  · exact empty

theorem SetupLaw.room {s : State} {r : RoomId} {f : RoomFields} (h : s.roomCheck r f = none) (hs : SetupLaw s) :
    SetupLaw (s.setRoomSetup r (RoomFields.setup f)) := by
  obtain ⟨working, image, empty⟩ := hs
  have set (k : RoomId) : (s.setup.rooms.set r (RoomFields.setup f))[k] =
      if k = r then RoomFields.setup f else s.setup.rooms[k] := (s.roomSetup_setRoomSetup r k _ :)
  refine ⟨⟨working.places, fun i m hm => ?_, fun k => ?_⟩, image, fun k hk => ?_⟩
  · show ((s.setup.rooms.set r (RoomFields.setup f))[m.room]).enabled = true
    rw [set]
    split
    · next e =>
      by_contra hf
      exact (State.idle_of_roomCheck h (by simpa using hf)).2 i m hm e
    · exact working.rooms i m hm
  · show ((s.setup.rooms.set r (RoomFields.setup f))[k]).name.isSome = ((s.setup.rooms.set r (RoomFields.setup f))[k]).enabled
    rw [set]
    split
    · exact RoomFields.setup_name f
    · exact working.names k
  · rw [State.roomSetup_setRoomSetup] at hk
    split at hk
    · next e => exact e ▸ (State.idle_of_roomCheck h hk).1
    · exact empty k hk

theorem SetupLaw.desk {s t : State} (m : s.DeskMove t) (hs : SetupLaw s) : SetupLaw t := by
  cases m with
  | day isSet h =>
    refine hs.of_entries rfl rfl fun r _ empty => ?_
    show (purged s _)[r] = []
    rw [purged_timetable, empty, List.filter_nil]
  | jumped day minute second h =>
    refine hs.of_entries rfl rfl fun r _ empty => ?_
    simp only [State.timetable]
    split
    · rw [purged_timetable, empty, List.filter_nil]
    · exact empty
  | put r e supersede enabled h => exact hs.set fun hr => by rw [enabled] at hr; cases hr
  | dropped r keep => exact hs.set fun _ empty => by rw [empty, List.filter_nil]
  | marked r tag e new p h free => exact hs.set fun _ empty => by rw [markTimetable_eq, empty, List.map_nil]
  | room r f h => exact hs.room h
  | settings x rooms signMap lines =>
    obtain ⟨working, image, empty⟩ := hs
    refine ⟨working.congr rooms signMap, image, fun r hr => empty r ?_⟩
    simpa only [State.roomSetup, rooms] using hr
  | stored x h =>
    obtain ⟨working, image, empty⟩ := hs
    exact ⟨working, h.elim (fun e => e ▸ working) fun e => e ▸ image, empty⟩
  | cleared => exact hs.of_entries rfl rfl fun r _ _ => by simp [State.timetable]
  | second | minute | unset | unposted | posted => exact hs.of_eq rfl rfl rfl

theorem SetupLaw.remapped {s : State} {i : SignId} {x : Option Mapping}
    (h : ∀ m, x = some m → (s.roomSetup m.room).enabled = true ∧ s.placeTaken i m.line m.position = false)
    (hs : SetupLaw s) : SetupLaw ((s.takeOff i).setMapping i x) := by
  obtain ⟨working, image, empty⟩ := hs
  rw [State.takeOff_frame]
  have set (k : SignId) : (s.setup.signMap.set i x)[k] = if k = i then x else s.setup.signMap[k] :=
    (s.mapping_setMapping i k x :)
  refine ⟨⟨fun j k m n hj hk line position => ?_, fun j m hj => ?_, working.names⟩, image, empty⟩
  · change (s.setup.signMap.set i x)[j] = some m at hj
    change (s.setup.signMap.set i x)[k] = some n at hk
    rw [set] at hj hk
    split at hj <;> split at hk
    · next ej ek => exact ej.trans ek.symm
    · next ej _ => exact ej.trans (State.placeTaken_false (h m hj).2 hk line.symm position.symm).symm
    · next _ ek => exact (State.placeTaken_false (h n hk).2 hj line position).trans ek.symm
    · exact working.places j k m n hj hk line position
  · change (s.setup.signMap.set i x)[j] = some m at hj
    rw [set] at hj
    split at hj
    · exact (h m hj).1
    · exact working.rooms j m hj

theorem SetupLaw.move (s t : State) (m : s.Move t) (hs : SetupLaw s) : SetupLaw t := by
  cases m with
  | aside h =>
    have same := State.alike_of_core h
    exact hs.of_eq same.setup same.stored same.timetables
  | desk m => exact hs.desk m
  | floor m => exact hs.of_eq (by rw [m.frame]) (by rw [m.frame]) (by rw [m.frame])
  | board r e h => exact hs.of_eq rfl rfl rfl
  | remapped i x h => exact hs.remapped h
  | relined l c n h =>
    obtain ⟨working, image, empty⟩ := hs
    exact ⟨working.congr rfl rfl, image, empty⟩
  | loaded h =>
    obtain ⟨-, image, -⟩ := hs
    refine ⟨?_, by rw [State.loaded_frame]; exact image, fun r hr => ?_⟩
    · rw [State.loaded_frame]
      exact image.congr rfl rfl
    · rw [State.loaded_frame] at hr
      rw [State.loaded_timetable, if_neg]
      simpa [State.roomSetup] using hr
  | cold setup store cause baud address programmed h =>
    obtain ⟨-, image, -⟩ := hs
    exact ⟨h.elim (fun e => e ▸ Setup.blank_lawful) fun e => e ▸ image, image, fun r _ => State.cold_timetable ..⟩

/-- Settles O11: a map's checks keep places apart and rooms enabled, a room is disabled only without entries and signs, and a load
brings rooms and map of one lawful image. -/
theorem setupLawKept : Obligations.SetupLawKept := by
  unfold Obligations.SetupLawKept
  exact fun s t hs h => step_keeps (fun _ _ h => h) SetupLaw.move hs h

/-! ### Sums over rooms -/

theorem Vector.sum_toList_map {α : Type} {n : Nat} (v : Vector α n) (f : α → Nat) :
    (v.toList.map f).sum = ∑ i : Fin n, f v[i] := by
  have list : v.toList = List.ofFn fun i : Fin n => v[i] := by
    apply List.ext_getElem <;> simp
  rw [list, List.map_ofFn, List.sum_ofFn]
  rfl

/-- One place of a sum changes. -/
theorem sum_set {α : Type} {n : Nat} (v : Vector α n) (r : Fin n) (x : α) (f : α → Nat) :
    (∑ i : Fin n, f (v.set r x)[i]) + f v[r] = (∑ i : Fin n, f v[i]) + f x := by
  rw [← Finset.add_sum_erase _ _ (Finset.mem_univ r), ← Finset.add_sum_erase (a := r) _ (fun i => f v[i]) (Finset.mem_univ r)]
  have rest : ∑ i ∈ Finset.univ.erase r, f (v.set r x)[i] = ∑ i ∈ Finset.univ.erase r, f v[i] := by
    refine Finset.sum_congr rfl fun i hi => ?_
    have hne : (r : Nat) ≠ i := fun e => Finset.ne_of_mem_erase hi (Fin.ext e.symm)
    simp [hne]
  rw [rest]
  simp
  omega

theorem sum_allRooms (f : RoomId → Nat) : (allRooms.map f).sum = ∑ r, f r := (Fin.sum_univ_def f).symm

/-! ### The entry pool and the text store -/

theorem State.usedEntries_eq (s : State) : s.usedEntries = ∑ r : RoomId, (s.timetable r).length :=
  Vector.sum_toList_map _ _

theorem State.entryCells_eq (s : State) : s.entryCells = ∑ r : RoomId, entriesCells (s.timetable r) :=
  Vector.sum_toList_map _ _

theorem nameCells_eq (v : Vector RoomSetup 64) : nameCells v = ∑ r : RoomId, optCellsOf v[r].name :=
  Vector.sum_toList_map _ _

theorem State.usedEntries_setTimetable (s : State) (r : RoomId) (l : List Entry) :
    (s.setTimetable r l).usedEntries + (s.timetable r).length = s.usedEntries + l.length := by
  rw [State.usedEntries_eq, State.usedEntries_eq]
  exact sum_set s.timetables r l List.length

theorem State.entryCells_setTimetable (s : State) (r : RoomId) (l : List Entry) :
    (s.setTimetable r l).entryCells + entriesCells (s.timetable r) = s.entryCells + entriesCells l := by
  rw [State.entryCells_eq, State.entryCells_eq]
  exact sum_set s.timetables r l entriesCells

theorem entriesCells_sublist {l k : List Entry} (h : k.Sublist l) : entriesCells k ≤ entriesCells l :=
  (h.map Entry.cells).sum_le_sum fun _ _ => Nat.zero_le _

theorem entriesCells_perm {l k : List Entry} (h : k.Perm l) : entriesCells k = entriesCells l := (h.map Entry.cells).sum_eq

/-- R13, R14, R15: what a put takes away: the entry of its tag and what it overlaps, of another tag each. -/
theorem put_takes (f : Entry → Nat) (tt : List Entry) (e : Entry) :
    ((tt.filter fun x => x.tag != e.tag && !e.clashes x).map f).sum + ((putOverlaps tt e).map f).sum +
      (entryOf tt e.tag).elim 0 f ≤ (tt.map f).sum := by
  induction tt with
  | nil => simp [putOverlaps, entryOf]
  | cons x tt ih =>
    unfold putOverlaps entryOf at *
    by_cases htag : x.tag = e.tag
    · have apart : e.clashes x = false := by simp [Entry.clashes, htag]
      simp only [List.filter_cons, List.find?_cons, htag, apart, bne_self_eq_false, beq_self_eq_true, Bool.false_and,
        Bool.false_eq_true, if_false, Option.elim_some, List.map_cons, List.sum_cons]
      omega
    · have hbne : (x.tag != e.tag) = true := by simpa using htag
      have hbeq : (x.tag == e.tag) = false := by simpa using htag
      cases hc : e.clashes x <;>
        simp only [List.filter_cons, List.find?_cons, hbne, hbeq, hc, Bool.not_true, Bool.not_false, Bool.and_self,
          Bool.and_false, Bool.false_eq_true, if_true, if_false, List.map_cons, List.sum_cons] <;>
        omega

/-- R14: the cells of the entry that a put replaces. -/
def replacedCells (tt : List Entry) (tag : Nat) : Nat :=
  match entryOf tt tag with
  | some x => x.cells
  | none => 0

theorem replacedCells_eq (tt : List Entry) (tag : Nat) : replacedCells tt tag = (entryOf tt tag).elim 0 Entry.cells := by
  unfold replacedCells
  cases entryOf tt tag <;> rfl

/-- R12, checks 6a and 6b: a put that passes has its place and its cells. -/
theorem State.room_of_putCheck {s : State} {r : RoomId} {e : Entry} {supersede : Bool}
    (h : s.putCheck r e supersede = none) :
    (entryOf (s.timetable r) e.tag = none → 0 < s.freeEntries + (putOverlaps (s.timetable r) e).length) ∧
      e.cells ≤ s.freeCells + replacedCells (s.timetable r) e.tag + entriesCells (putOverlaps (s.timetable r) e) := by
  unfold State.putCheck at h
  dsimp only at h
  split at h
  · cases h
  split at h
  · cases h
  split at h
  · cases h
  next hpool =>
  change (if s.freeCells + replacedCells (s.timetable r) e.tag + entriesCells (putOverlaps (s.timetable r) e) < e.cells
    then _ else _) = _ at h
  split at h
  · cases h
  next hcells =>
  refine ⟨fun hnone => ?_, Nat.le_of_not_lt hcells⟩
  simp only [hnone, Option.isNone_none, Bool.true_and, decide_eq_true_eq] at hpool
  exact Nat.pos_of_ne_zero hpool

theorem State.entries_put {s : State} {r : RoomId} {e : Entry} {supersede : Bool} (h : s.putCheck r e supersede = none)
    (hs : s.usedEntries ≤ Config.poolEntries) :
    (s.setTimetable r (putTimetable (s.timetable r) e)).usedEntries ≤ Config.poolEntries := by
  obtain ⟨place, -⟩ := State.room_of_putCheck h
  have sum := s.usedEntries_setTimetable r (putTimetable (s.timetable r) e)
  have length := (insertEntry_perm e ((s.timetable r).filter fun x => x.tag != e.tag && !e.clashes x)).length_eq
  have takes := put_takes (fun _ => 1) (s.timetable r) e
  simp only [List.map_const', List.sum_replicate, smul_eq_mul, mul_one] at takes
  rw [List.length_cons] at length
  change (putTimetable (s.timetable r) e).length = _ at length
  unfold State.freeEntries at place
  cases htag : entryOf (s.timetable r) e.tag with
  | none =>
    have := place htag
    omega
  | some x =>
    rw [htag, Option.elim_some] at takes
    omega

theorem State.usedCells_setTimetable (s : State) (r : RoomId) (l : List Entry) :
    (s.setTimetable r l).usedCells + entriesCells (s.timetable r) = s.usedCells + entriesCells l := by
  have sum := s.entryCells_setTimetable r l
  change nameCells s.setup.rooms + (s.setTimetable r l).entryCells + s.noticeCells + _ = _
  unfold State.usedCells
  omega

theorem State.cells_put {s : State} {r : RoomId} {e : Entry} {supersede : Bool} (h : s.putCheck r e supersede = none)
    (hs : s.usedCells ≤ Config.textCells) :
    (s.setTimetable r (putTimetable (s.timetable r) e)).usedCells ≤ Config.textCells := by
  obtain ⟨-, cells⟩ := State.room_of_putCheck h
  have sum := s.usedCells_setTimetable r (putTimetable (s.timetable r) e)
  have stored := entriesCells_perm (insertEntry_perm e ((s.timetable r).filter fun x => x.tag != e.tag && !e.clashes x))
  have takes := put_takes Entry.cells (s.timetable r) e
  rw [← replacedCells_eq] at takes
  change entriesCells (putTimetable (s.timetable r) e) =
    e.cells + entriesCells ((s.timetable r).filter fun x => x.tag != e.tag && !e.clashes x) at stored
  unfold State.freeCells at cells
  unfold entriesCells at *
  omega

/-- R9: the text of a record that a post replaces leaves its cells. -/
theorem State.withoutNotice_cells (s : State) (id : Nat) :
    ((s.withoutNotice id).map fun n => textCellsOf n.text).sum + s.replacedText id ≤ s.noticeCells := by
  have eq : s.replacedText id = (s.noticeOf id).elim 0 fun n => textCellsOf n.text := by
    unfold State.replacedText
    cases s.noticeOf id <;> rfl
  rw [eq]
  unfold State.withoutNotice State.noticeCells State.noticeOf
  induction s.notices with
  | nil => simp
  | cons n l ih =>
    by_cases h : n.id = id
    · have left := (List.filter_sublist (l := l) (p := fun n => n.id != id)).map (fun n => textCellsOf n.text)
        |>.sum_le_sum fun _ _ => Nat.zero_le _
      simp only [List.filter_cons, List.find?_cons, h, bne_self_eq_false, beq_self_eq_true, Bool.false_eq_true, if_false,
        Option.elim_some, List.map_cons, List.sum_cons]
      omega
    · have hbne : (n.id != id) = true := by simpa using h
      have hbeq : (n.id == id) = false := by simpa using h
      simp only [List.filter_cons, List.find?_cons, hbne, hbeq, if_true, List.map_cons, List.sum_cons]
      omega

theorem State.cells_posted {s : State} {f : PostFields} {t : Target} (tied : Bool) (p : Port) (broadcast : Bool)
    (h : s.postCheck f = .ok t) (hs : s.usedCells ≤ Config.textCells) :
    State.usedCells { s with notices := s.withoutNotice f.id ++ [PostFields.notice f t tied p broadcast] } ≤
      Config.textCells := by
  have cells := (State.postCheck_passed h).cells
  have left := s.withoutNotice_cells f.id
  have sum : State.noticeCells { s with notices := s.withoutNotice f.id ++ [PostFields.notice f t tied p broadcast] } =
      ((s.withoutNotice f.id).map fun n => textCellsOf n.text).sum + textCellsOf f.text := by
    simp [State.noticeCells, PostFields.notice]
  change nameCells s.setup.rooms + s.entryCells + State.noticeCells _ ≤ _
  rw [sum]
  unfold State.freeCells at cells
  unfold State.usedCells at *
  omega

/-- R3, check 4: the name that a room takes fits. -/
theorem State.cells_room {s : State} {r : RoomId} {f : RoomFields} (h : s.roomCheck r f = none)
    (hs : s.usedCells ≤ Config.textCells) : (s.setRoomSetup r (RoomFields.setup f)).usedCells ≤ Config.textCells := by
  have names : nameCells (s.setup.rooms.set r (RoomFields.setup f)) + optCellsOf (s.roomSetup r).name =
      nameCells s.setup.rooms + optCellsOf (RoomFields.setup f).name := by
    rw [nameCells_eq, nameCells_eq]
    exact sum_set s.setup.rooms r (RoomFields.setup f) fun x => optCellsOf x.name
  have fits : optCellsOf (RoomFields.setup f).name ≤ s.freeCells + optCellsOf (s.roomSetup r).name := by
    unfold State.roomCheck at h
    unfold RoomFields.setup
    by_cases he : f.enable = 1
    · simp only [he, yesNo?] at h
      split at h
      · cases h
      split at h
      · cases h
      · next hcells => simpa [he, optCellsOf] using hcells
    · simp [he, optCellsOf]
  change nameCells (s.setup.rooms.set r (RoomFields.setup f)) + s.entryCells + s.noticeCells ≤ _
  unfold State.freeCells at fits
  unfold State.usedCells at *
  omega

/-- R5, R179: what a load may apply fits. -/
theorem State.cells_loaded {s : State} (h : s.loadStatus = .ok) (hs : s.usedCells ≤ Config.textCells) :
    ((s.loadRooms s.stored.image).loadSigns s.stored.image).usedCells ≤ Config.textCells := by
  have fits : nameCells s.stored.image.rooms ≤
      s.freeCells + nameCells s.setup.rooms + s.doomedCells s.stored.image := by
    unfold State.loadStatus at h
    dsimp only at h
    split at h
    · cases h
    split at h
    · cases h
    split at h
    · cases h
    · next hcells => exact Nat.le_of_not_lt hcells
  have cells : ((s.loadRooms s.stored.image).loadSigns s.stored.image).entryCells + s.doomedCells s.stored.image =
      s.entryCells := by
    rw [State.entryCells_eq, State.entryCells_eq, State.doomedCells, sum_allRooms, ← Finset.sum_add_distrib]
    refine Finset.sum_congr rfl fun r _ => ?_
    rw [State.loaded_timetable]
    split <;> simp [entriesCells]
  have parts : ((s.loadRooms s.stored.image).loadSigns s.stored.image).usedCells = nameCells s.stored.image.rooms +
      ((s.loadRooms s.stored.image).loadSigns s.stored.image).entryCells + s.noticeCells := by
    rw [State.loaded_frame]
    rfl
  rw [parts]
  unfold State.freeCells at fits
  unfold State.usedCells at *
  omega

theorem StoreLaw.of_eq {s t : State} (hs : StoreLaw s) (setup : t.setup.rooms = s.setup.rooms) (stored : t.stored = s.stored)
    (timetables : t.timetables = s.timetables) (notices : t.notices = s.notices) : StoreLaw t := by
  simpa only [StoreLaw, State.usedEntries, State.usedCells, State.entryCells, State.noticeCells, setup, stored, timetables,
    notices] using hs

/-- R6, R9: entries and notices that are left, or fewer, take no more than before. -/
theorem StoreLaw.of_sublist {s t : State} (hs : StoreLaw s) (setup : t.setup = s.setup) (stored : t.stored = s.stored)
    (timetables : ∀ r, (t.timetable r).Sublist (s.timetable r)) (notices : t.notices.Sublist s.notices) : StoreLaw t := by
  obtain ⟨entries, cells, image⟩ := hs
  have fewer : t.usedEntries ≤ s.usedEntries := by
    rw [State.usedEntries_eq, State.usedEntries_eq]
    exact Finset.sum_le_sum fun r _ => (timetables r).length_le
  have less : t.entryCells ≤ s.entryCells := by
    rw [State.entryCells_eq, State.entryCells_eq]
    exact Finset.sum_le_sum fun r _ => entriesCells_sublist (timetables r)
  have texts : t.noticeCells ≤ s.noticeCells := (notices.map _).sum_le_sum fun _ _ => Nat.zero_le _
  refine ⟨fewer.trans entries, le_trans ?_ cells, stored ▸ image⟩
  unfold State.usedCells
  rw [setup]
  omega

theorem StoreLaw.desk {s t : State} (m : s.DeskMove t) (hs : StoreLaw s) : StoreLaw t := by
  cases m with
  | day isSet h =>
    refine hs.of_sublist rfl rfl (fun r => ?_) (.refl _)
    show ((purged s _)[r]).Sublist _
    rw [purged_timetable]
    exact List.filter_sublist
  | jumped day minute second h =>
    refine hs.of_sublist rfl rfl (fun r => ?_) (.refl _)
    simp only [State.timetable]
    split
    · rw [purged_timetable]
      exact List.filter_sublist
    · exact .refl _
  | unposted keep => exact hs.of_sublist rfl rfl (fun _ => .refl _) List.filter_sublist
  | posted f t tied p broadcast h =>
    obtain ⟨entries, cells, image⟩ := hs
    exact ⟨entries, State.cells_posted tied p broadcast h cells, image⟩
  | put r e supersede enabled h =>
    obtain ⟨entries, cells, image⟩ := hs
    exact ⟨State.entries_put h entries, State.cells_put h cells, image⟩
  | dropped r keep =>
    refine hs.of_sublist rfl rfl (fun k => ?_) (.refl _)
    rw [State.timetable_setTimetable]
    split
    · next e => exact e ▸ List.filter_sublist
    · exact .refl _
  | marked r tag e new p h free =>
    obtain ⟨entries, cells, image⟩ := hs
    have sum := s.usedEntries_setTimetable r (markTimetable (s.timetable r) tag new p)
    have sum' := s.usedCells_setTimetable r (markTimetable (s.timetable r) tag new p)
    have length : (markTimetable (s.timetable r) tag new p).length = (s.timetable r).length := by simp [markTimetable]
    have same : entriesCells (markTimetable (s.timetable r) tag new p) = entriesCells (s.timetable r) := by
      rw [markTimetable_eq, entriesCells, entriesCells, List.map_map]
      exact congrArg List.sum (List.map_congr_left fun x _ => (x.remarked_place tag new p).2.2.2.2)
    exact ⟨by omega, by omega, image⟩
  | room r f h =>
    obtain ⟨entries, cells, image⟩ := hs
    exact ⟨entries, State.cells_room h cells, image⟩
  | settings x rooms signMap lines => exact hs.of_eq rooms rfl rfl rfl
  | stored x h =>
    obtain ⟨entries, cells, image⟩ := hs
    refine ⟨entries, cells, ?_⟩
    rcases h with e | e
    · refine le_trans ?_ cells
      show nameCells x.image.rooms ≤ _
      rw [e, State.usedCells, Nat.add_assoc]
      exact Nat.le_add_right _ _
    · exact e ▸ image
  | cleared => exact hs.of_sublist rfl rfl (fun r => by simp [State.timetable]) (List.nil_sublist _)
  | second | minute | unset => exact hs.of_eq rfl rfl rfl rfl

/-- R1: the rooms of the blank defaults have no names. -/
theorem nameCells_blank : nameCells Setup.blank.rooms = 0 := by
  rw [nameCells_eq]
  exact Finset.sum_eq_zero fun r _ => by simp [Setup.blank, optCellsOf]

theorem StoreLaw.move (s t : State) (m : s.Move t) (hs : StoreLaw s) : StoreLaw t := by
  cases m with
  | aside h =>
    have same := State.alike_of_core h
    exact hs.of_eq (congrArg Setup.rooms same.setup) same.stored same.timetables same.notices
  | desk m => exact hs.desk m
  | floor m => exact hs.of_eq (by rw [m.frame]) (by rw [m.frame]) (by rw [m.frame]) (by rw [m.frame])
  | board r e h => exact hs.of_eq rfl rfl rfl rfl
  | remapped i x h =>
    rw [State.takeOff_frame]
    exact hs.of_eq rfl rfl rfl rfl
  | relined l c n h => exact hs.of_eq rfl rfl rfl rfl
  | loaded h =>
    obtain ⟨entries, cells, image⟩ := hs
    refine ⟨le_trans ?_ entries, State.cells_loaded h cells, by rw [State.loaded_frame]; exact image⟩
    rw [State.usedEntries_eq, State.usedEntries_eq]
    refine Finset.sum_le_sum fun r _ => ?_
    rw [State.loaded_timetable]
    split
    · exact le_rfl
    · exact Nat.zero_le _
  | cold setup store cause baud address programmed h =>
    obtain ⟨-, -, image⟩ := hs
    have names : nameCells setup.rooms ≤ Config.textCells := by
      rcases h with e | e
      · rw [e, nameCells_blank]
        exact Nat.zero_le _
      · rw [e]
        exact image
    refine ⟨?_, ?_, image⟩
    · rw [State.usedEntries_eq, Finset.sum_eq_zero fun r _ => by rw [State.cold_timetable]; rfl]
      exact Nat.zero_le _
    · rw [State.usedCells, State.entryCells_eq, Finset.sum_eq_zero fun r _ => by rw [State.cold_timetable]; rfl]
      exact names

/-- Settles O13: whatever takes entries or cells has passed its check of the free counts, a load its sum over the rooms it keeps,
and the stored image's names were the working setup's. -/
theorem poolAndTextStoreNeverOverrun : Obligations.PoolAndTextStoreNeverOverrun := by
  unfold Obligations.PoolAndTextStoreNeverOverrun
  exact fun s t hs h => step_keeps (fun _ _ h => h) StoreLaw.move hs h

/-! ### The boards -/

/-- R47: a time field whose countdown, if it is one, lies between 1 and 99. -/
def TimeField.Lawful (x : TimeField) : Prop :=
  match x with
  | .countdown n => 1 ≤ n ∧ n ≤ 99
  | _ => True

theorem clampTime_lawful {n : Nat} (m : Nat) (h : 0 < n) : TimeField.Lawful (clampTime n m) := by
  unfold clampTime
  split
  · next hle => exact ⟨h, hle⟩
  · trivial

/-- R42: a current entry has not ended. -/
theorem Entry.isCurrent_ends {t : Nat} {e : Entry} (h : e.isCurrent t = true) : t < e.absEnd := by
  simp only [Entry.isCurrent, Bool.and_eq_true, decide_eq_true_eq] at h
  exact h.2

/-- R43: a next entry has not begun. -/
theorem Entry.follows_starts {ref t : Nat} {e : Entry} (h : e.follows ref t = true) : ref < e.absStart := by
  simp only [Entry.follows, Bool.and_eq_true, decide_eq_true_eq] at h
  exact h.1.2

theorem session_lawful (rs : RoomSetup) (tt : List Entry) (clock : Clock) : TimeField.Lawful (session rs tt clock).time := by
  unfold session
  split
  · dsimp only
    split
    · next c hc =>
      have ends := Entry.isCurrent_ends (List.find?_some hc)
      unfold liveSession
      dsimp only
      split
      · exact clampTime_lawful _ (Nat.sub_pos_of_lt ends)
      · trivial
    · split
      · next n hn =>
        have starts := Entry.follows_starts (List.find?_some hn)
        unfold aheadSession
        dsimp only
        split
        · exact clampTime_lawful _ (Nat.sub_pos_of_lt starts)
        · trivial
      · trivial
  · trivial

theorem evaluation_lawful (rs : RoomSetup) (tt : List Entry) (n : Option Notice) (clock : Clock) :
    TimeField.Lawful (evaluation rs tt n clock).board.time := by
  show TimeField.Lawful (overlay rs.name (session rs tt clock) n).time
  unfold overlay
  split
  · exact session_lawful rs tt clock
  · split
    · trivial
    · exact session_lawful rs tt clock

theorem countdownLaw_iff (s : State) : CountdownLaw s ↔ ∀ r, TimeField.Lawful (s.eval r).board.time := Iff.rfl

theorem CountdownLaw.of_evals {s t : State} (hs : CountdownLaw s) (h : t.evals = s.evals) : CountdownLaw t := by
  simpa only [CountdownLaw, State.eval, h] using hs

/-- The moves of the desk evaluate no room. -/
theorem State.DeskMove.evals {s t : State} (m : s.DeskMove t) : t.evals = s.evals := by
  cases m <;> rfl

theorem CountdownLaw.move (s t : State) (m : s.Move t) (hs : CountdownLaw s) : CountdownLaw t := by
  cases m with
  | aside h => exact hs.of_evals (State.alike_of_core h).evals
  | desk m => exact hs.of_evals m.evals
  | floor m => exact hs.of_evals (by rw [m.frame])
  | board r e h =>
    rw [countdownLaw_iff] at hs ⊢
    intro k
    rw [State.eval_setEval]
    split
    · rcases h with rfl | ⟨rs, tt, n, c, rfl⟩
      · trivial
      · exact evaluation_lawful rs tt n c
    · exact hs k
  | remapped i x h => exact hs.of_evals (by rw [State.takeOff_frame]; rfl)
  | relined l c n h => exact hs.of_evals rfl
  | loaded h =>
    rw [countdownLaw_iff] at hs ⊢
    intro k
    rw [State.loaded_frame]
    simp only [State.eval, Fin.getElem_fin, Vector.getElem_ofFn]
    split
    · exact hs k
    · trivial
  | cold setup store cause baud address programmed h =>
    rw [countdownLaw_iff]
    intro k
    simp [State.eval, State.cold, EvalRecord.disabled, TimeField.Lawful]

/-- Settles O31: only evaluations write countdowns, to an end or a start that lies ahead, clamped at 99. -/
theorem countdownsStayInRange : Obligations.CountdownsStayInRange := by
  unfold Obligations.CountdownsStayInRange
  exact fun s t hs h => step_keeps (fun _ _ h => h) CountdownLaw.move hs h

/-! ### The holder of the grant -/

/-- R73, R77, R79, of the arbiter alone. -/
structure Arbiter.Timed (a : Arbiter) : Prop where
  runs : a.idle.isSome ↔ a.holder.isSome
  bare : a.holder = none → a.rooms = [] ∧ a.staging = []

theorem holderLaw_iff (s : State) : HolderLaw s ↔ s.arb.Timed := ⟨fun ⟨runs, bare⟩ => ⟨runs, bare⟩, fun h => ⟨h.runs, h.bare⟩⟩

theorem Arbiter.Timed.of_held {a : Arbiter} (idle : a.idle.isSome = true) (held : a.holder.isSome = true) : a.Timed :=
  ⟨iff_of_true idle held, fun e => by simp [e] at held⟩

theorem Arbiter.Timed.of_free {a : Arbiter} (idle : a.idle = none) (free : a.holder = none) (rooms : a.rooms = [])
    (staging : a.staging = []) : a.Timed :=
  ⟨by simp [idle, free], fun _ => ⟨rooms, staging⟩⟩

theorem Arbiter.Move.timed {a b : Arbiter} (m : a.Move b) (h : a.Timed) : b.Timed := by
  cases m with
  | restarted n held => exact .of_held rfl held
  | staged l held => exact .of_held (h.runs.2 held) held
  | opened p rooms n free new => exact .of_held rfl rfl
  | queued w held other new => exact .of_held (h.runs.2 held) held
  | released => exact .of_free rfl rfl rfl rfl
  | passed w n waits => exact .of_held rfl rfl
  | counted n => exact ⟨h.runs, h.bare⟩
  | left p => exact ⟨h.runs, h.bare⟩
  | cleared => exact .of_free rfl rfl rfl rfl
  | renewed => exact .of_free rfl rfl rfl rfl

theorem Arbiter.Evolves.timed {a b : Arbiter} (e : a.Evolves b) (h : a.Timed) : b.Timed := by
  induction e with
  | refl => exact h
  | tail _ m ih => exact m.timed ih

/-- Settles O5: each move of the arbiter starts the timer with a holder and stops it without one. -/
theorem idleTimerRunsWhileHeld : Obligations.IdleTimerRunsWhileHeld := by
  unfold Obligations.IdleTimerRunsWhileHeld
  intro s t hs h
  rw [holderLaw_iff] at hs ⊢
  exact (step_evolves h).timed hs

/-! ### Every command completes -/

theorem State.FloorMove.pending {s t : State} (m : s.FloorMove t) : t.pending = s.pending := by rw [m.frame]

theorem State.DeskMove.pending {s t : State} (m : s.DeskMove t) : t.pending = s.pending := by
  cases m <;> rfl

theorem State.Move.pending {s t : State} (m : s.Move t) : t.pending = s.pending := by
  cases m with
  | aside h => exact (State.alike_of_core h).pending
  | desk m => exact m.pending
  | floor m => exact m.pending
  | board r e h => rfl
  | remapped i x h => rw [State.takeOff_frame]; rfl
  | relined l c n h => rfl
  | loaded h => rw [State.loaded_frame]
  | cold setup store cause baud address programmed h => rfl

theorem State.Goes.pending {s t : State} (g : s.Goes t) : t.pending = s.pending := by
  induction g with
  | refl => rfl
  | tail _ m ih => exact m.pending.trans ih

/-- Settles O2: every command is a sequence of moves, and no move reaches the queue. -/
theorem everyCommandCompletesAndKeepsQueue : Obligations.EveryCommandCompletesAndKeepsQueue := by
  unfold Obligations.EveryCommandCompletesAndKeepsQueue
  intro c s
  obtain ⟨t, hexec, goes⟩ := exec_goes s c
  exact ⟨t, hexec, goes.pending⟩

/-- Settles O1: a step takes the front command off the queue and carries it out. -/
theorem stepRunsFrontCommand : Obligations.StepRunsFrontCommand := by
  unfold Obligations.StepRunsFrontCommand
  refine fun s => ⟨fun c rest h => ?_, fun h => ?_⟩
  · simp only [step, h]
  · simp only [step, h]

end Sys2Proof.Machine
end

section
/-! PROOFS. The laws of the lines: budgets, job lists and the dirty queues, each kept by every move; and every law at reset. -/

namespace Sys2Proof.Machine

/-! ### Laws of a line under its settings -/

section LineLaw
variable {P : LineSetup → LineRecord → Prop}

theorem LineRecord.Evolves.keeps {c : LineSetup} {a b : LineRecord} (e : a.Evolves c b)
    (move : ∀ x y : LineRecord, x.Move c y → P c x → P c y) (h : P c a) : P c b := by
  induction e with
  | refl => exact h
  | tail _ m ih => exact move _ _ m ih

/-- R110: out of a queue nothing of a line moves but the queue. -/
theorem LineRecord.leave_thinned (c : LineSetup) (a : LineRecord) (i : SignId) : a.Move c (a.leave i) :=
  Move.thinned (a := a) (b := a.leave i) rfl rfl rfl (List.Sublist.refl _) List.filter_sublist

theorem LineRecord.dropJob_thinned (c : LineSetup) (a : LineRecord) (i : SignId) : a.Move c (a.dropJob i) :=
  Move.thinned (a := a) (b := a.dropJob i) rfl rfl rfl List.filter_sublist (List.Sublist.refl _)

theorem State.leaveQueue_line (s : State) (i : SignId) (k : LineId) :
    (s.leaveQueue i).line k = s.line k ∨ (s.leaveQueue i).line k = (s.line k).leave i := by
  unfold State.leaveQueue
  split
  · exact .inl rfl
  · rw [State.line_updLine]
    split
    · next e => exact .inr (e ▸ rfl)
    · exact .inl rfl

theorem State.takeOff_line (s : State) (i : SignId) (k : LineId) :
    (s.takeOff i).line k = s.line k ∨ (s.takeOff i).line k = ((s.line k).dropJob i).leave i := by
  unfold State.takeOff
  split
  · exact .inl rfl
  · rw [State.line_updLine]
    split
    · next e => exact .inr (e ▸ rfl)
    · exact .inl rfl

/-- R110, R123: a line loses a sign's job, or its place in the queue, or neither. -/
theorem State.leaveQueue_evolves (s : State) (i : SignId) (c : LineSetup) (k : LineId) :
    (s.line k).Evolves c ((s.leaveQueue i).line k) := by
  rcases s.leaveQueue_line i k with e | e
  · rw [e]; exact .refl _ _
  · rw [e]; exact (LineRecord.leave_thinned c _ i).evolves

/-- What a move of the floor does to a line. -/
theorem State.FloorMove.line_evolves {s t : State} (m : s.FloorMove t) (k : LineId) :
    (s.line k).Evolves (s.lineSetup k) (t.line k) ∨
      ∃ i x, s.mapping i = some x ∧ (s.sign i).fault = .none ∧ x.line = k ∧ t = s.updLine k fun ln => ln.join i := by
  cases m with
  | signs v h => exact .inl (.refl _ _)
  | lines v h => exact .inl (h k)
  | queued i x mapped fault =>
    by_cases e : x.line = k
    · subst e; exact .inr ⟨i, x, mapped, fault, rfl, rfl⟩
    · refine .inl ?_
      rw [State.line_updLine, if_neg fun h => e h.symm]
      exact .refl _ _
  | faulted i g h => exact .inl (State.leaveQueue_evolves (s.setSign i g) i _ k)
  | jobFailed l i g h =>
    refine .inl (LineRecord.Evolves.trans ?_ (State.leaveQueue_evolves _ i _ k))
    show LineRecord.Evolves _ _ ((s.updLine l fun ln => ln.dropJob i).line k)
    rw [State.line_updLine]
    split
    · next e => exact e ▸ (LineRecord.dropJob_thinned _ _ i).evolves
    · exact .refl _ _

/-- A law of every line under its settings, kept by the moves of a line and by a sign that joins a queue, by new settings, and by
the emptied queues of a load, and true of a fresh line, is kept by every move. -/
theorem State.Move.keeps_lines {s t : State} (m : s.Move t)
    (move : ∀ (c : LineSetup) (x y : LineRecord), x.Move c y → P c x → P c y)
    (join : ∀ (c : LineSetup) (x : LineRecord) (i : SignId), P c x → P c (x.join i))
    (relined : ∀ (c d : LineSetup) (x : LineRecord) (n : Option Nat), x.inFlight ≤ d.limit → P c x →
      P d { x with budget := clampBudget d.capacity x.budget, interval := n })
    (loaded : ∀ (c : LineSetup) (x : LineRecord) (f : Position → Bool), P c x → P c { x.unlist f with dirty := [] })
    (fresh : ∀ c : LineSetup, P c (.fresh c)) (hs : ∀ l, P (s.lineSetup l) (s.line l)) :
    ∀ l, P (t.lineSetup l) (t.line l) := by
  intro k
  cases m with
  | aside h =>
    have same := State.alike_of_core h
    simpa only [State.lineSetup, State.line, same.setup, same.lines] using hs k
  | desk m =>
    have lines : t.lines = s.lines := by cases m <;> rfl
    have setup : t.setup.lines = s.setup.lines := by
      cases m with
      | settings x rooms signMap same => exact same
      | second | minute | day | unset | jumped | unposted | posted | put | dropped | marked | room | stored | cleared => rfl
    simpa only [State.lineSetup, State.line, setup, lines] using hs k
  | floor m =>
    have setup : t.lineSetup k = s.lineSetup k := by rw [m.frame]; rfl
    rw [setup]
    rcases m.line_evolves k with e | ⟨i, x, -, -, -, rfl⟩
    · exact e.keeps (move _) (hs k)
    · rw [State.line_updLine_self]
      exact join _ _ i (hs k)
  | board r e h => exact hs k
  | remapped i x h =>
    show P (s.takeOff i |>.lineSetup k) ((s.takeOff i).line k)
    have setup : (s.takeOff i).lineSetup k = s.lineSetup k := by rw [State.takeOff_frame]; rfl
    rw [setup]
    rcases s.takeOff_line i k with e | e
    · rw [e]; exact hs k
    · rw [e]; exact move _ _ _ (LineRecord.leave_thinned _ _ i) (move _ _ _ (LineRecord.dropJob_thinned _ _ i) (hs k))
  | relined l c n h =>
    rw [State.line_updLine, State.updLine_lineSetup, State.lineSetup_setLineSetup]
    split
    · next e => exact relined _ c _ n (e ▸ h) (hs k)
    · exact hs k
  | loaded h =>
    rw [State.loaded_frame]
    have line : (Vector.ofFn fun l : LineId => { (s.line l).unlist (s.stored.image.places l) with dirty := [] })[k] =
        { (s.line k).unlist (s.stored.image.places k) with dirty := [] } := by simp
    show P (s.lineSetup k) (Vector.ofFn fun l : LineId => _)[k]
    rw [line]
    exact loaded _ _ _ (hs k)
  | cold setup store cause baud address programmed h =>
    have line : (setup.lines.map LineRecord.fresh)[k] = .fresh setup.lines[k] := by simp
    show P setup.lines[k] (setup.lines.map LineRecord.fresh)[k]
    rw [line]
    exact fresh _

end LineLaw

/-! ### Budgets -/

/-- R118, of a line. -/
def LineRecord.Solvent (c : LineSetup) (a : LineRecord) : Prop :=
  -(c.capacity : Int) ≤ a.budget ∧ a.budget ≤ (c.capacity : Int)

/-- R120: what a start takes leaves the budget in its range. -/
theorem startCandidate_budget {c : LineSetup} {a : LineRecord} {j : Job} (h : startCandidate c a = some j) :
    -(c.capacity : Int) ≤ a.budget - ((j.effective c.capacity : Nat) : Int) := by
  have plain (h : plainCandidate c a = some j) : -(c.capacity : Int) ≤ a.budget - ((j.effective c.capacity : Nat) : Int) := by
    unfold plainCandidate at h
    split at h
    · cases h
    · split at h
      · next hle => cases h; omega
      · cases h
  unfold startCandidate at h
  split at h
  · split at h
    · exact plain h
    · split at h
      · next hle => exact Option.some.inj h ▸ hle
      · exact plain h
  · cases h

theorem LineRecord.join_budget (a : LineRecord) (i : SignId) : (a.join i).budget = a.budget := by
  unfold LineRecord.join
  split <;> rfl

theorem LineRecord.Solvent.move (c : LineSetup) (a b : LineRecord) (m : a.Move c b) (h : a.Solvent c) : b.Solvent c := by
  cases m with
  | thinned mode hold budget jobs dirty => rw [LineRecord.Solvent, budget]; exact h
  | joined i hi => rw [LineRecord.Solvent, LineRecord.join_budget]; exact h
  | started j f hj sign state => exact ⟨startCandidate_budget hj, (Int.sub_le_self _ (Int.natCast_nonneg _)).trans h.2⟩
  | refilled =>
    have up : refillBudget c a.budget = min (a.budget + c.refill) c.capacity := rfl
    obtain ⟨low, high⟩ := h
    constructor
    · show _ ≤ refillBudget c a.budget
      omega
    · show refillBudget c a.budget ≤ _
      omega
  | retouched | created | refreshed | woken | activated | stopped | counted => exact h

/-- Settles O6: a start takes what its check leaves room for, a refill stops at the capacity, and new settings clamp. -/
theorem budgetStaysInRange : Obligations.BudgetStaysInRange := by
  unfold Obligations.BudgetStaysInRange
  refine fun s t hs h => step_keeps (P := BudgetLaw) (fun _ _ h => h) (fun u v m hu => ?_) hs h
  refine m.keeps_lines (P := fun c a => a.Solvent c) LineRecord.Solvent.move (fun c a i ha => ?_) (fun c d a n _ _ => ?_)
    (fun c a f ha => ha) (fun c => ?_) hu
  · rw [LineRecord.Solvent, LineRecord.join_budget]
    exact ha
  · have clamp : clampBudget d.capacity a.budget = max (-(d.capacity : Int)) (min a.budget d.capacity) := rfl
    constructor
    · show _ ≤ clampBudget d.capacity a.budget
      omega
    · show clampBudget d.capacity a.budget ≤ _
      omega
  · constructor
    · show -(c.capacity : Int) ≤ (c.capacity : Int)
      omega
    · exact le_rfl

/-! ### Job lists -/

theorem LineRecord.join_mode (a : LineRecord) (i : SignId) : (a.join i).mode = a.mode := by
  unfold LineRecord.join
  split <;> rfl

theorem LineRecord.join_hold (a : LineRecord) (i : SignId) : (a.join i).hold = a.hold := by
  unfold LineRecord.join
  split <;> rfl

theorem LineRecord.join_jobs (a : LineRecord) (i : SignId) : (a.join i).jobs = a.jobs := by
  unfold LineRecord.join
  split <;> rfl

/-- R111: mode, hold and jobs as before, or fewer jobs, and the law stays. -/
theorem LineRecord.Lawful.of_sublist {c : LineSetup} {a b : LineRecord} (h : a.Lawful c) (mode : b.mode = a.mode)
    (hold : b.hold = a.hold) (jobs : b.jobs.Sublist a.jobs) : b.Lawful c where
  places := jobs.length_le.trans h.places
  once := h.once.sublist (jobs.map _)
  limit := (jobs.countP_le).trans h.limit
  sending := (jobs.countP_le).trans h.sending
  active hm := Nat.le_zero.1 (h.active (mode ▸ hm) ▸ jobs.countP_le)
  held hh := mode ▸ h.held (hold ▸ hh)

theorem LineRecord.Lawful.join {c : LineSetup} {a : LineRecord} (h : a.Lawful c) (i : SignId) : (a.join i).Lawful c :=
  h.of_sublist (a.join_mode i) (a.join_hold i) (a.join_jobs i ▸ .refl _)

/-- R111: a line without jobs in flight on a mode and hold that fit each other. -/
theorem LineRecord.Lawful.of_idle {c : LineSetup} {a b : LineRecord} (h : a.Lawful c) (jobs : b.jobs = a.jobs)
    (idle : a.inFlight = 0) (held : b.hold ≠ .none → b.mode = .tripped) : b.Lawful c where
  places := jobs ▸ h.places
  once := jobs ▸ h.once
  limit := by rw [LineRecord.inFlight, jobs]; exact h.limit
  sending := jobs ▸ h.sending
  active _ := by rw [LineRecord.inFlight, jobs]; exact idle
  held := held

/-- A sign's jobs change; where no sign has two jobs, that is one job. -/
theorem LineRecord.countP_updJob {a : LineRecord} {i : SignId} {j : Job} (f : Job → Job) (p : Job → Bool)
    (once : (a.jobs.map Job.sign).Nodup) (h : j ∈ a.jobs) (hi : j.sign = i) :
    (a.updJob i f).jobs.countP p + (if p j then 1 else 0) = a.jobs.countP p + if p (f j) then 1 else 0 := by
  subst hi
  obtain ⟨before, after, hjobs⟩ := List.append_of_mem h
  have other : ∀ x ∈ before ++ after, x.sign ≠ j.sign := by
    rw [hjobs, List.map_append, List.map_cons, List.nodup_append] at once
    obtain ⟨-, cons, apart⟩ := once
    intro x hx e
    rcases List.mem_append.1 hx with hx | hx
    · exact apart _ (List.mem_map_of_mem hx) _ List.mem_cons_self e
    · exact (List.nodup_cons.1 cons).1 (e ▸ List.mem_map_of_mem hx)
  have still (l : List Job) (hl : ∀ x ∈ l, x.sign ≠ j.sign) :
      l.map (fun x => if x.sign == j.sign then f x else x) = l := by
    refine (List.map_congr_left fun x hx => ?_).trans (List.map_id l)
    simp [hl x hx]
  have changed : (a.updJob j.sign f).jobs = before ++ f j :: after := by
    show a.jobs.map _ = _
    rw [hjobs, List.map_append, List.map_cons, still before fun x hx => other x (List.mem_append_left _ hx),
      still after fun x hx => other x (List.mem_append_right _ hx)]
    simp
  rw [changed, hjobs]
  simp only [List.countP_append, List.countP_cons]
  omega

theorem LineRecord.updJob_signs (a : LineRecord) (i : SignId) (f : Job → Job) (sign : ∀ x, (f x).sign = x.sign) :
    (a.updJob i f).jobs.map Job.sign = a.jobs.map Job.sign := by
  show (a.jobs.map _).map Job.sign = _
  rw [List.map_map]
  refine List.map_congr_left fun x _ => ?_
  simp only [Function.comp_apply]
  split
  · exact sign x
  · rfl

/-- R120: the line on which a job starts is ACTIVE, with no job SENDING and room in flight; the job is one of its READY jobs. -/
theorem startCandidate_some {c : LineSetup} {a : LineRecord} {j : Job} (h : startCandidate c a = some j) :
    (a.mode = .active ∧ a.jobs.countP Job.isSending = 0 ∧ a.inFlight < c.limit) ∧ j ∈ a.jobs ∧ j.state = .ready := by
  have ready {p : Job → Bool} (hp : ∀ x, p x = true → x.isReady = true) (hf : a.jobs.find? p = some j) :
      j ∈ a.jobs ∧ j.state = .ready :=
    ⟨List.mem_of_find?_eq_some hf, by simpa [Job.isReady] using hp j (List.find?_some hf)⟩
  have plain (h : plainCandidate c a = some j) : j ∈ a.jobs ∧ j.state = .ready := by
    unfold plainCandidate at h
    split at h
    · cases h
    · next hf =>
      split at h
      · cases h; exact ready (fun x hx => (Bool.and_eq_true _ _ ▸ hx : _ ∧ _).1) hf
      · cases h
  unfold startCandidate at h
  split at h
  · next hmay =>
    simp only [lineMayStart, Bool.and_eq_true, beq_iff_eq, decide_eq_true_eq, Bool.not_eq_true'] at hmay
    obtain ⟨⟨⟨mode, -⟩, sending⟩, limit⟩ := hmay
    refine ⟨⟨mode, List.countP_eq_zero.2 (List.any_eq_false.1 sending), limit⟩, ?_⟩
    split at h
    · exact plain h
    · next hf =>
      split at h
      · cases h; exact ready (fun x hx => (Bool.and_eq_true _ _ ▸ hx : _ ∧ _).1) hf
      · exact plain h
  · cases h

/-- R132: a line that is held, QUIET or OFF has no job in flight. -/
theorem LineRecord.Lawful.idle_of_woken {c : LineSetup} {a : LineRecord} (h : a.Lawful c)
    (down : a.hold ≠ .none ∨ a.mode = .quiet ∨ a.mode = .off) : a.inFlight = 0 := by
  refine h.active fun active => ?_
  rcases down with held | quiet | off
  · have := h.held held
    simp [active] at this
  · simp [active] at quiet
  · simp [active] at off

theorem LineRecord.Lawful.started {c : LineSetup} {a : LineRecord} (h : a.Lawful c) {j : Job} {f : Job → Job} (b : Int)
    (hj : startCandidate c a = some j) (sign : ∀ x, (f x).sign = x.sign) (state : ∀ x, (f x).state = .sending) :
    LineRecord.Lawful { a.updJob j.sign f with budget := b } c := by
  obtain ⟨⟨mode, sending, limit⟩, mem, ready⟩ := startCandidate_some hj
  have flying := LineRecord.countP_updJob f Job.inFlight h.once mem rfl
  have sent := LineRecord.countP_updJob f Job.isSending h.once mem rfl
  simp only [Job.inFlight, Job.isSending, ready, state] at flying sent
  refine ⟨?_, (a.updJob_signs j.sign f sign).symm ▸ h.once, ?_, ?_, fun other => absurd mode other, h.held⟩
  · show (a.jobs.map _).length ≤ _
    rw [List.length_map]
    exact h.places
  · have : (a.updJob j.sign f).jobs.countP Job.inFlight = a.jobs.countP Job.inFlight + 1 := by simpa using flying
    exact this.trans_le limit
  · have : (a.updJob j.sign f).jobs.countP Job.isSending = a.jobs.countP Job.isSending + 1 := by simpa using sent
    exact (this.trans (by rw [sending])).le

theorem LineRecord.Lawful.refreshed {c : LineSetup} {a : LineRecord} (h : a.Lawful c) {j : Job} {i : SignId} {f : Job → Job}
    (hj : a.jobOf i = some j) (sending : j.state = .sending) (sign : ∀ x, (f x).sign = x.sign)
    (state : ∀ x, (f x).state = .refreshing) : (a.updJob i f).Lawful c := by
  obtain ⟨mem, hi⟩ := LineRecord.mem_of_jobOf hj
  have flying := LineRecord.countP_updJob f Job.inFlight h.once mem hi
  have sent := LineRecord.countP_updJob f Job.isSending h.once mem hi
  simp only [Job.inFlight, Job.isSending, sending, state] at flying sent
  have same : (a.updJob i f).inFlight = a.inFlight := by simpa [LineRecord.inFlight] using flying
  refine ⟨?_, (a.updJob_signs i f sign).symm ▸ h.once, same ▸ h.limit, ?_, fun other => same ▸ h.active other, h.held⟩
  · show (a.jobs.map _).length ≤ _
    rw [List.length_map]
    exact h.places
  · have : (a.updJob i f).jobs.countP Job.isSending + 1 = a.jobs.countP Job.isSending := by simpa using sent
    exact (Nat.le_of_succ_le this.le).trans h.sending

theorem LineRecord.Lawful.move (c : LineSetup) (a b : LineRecord) (m : a.Move c b) (h : a.Lawful c) : b.Lawful c := by
  cases m with
  | thinned mode hold budget jobs dirty => exact h.of_sublist mode hold jobs
  | joined i hi => exact h.join i
  | retouched f sign state =>
    have count (p : Job → Bool) (hp : ∀ x, p (f x) = p x) : (a.jobs.map f).countP p = a.jobs.countP p := by
      rw [List.countP_map]
      exact List.countP_congr fun x _ => by simp [hp]
    have flying := count Job.inFlight fun x => by simp only [Job.inFlight, state]
    have sent := count Job.isSending fun x => by simp only [Job.isSending, state]
    refine ⟨?_, ?_, flying.trans_le h.limit, sent ▸ h.sending, fun hm => flying.trans (h.active hm), h.held⟩
    · show (a.jobs.map f).length ≤ _
      rw [List.length_map]
      exact h.places
    · show ((a.jobs.map f).map Job.sign).Nodup
      have same : a.jobs.map (Job.sign ∘ f) = a.jobs.map Job.sign := List.map_congr_left fun x _ => sign x
      rw [List.map_map, same]
      exact h.once
  | created j room queued first ready =>
    have count (p : Job → Bool) (hp : p j = false) : (a.jobs ++ [j]).countP p = a.jobs.countP p := by
      simp [List.countP_append, hp]
    have flying := count Job.inFlight (by simp [Job.inFlight, ready])
    have sent := count Job.isSending (by simp [Job.isSending, ready])
    refine ⟨?_, ?_, flying.trans_le h.limit, sent ▸ h.sending, fun hm => flying.trans (h.active hm), h.held⟩
    · show (a.jobs ++ [j]).length ≤ _
      rw [List.length_append]
      exact room
    · show ((a.jobs ++ [j]).map Job.sign).Nodup
      rw [List.map_append, List.nodup_append]
      refine ⟨h.once, List.nodup_singleton _, fun x hx y hy e => first ?_⟩
      rw [← List.mem_singleton.1 hy, ← e]
      exact hx
  | started j f hj sign state => exact h.started _ hj sign state
  | refreshed j i f hj sending sign state => exact h.refreshed hj sending sign state
  | refilled => exact h.of_sublist rfl rfl (.refl _)
  | woken down => exact h.of_idle rfl (h.idle_of_woken down) fun held => absurd rfl held
  | activated waking =>
    refine h.of_idle rfl (h.active (by simp [waking])) fun held => ?_
    have := h.held held
    simp [waking] at this
  | stopped mode hold idle fits =>
    refine h.of_idle rfl idle fun held => ?_
    rcases fits with none | tripped | ⟨same, active⟩
    · exact absurd none held
    · exact tripped
    · have := h.held (same ▸ held)
      simp [active] at this
  | counted n held =>
    refine ⟨h.places, h.once, h.limit, h.sending, h.active, fun _ => h.held held⟩

/-- Settles O7: a job is made in a free place for a sign that has none, starts only where the start rule has it, and a line stops
or is held only once its jobs in flight are gone. -/
theorem jobListLawKept : Obligations.JobListLawKept := by
  unfold Obligations.JobListLawKept
  refine fun s t hs h => step_keeps (P := JobListLaw) (fun _ _ h => h) (fun u v m hu => ?_) hs h
  refine m.keeps_lines (P := fun c a => a.Lawful c) LineRecord.Lawful.move (fun c a i ha => ha.join i)
    (fun c d a n limit ha => ?_) (fun c a f ha => ha.of_sublist rfl rfl (.refl _)) (fun c => ?_) hu
  · exact ⟨ha.places, ha.once, limit, ha.sending, ha.active, ha.held⟩
  · exact ⟨Nat.zero_le _, List.nodup_nil, Nat.zero_le _, Nat.zero_le _, fun _ => rfl, fun held => absurd rfl held⟩

/-! ### Dirty queues -/

/-- R110: the sign is in the line's queue, or has a job there. -/
def LineRecord.Tends (a : LineRecord) (i : SignId) : Prop := i ∈ a.dirty ∨ i ∈ a.jobs.map Job.sign

theorem LineRecord.join_nodup {a : LineRecord} (h : a.dirty.Nodup) (i : SignId) : (a.join i).dirty.Nodup := by
  unfold LineRecord.join
  split
  · exact h
  · next hi =>
    show (a.dirty ++ [i]).Nodup
    refine List.nodup_append.2 ⟨h, List.nodup_singleton _, fun x hx y hy e => ?_⟩
    rw [List.mem_singleton.1 hy] at e
    exact hi (by simpa using e ▸ hx)

theorem LineRecord.tends_join {a : LineRecord} {i k : SignId} : (a.join i).Tends k ↔ a.Tends k ∨ k = i := by
  unfold LineRecord.Tends
  rw [LineRecord.mem_join, LineRecord.join_jobs]
  tauto

theorem LineRecord.Tends.of_sublist {a b : LineRecord} {k : SignId} (jobs : b.jobs.Sublist a.jobs)
    (dirty : b.dirty.Sublist a.dirty) (h : b.Tends k) : a.Tends k :=
  h.imp (dirty.subset ·) ((jobs.map _).subset ·)

/-- R110, R113: a move of a line brings no sign that was in neither queue nor list. -/
theorem LineRecord.Move.tends {c : LineSetup} {a b : LineRecord} (m : a.Move c b) (h : a.dirty.Nodup) :
    b.dirty.Nodup ∧ ∀ k, b.Tends k → a.Tends k := by
  cases m with
  | thinned mode hold budget jobs dirty => exact ⟨h.sublist dirty, fun k => .of_sublist jobs dirty⟩
  | joined i hi =>
    exact ⟨LineRecord.join_nodup h i, fun k hk => (LineRecord.tends_join.1 hk).elim id fun e => e ▸ hi⟩
  | retouched f sign state =>
    have signs : (a.jobs.map f).map Job.sign = a.jobs.map Job.sign := by
      rw [List.map_map]
      exact List.map_congr_left fun x _ => sign x
    exact ⟨h, fun k hk => hk.imp id fun hk => signs ▸ hk⟩
  | created j room queued first ready =>
    refine ⟨h.sublist List.filter_sublist, fun k hk => ?_⟩
    rcases hk with hk | hk
    · exact .inl (List.mem_filter.1 hk).1
    · change k ∈ (a.jobs ++ [j]).map Job.sign at hk
      rw [List.map_append, List.mem_append] at hk
      rcases hk with hk | hk
      · exact .inr hk
      · exact .inl (List.mem_singleton.1 hk ▸ queued)
  | started j f hj sign state => exact ⟨h, fun k hk => hk.imp id fun hk => a.updJob_signs j.sign f sign ▸ hk⟩
  | refreshed j i f hj sending sign state => exact ⟨h, fun k hk => hk.imp id fun hk => a.updJob_signs i f sign ▸ hk⟩
  | refilled | woken | activated | stopped | counted => exact ⟨h, fun _ hk => hk⟩

theorem LineRecord.Evolves.tends {c : LineSetup} {a b : LineRecord} (e : a.Evolves c b) (h : a.dirty.Nodup) :
    b.dirty.Nodup ∧ ∀ k, b.Tends k → a.Tends k := by
  induction e with
  | refl => exact ⟨h, fun _ hk => hk⟩
  | tail _ m ih =>
    obtain ⟨nodup, tends⟩ := ih
    obtain ⟨nodup', tends'⟩ := m.tends nodup
    exact ⟨nodup', fun k hk => tends k (tends' k hk)⟩

theorem deliveryLaw_iff (s : State) : DeliveryLaw s ↔ (∀ l, (s.line l).dirty.Nodup) ∧
    ∀ l i, (s.line l).Tends i → (∃ m, s.mapping i = some m ∧ m.line = l) ∧ (s.sign i).fault = .none := Iff.rfl

/-- R95, R110: lines that tend no more signs than before, with the mapping and the fault of those they tend as before. -/
theorem DeliveryLaw.of_tends {s t : State} (hs : DeliveryLaw s) (nodup : ∀ l, (t.line l).dirty.Nodup)
    (tends : ∀ l i, (t.line l).Tends i → (s.line l).Tends i ∧ t.mapping i = s.mapping i ∧
      ((t.sign i).fault = (s.sign i).fault ∨ (t.sign i).fault = .none)) : DeliveryLaw t := by
  refine ⟨nodup, fun l i hi => ?_⟩
  obtain ⟨was, mapping, fault⟩ := tends l i hi
  obtain ⟨mapped, sound⟩ := hs.2 l i was
  exact ⟨mapping ▸ mapped, fault.elim (fun e => e.trans sound) id⟩

theorem DeliveryLaw.of_eq {s t : State} (hs : DeliveryLaw s) (map : t.setup.signMap = s.setup.signMap)
    (signs : t.signs = s.signs) (lines : t.lines = s.lines) : DeliveryLaw t := by
  simpa only [DeliveryLaw, State.line, State.mapping, State.sign, map, signs, lines] using hs

theorem State.DeskMove.floor_eq {s t : State} (m : s.DeskMove t) :
    t.setup.signMap = s.setup.signMap ∧ t.signs = s.signs ∧ t.lines = s.lines := by
  cases m with
  | settings x rooms signMap lines => exact ⟨signMap, rfl, rfl⟩
  | second | minute | day | unset | jumped | unposted | posted | put | dropped | marked | room | stored | cleared =>
    exact ⟨rfl, rfl, rfl⟩

/-- R110: a sign out of the queue of its line, with no job there, is tended by no line. -/
theorem DeliveryLaw.out {s : State} (hs : DeliveryLaw s) {i : SignId} {u : State} (lines : ∀ l, (u.line l).Tends i → (s.line l).Tends i)
    (map : ∀ k, u.mapping k = s.mapping k) (job : ∀ m, s.mapping i = some m → i ∉ (u.line m.line).jobs.map Job.sign) (l : LineId) :
    ¬ ((u.leaveQueue i).line l).Tends i := by
  intro hi
  have back : (u.line l).Tends i := by
    rcases u.leaveQueue_line i l with e | e
    · exact e ▸ hi
    · rw [e] at hi
      exact hi.imp (fun h => (List.mem_filter.1 h).1) id
  obtain ⟨⟨m, hm, rfl⟩, -⟩ := hs.2 l i (lines l back)
  rw [State.leaveQueue, map, hm] at hi
  dsimp only at hi
  rw [State.line_updLine_self] at hi
  rcases hi with hi | hi
  · simp [LineRecord.leave] at hi
  · exact job m hm hi

theorem DeliveryLaw.floor {s t : State} (m : s.FloorMove t) (hs : DeliveryLaw s) : DeliveryLaw t := by
  have left (u : State) (i k : SignId) (l : LineId) (h : ((u.leaveQueue i).line l).Tends k) : (u.line l).Tends k := by
    rcases u.leaveQueue_line i l with e | e
    · exact e ▸ h
    · rw [e] at h
      exact h.imp (fun h => (List.mem_filter.1 h).1) id
  have kept (u : State) (i : SignId) (l : LineId) (h : (u.line l).dirty.Nodup) : ((u.leaveQueue i).line l).dirty.Nodup := by
    rcases u.leaveQueue_line i l with e | e
    · exact e.symm ▸ h
    · rw [e]; exact h.sublist List.filter_sublist
  cases m with
  | signs v h => exact hs.of_tends hs.1 fun l i hi => ⟨hi, rfl, h i⟩
  | lines v h =>
    exact hs.of_tends (fun l => ((h l).tends (hs.1 l)).1) fun l i hi => ⟨((h l).tends (hs.1 l)).2 i hi, rfl, .inl rfl⟩
  | queued i m mapped fault =>
    refine ⟨fun l => ?_, fun l k hk => ?_⟩
    · rw [State.line_updLine]
      split
      · exact LineRecord.join_nodup (hs.1 _) i
      · exact hs.1 l
    · rw [State.line_updLine] at hk
      split at hk
      · next e =>
        rcases LineRecord.tends_join.1 hk with hk | rfl
        · exact hs.2 l k hk
        · exact ⟨⟨m, mapped, e.symm⟩, fault⟩
      · exact hs.2 l k hk
  | faulted i g h =>
    have gone := hs.out (u := s.setSign i g) (fun _ hl => hl) (fun _ => rfl)
      (fun m hm => LineRecord.jobOf_eq_none.1 (h m hm))
    refine hs.of_tends (fun l => kept _ i l (hs.1 l)) fun l k hk => ⟨left (s.setSign i g) i k l hk, ?_, .inl ?_⟩
    · rw [State.leaveQueue_frame]; rfl
    · have hne : k ≠ i := fun e => gone l (e ▸ hk)
      rw [State.leaveQueue_frame]
      show ((s.setSign i g).sign k).fault = _
      rw [State.sign_setSign, if_neg hne]
  | jobFailed l₀ i g h =>
    obtain ⟨⟨m, hm, line⟩, -⟩ := hs.2 l₀ i (.inr h)
    have fewer (l : LineId) (k : SignId) (hk : (((s.updLine l₀ fun ln => ln.dropJob i).setSign i g).line l).Tends k) :
        (s.line l).Tends k := by
      change ((s.updLine l₀ fun ln => ln.dropJob i).line l).Tends k at hk
      rw [State.line_updLine] at hk
      split at hk
      · exact LineRecord.Tends.of_sublist (a := s.line l) (b := (s.line l).dropJob i) List.filter_sublist (.refl _) hk
      · exact hk
    have gone := hs.out (u := (s.updLine l₀ fun ln => ln.dropJob i).setSign i g) (fun l hl => fewer l i hl) (fun _ => rfl)
      fun n hn => by
        rw [hm] at hn
        rw [← Option.some.inj hn, line]
        show i ∉ ((s.updLine l₀ fun ln => ln.dropJob i).line l₀).jobs.map Job.sign
        rw [State.line_updLine_self]
        simp [LineRecord.dropJob]
    refine hs.of_tends (fun l => kept _ i l ?_) fun l k hk => ⟨fewer l k (left _ i k l hk), ?_, .inl ?_⟩
    · show ((s.updLine l₀ fun ln => ln.dropJob i).line l).dirty.Nodup
      rw [State.line_updLine]
      split
      · exact hs.1 l
      · exact hs.1 l
    · rw [State.leaveQueue_frame]; rfl
    · have hne : k ≠ i := fun e => gone l (e ▸ hk)
      rw [State.leaveQueue_frame]
      show (((s.updLine l₀ fun ln => ln.dropJob i).setSign i g).sign k).fault = _
      rw [State.sign_setSign, if_neg hne]
      rfl

/-- R102, R103: a sign that is taken off its line is tended by no line. -/
theorem DeliveryLaw.takeOff_out {s : State} (hs : DeliveryLaw s) (i : SignId) (l : LineId) : ¬ ((s.takeOff i).line l).Tends i := by
  intro hi
  have back : (s.line l).Tends i := by
    rcases s.takeOff_line i l with e | e
    · exact e ▸ hi
    · rw [e] at hi
      exact LineRecord.Tends.of_sublist List.filter_sublist List.filter_sublist hi
  obtain ⟨⟨m, hm, rfl⟩, -⟩ := hs.2 l i back
  rw [State.takeOff, hm] at hi
  dsimp only at hi
  rw [State.line_updLine_self] at hi
  rcases hi with hi | hi
  · simp [LineRecord.leave] at hi
  · obtain ⟨j, hj, e⟩ := List.mem_map.1 hi
    exact bne_iff_ne.1 (List.mem_filter.1 hj).2 e

theorem DeliveryLaw.remapped {s : State} (hs : DeliveryLaw s) (i : SignId) (x : Option Mapping) :
    DeliveryLaw ((s.takeOff i).setMapping i x) := by
  have line (l : LineId) : ((s.takeOff i).setMapping i x).line l = (s.takeOff i).line l := rfl
  refine hs.of_tends (fun l => ?_) fun l k hk => ?_
  · rw [line]
    rcases s.takeOff_line i l with e | e
    · rw [e]; exact hs.1 l
    · rw [e]; exact (hs.1 l).sublist List.filter_sublist
  · rw [line] at hk
    have hne : k ≠ i := fun e => hs.takeOff_out i l (e ▸ hk)
    refine ⟨?_, ?_, .inl ?_⟩
    · rcases s.takeOff_line i l with e | e
      · exact e ▸ hk
      · rw [e] at hk
        exact LineRecord.Tends.of_sublist List.filter_sublist List.filter_sublist hk
    · rw [State.mapping_setMapping, if_neg hne, State.takeOff_frame]
      rfl
    · rw [State.takeOff_frame]
      rfl

theorem DeliveryLaw.move (s t : State) (m : s.Move t) (hs : DeliveryLaw s) : DeliveryLaw t := by
  cases m with
  | aside h =>
    have same := State.alike_of_core h
    exact hs.of_eq (congrArg Setup.signMap same.setup) same.signs same.lines
  | desk m =>
    obtain ⟨map, signs, lines⟩ := m.floor_eq
    exact hs.of_eq map signs lines
  | floor m => exact hs.floor m
  | board r e h => exact hs.of_eq rfl rfl rfl
  | remapped i x h => exact hs.remapped i x
  | relined l c n h =>
    have line (k : LineId) : (((s.setLineSetup l c).updLine l fun ln =>
        { ln with budget := clampBudget c.capacity ln.budget, interval := n }).line k).dirty = (s.line k).dirty ∧
        (((s.setLineSetup l c).updLine l fun ln =>
        { ln with budget := clampBudget c.capacity ln.budget, interval := n }).line k).jobs = (s.line k).jobs := by
      rw [State.line_updLine]
      split
      · next e => exact e ▸ ⟨rfl, rfl⟩
      · exact ⟨rfl, rfl⟩
    refine hs.of_tends (fun k => (line k).1.symm ▸ hs.1 k) fun k i hi => ⟨?_, rfl, .inl rfl⟩
    rw [LineRecord.Tends, (line k).1, (line k).2] at hi
    exact hi
  | loaded h =>
    have jobless := State.jobless_of_anyJob (State.anyJob_of_loadStatus h)
    have line (l : LineId) : ((s.loadRooms s.stored.image).loadSigns s.stored.image).line l =
        { (s.line l).unlist (s.stored.image.places l) with dirty := [] } := by
      rw [State.loaded_frame]
      simp [State.line]
    refine ⟨fun l => by rw [line]; exact List.nodup_nil, fun l i hi => ?_⟩
    rw [line] at hi
    rcases hi with hi | hi
    · exact absurd hi List.not_mem_nil
    · change i ∈ (s.line l).jobs.map Job.sign at hi
      rw [jobless l] at hi
      exact absurd hi List.not_mem_nil
  | cold setup store cause baud address programmed h =>
    have line (l : LineId) : (State.cold s.stored setup store cause baud address programmed s.pending).line l =
        .fresh setup.lines[l] := by
      simp [State.line, State.cold]
    refine ⟨fun l => by rw [line]; exact List.nodup_nil, fun l i hi => ?_⟩
    rw [line] at hi
    exact hi.elim (fun h => absurd h List.not_mem_nil) fun h => absurd h List.not_mem_nil

/-- Settles O12: a sign comes to a queue mapped and without a fault or from the line's own list, and leaves queue and list with
its fault or its mapping. -/
theorem latchedSignsStayOut : Obligations.LatchedSignsStayOut := by
  unfold Obligations.LatchedSignsStayOut
  exact fun s t hs h => step_keeps (fun _ _ h => h) DeliveryLaw.move hs h

/-! ### At reset -/

/-- R6, R9: the blank hub uses no entries and no cells. -/
theorem storeLaw_reset : StoreLaw State.reset := by
  have entries : State.reset.usedEntries = 0 := by
    rw [State.usedEntries_eq]
    exact Finset.sum_eq_zero fun r _ => by rw [State.reset, State.cold_timetable]; rfl
  have cells : State.reset.usedCells = 0 := by
    rw [State.usedCells, State.entryCells_eq, Finset.sum_eq_zero fun r _ => by rw [State.reset, State.cold_timetable]; rfl]
    exact congrArg (· + 0 + 0) nameCells_blank
  exact ⟨entries ▸ Nat.zero_le _, cells ▸ Nat.zero_le _, nameCells_blank ▸ Nat.zero_le _⟩

theorem State.reset_line (l : LineId) : State.reset.line l = .fresh (State.reset.lineSetup l) := by
  simp [State.line, State.reset, State.cold, State.lineSetup]

/-- Settles O14: at reset clock, arbiter, tables and queues are empty, and every line has its fresh record. -/
theorem lawsHoldAtReset : Obligations.LawsHoldAtReset := by
  unfold Obligations.LawsHoldAtReset
  refine ⟨.of_unset rfl, (grantLaw_iff _).2 ⟨fun _ hw => (nomatch hw), Nat.zero_le 2, List.nodup_nil⟩,
    (holderLaw_iff _).2 (.of_free rfl rfl rfl rfl), fun l => ?_, fun l => ?_, .of_none rfl, ?_, .of_unset rfl,
    ⟨Setup.blank_lawful, Setup.blank_lawful, fun r _ => State.cold_timetable ..⟩, ⟨fun l => ?_, fun l i hi => ?_⟩,
    storeLaw_reset, ?_⟩
  · rw [State.reset_line]
    exact ⟨(neg_nonpos.2 (Int.natCast_nonneg _)).trans (Int.natCast_nonneg _), le_rfl⟩
  · rw [State.reset_line]
    exact ⟨Nat.zero_le _, List.nodup_nil, Nat.zero_le _, Nat.zero_le _, fun _ => rfl, fun held => absurd rfl held⟩
  · exact (timetableLaw_iff _).2 fun r => by rw [State.reset, State.cold_timetable]; exact .nil
  · rw [State.reset_line]
    exact List.nodup_nil
  · rw [State.reset_line] at hi
    exact hi.elim (fun h => absurd h List.not_mem_nil) fun h => absurd h List.not_mem_nil
  · refine (countdownLaw_iff _).2 fun r => ?_
    simp [State.eval, State.reset, State.cold, EvalRecord.disabled, TimeField.Lawful]

end Sys2Proof.Machine
end

section
/-! PROOFS. The ports (R163 to R168): what a request does to the records of the ports beyond their attention flags, and so what
every row of requests has in common. -/

namespace Sys2Proof.Machine

/-! ### Operations that leave the ports alone but for their attention flags -/

/-- The records of the ports without attention flags, latches and later-fault counters. -/
def State.shut (s : State) : Vector PortRecord 3 := s.ports.map PortRecord.desk

theorem shut_of_desk {s t : State} (h : t.desk = s.desk) : t.shut = s.shut := (congrArg State.ports h :)

theorem shut_of_offBoard {s t : State} (h : t.offBoard = s.offBoard) : t.shut = s.shut := shut_of_desk (desk_of_offBoard h)

theorem State.port_desk_of_shut {s t : State} (h : t.shut = s.shut) (q : Port) : (t.port q).desk = (s.port q).desk := by
  simpa [State.shut, State.port] using congrArg (fun v : Vector PortRecord 3 => v[portIndex q]) h

/-- A change of one port's record that its attention flags alone show. -/
theorem State.updPort_shut (s : State) (p : Port) {f : PortRecord → PortRecord} (hf : ∀ x, (f x).desk = x.desk) :
    (s.updPort p f).shut = s.shut := by
  have hp : (s.port p).desk = s.shut[portIndex p] := by simp [State.shut, State.port]
  show (s.ports.set (portIndex p) (f (s.port p))).map PortRecord.desk = s.shut
  rw [Vector.map_set, hf, hp]
  exact Vector.set_getElem_self _

section Kept
variable (s : State)

@[simp] theorem State.raise_shut (p : Port) (src : Source) : (s.raise p src).shut = s.shut :=
  s.updPort_shut p fun _ => rfl
@[simp] theorem State.lower_shut (p : Port) (src : Source) : (s.lower p src).shut = s.shut :=
  s.updPort_shut p fun _ => rfl
@[simp] theorem State.raiseAll_shut (src : Source) : (s.raiseAll src).shut = s.shut := shut_of_desk (s.raiseAll_desk src)
@[simp] theorem State.lowerAll_shut (src : Source) : (s.lowerAll src).shut = s.shut :=
  foldl_same State.shut _ (fun t p => t.lower_shut p src) allPorts s
@[simp] theorem State.repress_shut : s.repress.shut = s.shut := shut_of_desk s.repress_desk
@[simp] theorem State.evaluateRoom_shut (r : RoomId) (o : Origin) (forced : Bool) :
    (s.evaluateRoom r o forced).shut = s.shut := shut_of_offBoard (s.evaluateRoom_offBoard r o forced)
@[simp] theorem State.evaluateRooms_shut (rooms : RoomId → Bool) (o : Origin) : (s.evaluateRooms rooms o).shut = s.shut :=
  shut_of_offBoard (s.evaluateRooms_offBoard rooms o)
@[simp] theorem State.evaluateAll_shut (o : Origin) : (s.evaluateAll o).shut = s.shut := s.evaluateRooms_shut _ o
@[simp] theorem State.forcedEvaluation_shut : s.forcedEvaluation.shut = s.shut :=
  shut_of_offBoard s.forcedEvaluation_offBoard
@[simp] theorem State.wakeCause_shut : s.wakeCause.shut = s.shut := shut_of_offBoard s.wakeCause_offBoard
@[simp] theorem State.quietSettled_shut : s.quietSettled.shut = s.shut := shut_of_offBoard s.quietSettled_offBoard
@[simp] theorem State.moveQuiet_shut (b : Bool) : (s.moveQuiet b).shut = s.shut := shut_of_offBoard (s.moveQuiet_offBoard b)
@[simp] theorem State.settleSign_shut (i : SignId) : (s.settleSign i).shut = s.shut :=
  shut_of_offBoard (s.settleSign_offBoard i)
@[simp] theorem State.restoreLine_shut (l : LineId) : (s.restoreLine l).shut = s.shut :=
  shut_of_offBoard (s.restoreLine_offBoard l)

@[simp] theorem State.setTimetable_shut (r : RoomId) (l : List Entry) : (s.setTimetable r l).shut = s.shut := rfl
@[simp] theorem State.setEval_shut (r : RoomId) (e : EvalRecord) : (s.setEval r e).shut = s.shut := rfl
@[simp] theorem State.setRoomSetup_shut (r : RoomId) (x : RoomSetup) : (s.setRoomSetup r x).shut = s.shut := rfl
@[simp] theorem State.setMapping_shut (i : SignId) (x : Option Mapping) : (s.setMapping i x).shut = s.shut := rfl
@[simp] theorem State.updSign_shut (i : SignId) (f : SignRecord → SignRecord) : (s.updSign i f).shut = s.shut := rfl
@[simp] theorem State.updLine_shut (l : LineId) (f : LineRecord → LineRecord) : (s.updLine l f).shut = s.shut := rfl
@[simp] theorem State.setLineSetup_shut (l : LineId) (x : LineSetup) : (s.setLineSetup l x).shut = s.shut := rfl

@[simp] theorem State.takeOff_shut (i : SignId) : (s.takeOff i).shut = s.shut := by
  rw [State.takeOff_frame]; rfl

@[simp] theorem State.release_shut : s.release.shut = s.shut := by
  unfold State.release
  split
  · rfl
  · exact State.raise_shut _ _ _

theorem servePut_shut (p : Port) (room : Nat) (f : PutFields) : (servePut p room f s).st.shut = s.shut := by
  unfold servePut
  dsimp only
  repeat' split
  all_goals simp

theorem serveDrop_shut (p : Port) (room tag : Nat) : (serveDrop p room tag s).st.shut = s.shut := by
  unfold serveDrop
  repeat' split
  all_goals simp

theorem serveMark_shut (p : Port) (room tag : Nat) (a b : Marks) : (serveMark p room tag a b s).st.shut = s.shut := by
  unfold serveMark
  dsimp only
  repeat' split
  all_goals simp

theorem serveClearDay_shut (p : Port) (room day : Nat) : (serveClearDay p room day s).st.shut = s.shut := by
  unfold serveClearDay
  dsimp only
  repeat' split
  all_goals simp

theorem State.jump_shut (day minute second : Nat) : (s.jump day minute second).1.shut = s.shut := by
  simp only [State.jump, State.expireNotices, State.lowerAll_shut, State.evaluateAll_shut, State.repress_shut]
  split
  · exact State.repress_shut _
  · rfl

theorem serveClock_shut (day minute second : Nat) : (serveClock day minute second s).st.shut = s.shut := by
  unfold serveClock
  split
  · exact s.jump_shut day minute second
  · rfl

theorem serveOpen_shut (p : Port) (rooms : List Nat) : (serveOpen p rooms s).st.shut = s.shut := by
  unfold serveOpen
  repeat' split
  all_goals rfl

theorem stage_shut (p : Port) (room : Nat) (range : Option Status) (make : RoomId → Staged) :
    (stage p room range make s).st.shut = s.shut := by
  unfold stage
  dsimp only
  repeat' split
  all_goals rfl

theorem Trial.record_shut {t u : Trial} {p : Port} {x : Staged} (h : t.record p x = .ok u) : u.st.shut = t.st.shut := by
  cases x <;> simp only [Trial.record, Trial.put, Trial.drop, Trial.mark, Trial.clearDay] at h <;>
    repeat' split at h
  all_goals cases h
  all_goals rfl

theorem Trial.run_shut {p : Port} {l : List Staged} :
    ∀ {t u : Trial} {i : Nat}, Trial.run p t i l = .ok u → u.st.shut = t.st.shut := by
  induction l with
  | nil => intro t u i h; cases h; rfl
  | cons x l ih =>
    intro t u i h
    rw [Trial.run] at h
    split at h
    · cases h
    · next hrecord => exact (ih h).trans (Trial.record_shut hrecord)

theorem serveCommit_shut (p : Port) : (serveCommit p s).st.shut = s.shut := by
  unfold serveCommit
  split
  · rfl
  · split
    · rfl
    · next t ht =>
      show (State.release _).shut = _
      rw [State.release_shut, State.evaluateRooms_shut, State.repress_shut]
      exact Trial.run_shut ht

theorem serveAbandon_shut (p : Port) : (serveAbandon p s).st.shut = s.shut := by
  unfold serveAbandon
  split
  · rfl
  · exact s.release_shut

theorem servePost_shut (p : Port) (f : PostFields) : (servePost p f s).st.shut = s.shut := by
  unfold servePost
  split
  · rfl
  · simp only [State.storeNotice, okWith_st, State.wakeCause_shut, State.evaluateRooms_shut, State.repress_shut]
    rfl

theorem serveWithdraw_shut (p : Port) (id : Nat) : (serveWithdraw p id s).st.shut = s.shut := by
  unfold serveWithdraw
  split
  · rfl
  · simp only [State.removeNotices, okWith_st, State.evaluateRooms_shut, State.repress_shut]
    rfl

theorem serveRoom_shut (room : Nat) (f : RoomFields) : (serveRoom room f s).st.shut = s.shut := by
  unfold serveRoom State.storeRoom
  dsimp only
  repeat' split
  all_goals simp

theorem serveMap_shut (sign : Nat) (f : PlaceFields) : (serveMap sign f s).st.shut = s.shut := by
  unfold serveMap State.mapSign
  split <;> simp

theorem serveUnmap_shut (sign : Nat) : (serveUnmap sign s).st.shut = s.shut := by
  unfold serveUnmap State.unmapSign
  repeat' split
  all_goals simp

theorem TestRun.card_shut (t : TestRun) (c : TestCard) (i : SignId) : (t.card c i).st.shut = t.st.shut := by
  unfold TestRun.card State.testSign
  repeat' split
  all_goals simp

theorem TestRun.off_shut (t : TestRun) (i : SignId) : (t.off i).st.shut = t.st.shut := by
  unfold TestRun.off State.testSign
  repeat' split
  all_goals simp

theorem TestRun.foldl_shut {f : TestRun → SignId → TestRun} (hf : ∀ t i, (f t i).st.shut = t.st.shut) (l : List SignId) :
    ∀ t : TestRun, (l.foldl f t).st.shut = t.st.shut := by
  induction l with
  | nil => exact fun _ => rfl
  | cons i l ih => exact fun t => (ih (f t i)).trans (hf t i)

theorem serveTest_shut (signs : List Nat) (pattern : Nat) : (serveTest signs pattern s).st.shut = s.shut := by
  unfold serveTest
  split
  · exact TestRun.foldl_shut (fun t i => t.card_shut _ i) _ _
  · rfl

theorem serveTestOff_shut (signs : List Nat) : (serveTestOff signs s).st.shut = s.shut := by
  unfold serveTestOff
  split
  · exact TestRun.foldl_shut TestRun.off_shut _ _
  · rfl

theorem serveLine_shut (line : Nat) (f : LineFields) : (serveLine line f s).st.shut = s.shut := by
  unfold serveLine State.storeLine State.reconfigureLine
  dsimp only
  repeat' split
  all_goals simp
  rfl

theorem serveQuiet_shut (enable qEnter qExit : Nat) : (serveQuiet enable qEnter qExit s).st.shut = s.shut := by
  unfold serveQuiet State.storeQuiet
  split
  · rfl
  · simp only [State.moveQuiet_shut]
    rfl

theorem serveFaultMode_shut (f : ModeFields) : (serveFaultMode f s).st.shut = s.shut := by
  unfold serveFaultMode
  split <;> rfl

theorem serveClearSign_shut (sign : Nat) : (serveClearSign sign s).st.shut = s.shut := by
  unfold serveClearSign State.clearSign
  repeat' split
  all_goals rfl

theorem serveClearLine_shut (line : Nat) : (serveClearLine line s).st.shut = s.shut := by
  unfold serveClearLine
  split <;> simp

theorem serveAttention_shut (p : Port) : (serveAttention p s).st.shut = s.shut := by
  unfold serveAttention
  dsimp only
  split
  · rfl
  · next src _ =>
    cases src with
    | clock => rfl
    | fault => 
      exact (State.updPort_shut (s.lower p .fault) p (f := fun x => { x with latch := none, later := 0 }) fun _ => rfl).trans
        (s.lower_shut p .fault)
    | grant | withdraw | pace | peer | line | store => exact s.lower_shut p _

theorem serveArbiter_shut (code fairness : Nat) : (serveArbiter code fairness s).st.shut = s.shut := by
  unfold serveArbiter
  split <;> rfl

theorem serveLoad_shut (p : Port) : (serveLoad p s).st.shut = s.shut := by
  unfold serveLoad
  repeat' split
  all_goals rfl

theorem State.softClear_shut : s.softClear.shut = s.shut := by
  have forced : (s.emptied.repress).untested.forcedEvaluation.shut = s.shut := by
    rw [State.forcedEvaluation_shut]
    exact State.repress_shut _
  unfold State.softClear
  generalize s.emptied.repress.untested.forcedEvaluation = t at forced ⊢
  exact forced

end Kept

/-! ### What the block of a request does to the ports -/

/-- What no block of a request does at a port p: move a monitor or a discard counter, or anything of another port but its attention
flags and its heartbeat timer. -/
structure Courteous (p : Port) (serve : State → Served) : Prop where
  own : ∀ (u : State) (q : Port), ((serve u).st.port q).monitor = (u.port q).monitor ∧
    ((serve u).st.port q).discards = (u.port q).discards
  others : ∀ (u : State) (q : Port), q ≠ p → ((serve u).st.port q).reception = (u.port q).reception ∧
    ((serve u).st.port q).buffer = (u.port q).buffer ∧ ((serve u).st.port q).reply = (u.port q).reply ∧
    ((serve u).st.port q).newAddress = (u.port q).newAddress ∧ ((serve u).st.port q).mask = (u.port q).mask

theorem Courteous.of_shut (p : Port) {serve : State → Served} (h : ∀ u, (serve u).st.shut = u.shut) : Courteous p serve := by
  have field {α : Type} (f : PortRecord → α) (u : State) (q : Port) :
      f ((serve u).st.port q).desk = f (u.port q).desk := congrArg f (State.port_desk_of_shut (h u) q)
  exact ⟨fun u q => ⟨field PortRecord.monitor u q, field PortRecord.discards u q⟩, fun u q _ =>
    ⟨field PortRecord.reception u q, field PortRecord.buffer u q, field PortRecord.reply u q,
      field PortRecord.newAddress u q, field PortRecord.mask u q⟩⟩

theorem Courteous.of_same (p : Port) {serve : State → Served} (h : ∀ u, (serve u).st = u) : Courteous p serve :=
  .of_shut p fun u => by rw [h u]

theorem courteous_mask (p : Port) (mask : BitVec 8) : Courteous p (serveMask p mask) := by
  refine ⟨fun u q => ?_, fun u q hq => ?_⟩
  · rw [serveMask_eq, okWith_st, State.port_updPort]
    split
    · next e => subst e; exact ⟨rfl, rfl⟩
    · exact ⟨rfl, rfl⟩
  · rw [serveMask_eq, okWith_st, State.port_updPort_of_ne _ hq]
    exact ⟨rfl, rfl, rfl, rfl, rfl⟩

theorem courteous_cabinet (p : Port) (address : Nat) : Courteous p (serveCabinet p address) := by
  refine ⟨fun u q => ?_, fun u q hq => ?_⟩ <;> unfold serveCabinet <;> split
  · exact ⟨rfl, rfl⟩
  · rw [okWith_st, State.port_updPort]
    split
    · next e => subst e; exact ⟨rfl, rfl⟩
    · exact ⟨rfl, rfl⟩
  · exact ⟨rfl, rfl, rfl, rfl, rfl⟩
  · rw [okWith_st, State.port_updPort_of_ne _ hq]
    exact ⟨rfl, rfl, rfl, rfl, rfl⟩

/-- R170: a new interval moves the heartbeat timer of a port alone. -/
theorem State.retime_port (s : State) (p q : Port) (code : Nat) :
    (s.retime p code).port q = { s.port q with heartbeat := ((s.retime p code).port q).heartbeat } := by
  rw [State.retime, State.port_updPort]
  split
  · next e =>
    subst e
    split <;> rfl
  · rfl

theorem courteous_port (p : Port) (target : Nat) (roles : RoleSet) (code : Nat) :
    Courteous p (servePort target roles code) := by
  refine ⟨fun u q => ?_, fun u q hq => ?_⟩ <;> unfold servePort <;> split
  · exact ⟨rfl, rfl⟩
  · rw [State.retime_port]
    exact ⟨rfl, rfl⟩
  · exact ⟨rfl, rfl, rfl, rfl, rfl⟩
  · rw [State.retime_port]
    exact ⟨rfl, rfl, rfl, rfl, rfl⟩

/-! ### Every row of requests -/

/-- R164, R166, R168: the command is a request with this header, code and role, handed to a block that is courteous to the ports,
with no broadcast form unless it is accepted as a broadcast. -/
def RequestRow (c : Instr) (h : Header) (code : Nat) (need : Need) : Prop :=
  ∃ (cast : State → Option State) (serve : State → Served), (∀ s, exec c s = .next (s.request h code need cast serve)) ∧
    (castable c = false → cast = noCast) ∧ Courteous h.port serve

/-- A request without a broadcast form. -/
theorem RequestRow.direct {c : Instr} {h : Header} {code : Nat} {need : Need} {serve : State → Served}
    (hexec : ∀ s, exec c s = .next (s.request h code need noCast serve)) (courteous : Courteous h.port serve) :
    RequestRow c h code need :=
  ⟨noCast, serve, hexec, fun _ => rfl, courteous⟩

/-- A request without a broadcast form whose block leaves the ports alone but for their attention flags. -/
theorem RequestRow.shut {c : Instr} {h : Header} {code : Nat} {need : Need} {serve : State → Served}
    (hexec : ∀ s, exec c s = .next (s.request h code need noCast serve)) (kept : ∀ u, (serve u).st.shut = u.shut) :
    RequestRow c h code need :=
  .direct hexec (.of_shut _ kept)

theorem requestRow {c : Instr} {h : Header} {code : Nat} {need : Need} (hc : requestOf c = some (h, code, need)) :
    RequestRow c h code need := by
  cases c with
  | readStatus => cases hc; exact .shut (fun _ => rfl) fun _ => rfl
  | readRoom _ room first => cases hc; exact .shut (fun _ => rfl) fun u => by unfold serveReadRoom; split <;> rfl
  | readEntry _ room tag =>
    cases hc; exact .shut (fun _ => rfl) fun u => by unfold serveReadEntry; split; rfl; split <;> rfl
  | readSign _ sign => cases hc; exact .shut (fun _ => rfl) fun u => by unfold serveReadSign; split <;> rfl
  | readLine _ line => cases hc; exact .shut (fun _ => rfl) fun u => by unfold serveReadLine; split <;> rfl
  | readNotice _ id =>
    cases hc; exact .shut (fun _ => rfl) fun u => by unfold serveReadNotice; split; rfl; split <;> rfl
  | heartbeat => cases hc; exact ⟨_, _, fun _ => rfl, fun hcast => (by cases hcast), .of_same _ fun _ => rfl⟩
  | readAttention => cases hc; exact .shut (fun _ => rfl) fun u => serveAttention_shut u _
  | setAttentionMask => cases hc; exact .direct (fun _ => rfl) (courteous_mask _ _)
  | putEntry => cases hc; exact .shut (fun _ => rfl) fun u => servePut_shut u _ _ _
  | dropEntry => cases hc; exact .shut (fun _ => rfl) fun u => serveDrop_shut u _ _ _
  | markEntry => cases hc; exact .shut (fun _ => rfl) fun u => serveMark_shut u _ _ _ _ _
  | clearDay => cases hc; exact .shut (fun _ => rfl) fun u => serveClearDay_shut u _ _ _
  | setClock =>
    cases hc
    exact ⟨_, _, fun _ => rfl, fun hcast => (by cases hcast), .of_shut _ fun u => serveClock_shut u _ _ _⟩
  | openBatch => cases hc; exact .shut (fun _ => rfl) fun u => serveOpen_shut u _ _
  | stagePut | stageDrop | stageMark | stageClearDay => cases hc; exact .shut (fun _ => rfl) fun u => stage_shut u _ _ _ _
  | commitBatch => cases hc; exact .shut (fun _ => rfl) fun u => serveCommit_shut u _
  | abandonBatch => cases hc; exact .shut (fun _ => rfl) fun u => serveAbandon_shut u _
  | postNotice =>
    cases hc; exact ⟨_, _, fun _ => rfl, fun hcast => (by cases hcast), .of_shut _ fun u => servePost_shut u _ _⟩
  | withdrawNotice =>
    cases hc; exact ⟨_, _, fun _ => rfl, fun hcast => (by cases hcast), .of_shut _ fun u => serveWithdraw_shut u _ _⟩
  | setRoom => cases hc; exact .shut (fun _ => rfl) fun u => serveRoom_shut u _ _
  | mapSign => cases hc; exact .shut (fun _ => rfl) fun u => serveMap_shut u _ _
  | mapSignUnmap => cases hc; exact .shut (fun _ => rfl) fun u => serveUnmap_shut u _
  | setTest => cases hc; exact .shut (fun _ => rfl) fun u => serveTest_shut u _ _
  | setTestOff => cases hc; exact .shut (fun _ => rfl) fun u => serveTestOff_shut u _
  | setLine => cases hc; exact .shut (fun _ => rfl) fun u => serveLine_shut u _ _
  | setQuiet => cases hc; exact .shut (fun _ => rfl) fun u => serveQuiet_shut u _ _ _
  | wakeLines => cases hc; exact .shut (fun _ => rfl) fun u => u.wakeCause_shut
  | setFaultMode => cases hc; exact .shut (fun _ => rfl) fun u => serveFaultMode_shut u _
  | clearFaultSign => cases hc; exact .shut (fun _ => rfl) fun u => serveClearSign_shut u _
  | clearFaultLine => cases hc; exact .shut (fun _ => rfl) fun u => serveClearLine_shut u _
  | setPort => cases hc; exact .direct (fun _ => rfl) (courteous_port _ _ _ _)
  | setCabinet => cases hc; exact .direct (fun _ => rfl) (courteous_cabinet _ _)
  | setArbiter => cases hc; exact .shut (fun _ => rfl) fun u => serveArbiter_shut u _ _
  | saveSetup => cases hc; exact .shut (fun _ => rfl) fun _ => rfl
  | loadSetup => cases hc; exact .shut (fun _ => rfl) fun u => serveLoad_shut u _
  | softClear => cases hc; exact .shut (fun _ => rfl) fun u => u.softClear_shut
  | _ => cases hc

/-! ### Refusals, packets of no concern, and dropped broadcasts -/

/-- R167: a direct request that fails a check of the port. -/
theorem State.request_portCheck {s : State} {h : Header} {need : Need} {st : Status} (d : Direct s h)
    (hcheck : (s.take h.port).portCheck h need = some st) (code : Nat) (cast : State → Option State)
    (serve : State → Served) : s.request h code need cast serve = s.answeredWith h code st .empty := by
  rw [State.request_direct d, hcheck]
  exact s.answer_unchanged h code _ rfl rfl

/-- Settles O15: the checks of the port stand in their order before every block. -/
theorem requestsRefusedAtThePort : Obligations.RequestsRefusedAtThePort := by
  unfold Obligations.RequestsRefusedAtThePort
  intro c s h code need hc d
  obtain ⟨cast, serve, hexec, -, -⟩ := requestRow hc
  have refused {st : Status} (hcheck : (s.take h.port).portCheck h need = some st) :
      exec c s = .next (s.answeredWith h code st .empty) :=
    (hexec s).trans (congrArg _ (State.request_portCheck d hcheck code cast serve))
  refine ⟨fun hfits => refused ?_, fun hfits hrole => refused ?_, fun hfits hrole hneed hstore => refused ?_⟩
  · simp [State.portCheck, hfits]
  · simp [State.portCheck, hfits, hrole]
  · subst hneed
    have busy : s.storeBusy = true := by
      obtain ⟨p, e | e⟩ := hstore <;> simp [State.storeBusy, e]
    have busy' : (s.take h.port).storeBusy = true := by simpa [State.storeBusy] using busy
    simp [State.portCheck, hfits, hrole, busy']

/-- R163: a port that is not listening. -/
theorem State.hears_false {s : State} {p : Port}
    (h : s.run ≠ .running ∨ (s.port p).reception = .skipping ∨ (s.port p).reception = .answering) : s.hears p = false := by
  rw [← Bool.not_eq_true, State.hears_iff]
  rintro ⟨hrun, hhears⟩
  rcases h with h | h | h
  · exact h hrun
  · simp [h] at hhears
  · simp [h] at hhears

/-- R166, R172: the hub after a broadcast is taken at a port, with its record as given. -/
theorem State.take_hunt_eq_setPort (s : State) (p : Port) : (s.take p).hunt p =
    { s.setPort p { s.port p with
        reception := .hunting, buffer := [], monitor := .alive, heartbeat := heartbeatTime (s.portSetup p).interval } with
      arb := s.arb.restarted p s.setup.arbiter.idleCode } := by
  rw [State.hunt, State.updPort, State.take_port_self, State.take_eq]
  simp [State.setPort]

/-- R166, R172: the hub after a broadcast that is taken at a port and dropped. -/
theorem State.take_hunt_discard_eq_setPort (s : State) (p : Port) : ((s.take p).hunt p).discard p =
    { s.setPort p { s.port p with
        reception := .hunting, buffer := [], discards := min 65535 ((s.port p).discards + 1)
        monitor := .alive, heartbeat := heartbeatTime (s.portSetup p).interval } with
      arb := s.arb.restarted p s.setup.arbiter.idleCode } := by
  rw [State.take_hunt_eq_setPort]
  simp [State.discard, State.updPort, State.setPort, State.port]

/-- R166: a broadcast that does not fit its layout, or has no broadcast form. -/
theorem State.broadcast_dropped {s : State} {h : Header} {cast : State → Option State}
    (hcast : h.bodyFits = false ∨ cast = noCast) : s.broadcast h cast = ((s.take h.port).hunt h.port).discard h.port := by
  have none : (if h.bodyFits then cast ((s.take h.port).hunt h.port) else none) = none := by
    rcases hcast with e | rfl
    · rw [e]; rfl
    · split <;> rfl
  simp only [State.broadcast, none]

/-- Settles O16: what a port does not hear, what is for another cabinet, and what is not accepted as a broadcast. -/
theorem packetsNotForThisHub : Obligations.PacketsNotForThisHub := by
  unfold Obligations.PacketsNotForThisHub
  intro c s h code need hc
  obtain ⟨cast, serve, hexec, hcast, -⟩ := requestRow hc
  refine ⟨fun hlost => ?_, fun hrun hhears => ⟨fun h15 haddress => ?_, fun h15 hdrop => ?_⟩⟩
  · rw [hexec, State.request_unheard (State.hears_false hlost)]
  · rw [hexec, State.request_foreign ((s.hears_iff _).2 ⟨hrun, hhears⟩) h15 haddress]
    rfl
  · rw [hexec, State.request_broadcast ((s.hears_iff _).2 ⟨hrun, hhears⟩) h15,
      State.broadcast_dropped (hdrop.symm.imp id hcast), State.take_hunt_discard_eq_setPort]

/-- Settles O17: the answer is written at the requesting port after its block's work, and no block moves more of a port than its
attention flags, its heartbeat timer and, at its own port, mask and new address. -/
theorem acceptedRequestsAreAnswered : Obligations.AcceptedRequestsAreAnswered := by
  unfold Obligations.AcceptedRequestsAreAnswered
  intro c s h code need hc a
  obtain ⟨cast, serve, hexec, -, courteous⟩ := requestRow hc
  obtain ⟨hmonitor, hdiscards⟩ := courteous.own (s.take h.port) h.port
  rw [State.take_port_self] at hmonitor hdiscards
  refine ⟨_, (serve (s.take h.port)).status, (serve (s.take h.port)).clamped, (serve (s.take h.port)).result,
    (hexec s).trans (congrArg _ (State.request_accepted a code cast serve)), ⟨?_, ?_⟩, ?_, ?_, ?_, fun q hq => ?_⟩
  · rw [State.answer_port_self]
  · rw [State.answer_port_self, State.take_address]
    rfl
  · rw [State.answer_port_self]
  · rw [State.answer_port_self]; exact hmonitor
  · rw [State.answer_port_self]; exact hdiscards
  · obtain ⟨reception, buffer, reply, newAddress, mask⟩ := courteous.others (s.take h.port) q hq
    obtain ⟨monitor, discards⟩ := courteous.own (s.take h.port) q
    rw [State.answer_port_of_ne _ hq]
    rw [State.take_port_of_ne _ hq] at *
    exact ⟨reception, buffer, reply, newAddress, discards, monitor, mask⟩

/-! ### UNKNOWN_REQUEST, HEARTBEAT and the packet events -/

theorem exec_unknownRequest_direct {s : State} {h : Header} (d : Direct s h) (code : Nat) :
    exec (.unknownRequest h code) s = .next (s.answeredWith h code .unknownRequest .empty) := by
  have a : Accepted s { h with bodyFits := true } .none :=
    { running := d.running, hears := d.hears, here := d.here, notAll := d.notAll, fits := rfl, role := rfl
      free := fun e => nomatch e }
  exact congrArg Host.Outcome.next (State.request_refuse a rfl)

/-- Settles O18: neither request's block does anything. -/
theorem unknownAndHeartbeatOnlyRestart : Obligations.UnknownAndHeartbeatOnlyRestart := by
  unfold Obligations.UnknownAndHeartbeatOnlyRestart
  refine ⟨fun s h code => ⟨fun d => exec_unknownRequest_direct d code, fun hrun hhears h15 => ?_⟩,
    fun s h => ⟨fun a => congrArg Host.Outcome.next (State.request_okWith a rfl), fun hrun hhears h15 hfits => ?_⟩⟩
  · refine congrArg Host.Outcome.next ?_
    rw [State.request_broadcast (h := { h with bodyFits := true }) ((s.hears_iff _).2 ⟨hrun, hhears⟩) h15,
      State.broadcast_dropped (.inr rfl), State.take_hunt_discard_eq_setPort]
  · have c : Cast s h := { running := hrun, hears := hhears, all := h15, fits := hfits }
    refine congrArg Host.Outcome.next ?_
    rw [State.request_carried c rfl, State.take_hunt_eq_setPort]

/-- Settles O19: each event that the port hears, or that falls in its reception state, is its own update. -/
theorem portEventsMoveReception : Obligations.PortEventsMoveReception := by
  unfold Obligations.PortEventsMoveReception
  refine ⟨fun s p hrun hhears => ?_, fun s p hrun => ?_⟩
  · have heard (f : State → State) : s.whenHeard p f = f s := if_pos ((s.hears_iff p).2 ⟨hrun, hhears⟩)
    refine ⟨congrArg Host.Outcome.next ?_, congrArg Host.Outcome.next ?_, congrArg Host.Outcome.next ?_,
      congrArg Host.Outcome.next ?_⟩
    · rw [heard, State.hunt, State.discard, State.updPort_updPort]
      rfl
    · rw [heard]
      rfl
    · rw [heard, State.receive, State.discard, State.updPort_updPort]
      rfl
    · rw [heard, State.take_hunt_discard_eq_setPort]
  · have inState {r : Reception} (hr : (s.port p).reception = r) (f : State → State) : s.whenIn p r f = f s := by
      rw [State.whenIn, State.whenRunning, if_pos hrun, if_pos hr]
    exact ⟨fun hr => congrArg Host.Outcome.next (inState hr _), fun hr => congrArg Host.Outcome.next (inState hr _),
      fun hr => congrArg Host.Outcome.next (inState hr _)⟩

/-! ### SET_CABINET and the end of a reply -/

/-- R163, R165: the end of a reply, whole. -/
theorem State.finishReply_eq (s : State) (p : Port) : s.finishReply p =
    { s.setPort p { s.port p with reception := .hunting, buffer := [], reply := none, newAddress := none } with
      address := (s.port p).newAddress.getD s.address
      programmed := (s.port p).newAddress.isSome || s.programmed } := by
  unfold State.finishReply State.applyAddress
  cases (s.port p).newAddress <;> rfl

/-- Settles O20: the request writes the address at its own port, and the end of that port's reply moves it into force. -/
theorem cabinetChangesWhenReplyEnds : Obligations.CabinetChangesWhenReplyEnds := by
  unfold Obligations.CabinetChangesWhenReplyEnds
  refine ⟨fun s h a acc => ⟨fun high => ?_, fun low => ?_⟩, fun s p hrun hanswering => ?_⟩
  · exact congrArg Host.Outcome.next (State.request_refuse acc (if_pos high))
  · have hserve : serveCabinet h.port a (s.take h.port) =
        okWith ((s.take h.port).updPort h.port fun x => { x with newAddress := some a }) .empty :=
      if_neg (Nat.not_le.2 low)
    refine ⟨_, congrArg Host.Outcome.next (State.request_updPort acc hserve fun _ _ => rfl), ⟨?_, ?_⟩, rfl, ?_,
      fun q hq => ?_, rfl⟩
    · rw [State.port_updPort_self, State.answeredWith, State.answered_port_self]
    · rw [State.port_updPort_self, State.answeredWith, State.answered_port_self]
      rfl
    · rw [State.port_updPort_self]
    · rw [State.port_updPort_of_ne _ hq, State.answeredWith, State.answered_port_of_ne s hq]
  · have hexec : exec (.replySent p) s = .next (s.finishReply p) :=
      congrArg Host.Outcome.next (by rw [State.whenIn, State.whenRunning, if_pos hrun, if_pos hanswering])
    refine ⟨_, hexec, ?_, fun q hq => ?_, ?_, ?_, ?_⟩
    · rw [State.finishReply_eq]; exact s.port_setPort_self p _
    · rw [State.finishReply_eq]; exact s.port_setPort_of_ne hq _
    · rw [State.finishReply_eq]
    · rw [State.finishReply_eq]
    · rw [State.finishReply_eq]; rfl

end Sys2Proof.Machine
end

section
/-! PROOFS. READ_ATTENTION (R175), SET_PORT (R170) and the heartbeat lapse (R173). -/

namespace Sys2Proof.Machine

/-! ### READ_ATTENTION -/

/-- R175: the source of the lowest code among those of a byte. -/
theorem lowestSource_eq {v : BitVec 8} {src : Source} (h : hasFlag v src = true)
    (lowest : ∀ other, hasFlag v other = true → Source.code src ≤ Source.code other) : lowestSource v = some src := by
  have below (x : Source) (hx : Source.code x < Source.code src) : hasFlag v x = false := by
    rw [← Bool.not_eq_true]
    exact fun hf => Nat.not_le.2 hx (lowest x hf)
  unfold lowestSource allSources
  cases src <;> simp (disch := decide) [List.find?_cons, h, below]

theorem lowestSource_zero : lowestSource 0#8 = none := by decide

/-- R175: what the read leaves of the record of its port. -/
def PortRecord.readOut (src : Source) (x : PortRecord) : PortRecord :=
  { x with
    raised := if src = .clock then x.raised else x.raised &&& ~~~ Source.flag src
    latch := if src = .fault then none else x.latch
    later := if src = .fault then 0 else x.later }

theorem State.updPort_id (s : State) (p : Port) : s.updPort p (fun x => x) = s := by
  simp [State.updPort, State.setPort, State.port]

/-- R175: the effect of the read is one change of the port's record. -/
theorem State.clearRead_eq (s : State) (p : Port) (src : Source) : s.clearRead p src = s.updPort p (.readOut src) := by
  cases src with
  | clock => exact (s.updPort_id p).symm
  | fault =>
    exact s.updPort_updPort p (fun x => { x with raised := x.raised &&& ~~~ Source.flag .fault })
      (fun x => { x with latch := none, later := 0 })
  | grant | withdraw | pace | peer | line | store => rfl

theorem serveAttention_none {s : State} {p : Port} (h : (s.port p).raised &&& (s.port p).mask = 0#8) :
    serveAttention p s = okWith s (.attention 15 .none (s.port p).raised) := by
  simp only [serveAttention, h, lowestSource_zero]

theorem serveAttention_some {s : State} {p : Port} {src : Source}
    (h : lowestSource ((s.port p).raised &&& (s.port p).mask) = some src) :
    serveAttention p s = okWith (s.updPort p (.readOut src))
      (.attention (Source.code src) (s.attentionFields p src) (PortRecord.readOut src (s.port p)).raised) := by
  simp only [serveAttention, h, State.clearRead_eq, State.port_updPort_self]

section ReadAttention
variable {s : State} {h : Header} (a : Accepted s h .none)
include a

theorem exec_readAttention_none (hnone : (s.port h.port).raised &&& (s.port h.port).mask = 0#8) :
    exec (.readAttention h) s = .next (s.answeredWith h 0x08 .ok (.attention 15 .none (s.port h.port).raised)) := by
  refine congrArg Host.Outcome.next (State.request_okWith a ?_)
  rw [serveAttention_none (by rw [State.take_port_self]; exact hnone), State.take_port_self]

theorem exec_readAttention_some {src : Source}
    (hsrc : lowestSource ((s.port h.port).raised &&& (s.port h.port).mask) = some src) :
    exec (.readAttention h) s = .next ((s.answeredWith h 0x08 .ok (.attention (Source.code src)
      ((s.take h.port).attentionFields h.port src) (PortRecord.readOut src (s.port h.port)).raised)).updPort h.port
        (.readOut src)) := by
  refine congrArg Host.Outcome.next (State.request_updPort a ?_ fun _ _ => rfl)
  rw [serveAttention_some (src := src) (by rw [State.take_port_self]; exact hsrc), State.take_port_self]
  rfl

end ReadAttention

/-- R175: the fields that the read reports, read off the hub as it was taken and as it is left. -/
theorem State.attentionFields_take (s : State) (p : Port) (src : Source) :
    (s.take p).attentionFields p src = match src with
      | .fault => .fault (s.port p).latch (s.port p).later
      | .pace => .pace s.pressure
      | .peer => .peer (s.take p).monitors
      | .clock => .clock s.clock.isSet
      | .store => .store (s.port p).outcome
      | _ => .none := by
  cases src <;> simp [State.attentionFields, State.take_port_self]

/-- Settles O22: the block takes the lowest pending and enabled source and changes its own port's record alone. -/
theorem readAttentionReturnsLowest : Obligations.ReadAttentionReturnsLowest := by
  unfold Obligations.ReadAttentionReturnsLowest
  refine fun s h a => ⟨exec_readAttention_none a, fun src hsrc lowest => ?_⟩
  have hexec := exec_readAttention_some a (lowestSource_eq hsrc lowest)
  generalize hu : s.answeredWith h 0x08 .ok (.attention (Source.code src)
    ((s.take h.port).attentionFields h.port src) (PortRecord.readOut src (s.port h.port)).raised) = u at hexec
  have hport : (u.updPort h.port (.readOut src)).port h.port = PortRecord.readOut src (u.port h.port) :=
    u.port_updPort_self h.port _
  have hself : u.port h.port = { s.port h.port with
      reception := .answering, buffer := [], monitor := .alive, heartbeat := heartbeatTime (s.portSetup h.port).interval
      reply := some { cabinet := s.address, code := 0x08, status := .ok, low := s.pressure == .low, clamped := false
                      result := .attention (Source.code src) ((s.take h.port).attentionFields h.port src)
                        (PortRecord.readOut src (s.port h.port)).raised } } := by
    rw [← hu, State.answeredWith, State.answered_port_self]
  have hmonitors : (u.updPort h.port (.readOut src)).ports.map PortRecord.monitor = (s.take h.port).monitors := by
    show (u.ports.set _ (PortRecord.readOut src (u.port h.port))).map PortRecord.monitor = _
    rw [← hu, State.take_monitors, Vector.map_set, State.answeredWith, State.answered_port_self, State.answered,
      Vector.map_set]
    simp [State.monitors, PortRecord.readOut]
  have hframe : u.updPort h.port (.readOut src) = { s with
      ports := (u.updPort h.port (.readOut src)).ports, arb := s.arb.restarted h.port s.setup.arbiter.idleCode } := by
    rw [← hu]; rfl
  have hpressure : (u.updPort h.port (.readOut src)).pressure = s.pressure := by rw [hframe]
  refine ⟨_, hexec, ⟨?_, ?_⟩, ?_, ?_, ?_, ?_, fun q hq => ?_, hframe⟩
  · rw [hport, hself]; rfl
  · rw [hport, hself, hmonitors, hpressure, State.attentionFields_take]
    rfl
  · rw [hport, hself]; rfl
  · rw [hport, hself]; rfl
  · rw [hport, hself]; rfl
  · rw [hport, hself]; rfl
  · rw [State.port_updPort_of_ne _ hq, ← hu, State.answeredWith, State.answered_port_of_ne s hq]

/-! ### SET_PORT -/

theorem port?_of_lt {n : Nat} (h : 2 < n) : port? n = none := by
  match n, h with
  | n + 3, _ => rfl

/-- R170: the hub with the named port's role set and interval stored, and its monitor retimed. -/
def State.portStored (s : State) (q : Port) (roles : RoleSet) (code : Nat) : State :=
  (s.setPortSetup q { roles := roles, interval := clampCode code }).retime q (clampCode code)

theorem servePort_some {target : Nat} {q : Port} (h : port? target = some q) (roles : RoleSet) (code : Nat) (s : State) :
    servePort target roles code s = { st := s.portStored q roles code, status := .ok, clamped := decide (4 < code)
                                      result := .portSet roles (clampCode code) } := by
  simp only [servePort, h]
  rfl

/-- R170: the heartbeat timers after a SET_PORT. -/
theorem State.portStored_port (s : State) (q p : Port) (roles : RoleSet) (code : Nat) :
    (s.portStored q roles code).port p = if p = q ∧ (s.port q).monitor = .alive then
      { s.port p with heartbeat := heartbeatTime (clampCode code) } else s.port p := by
  unfold State.portStored State.retime
  rw [State.port_updPort]
  by_cases hp : p = q
  · subst hp
    rw [if_pos rfl]
    show (if (s.port p).monitor = .alive then _ else _) = _
    by_cases hm : (s.port p).monitor = .alive
    · rw [if_pos hm, if_pos ⟨rfl, hm⟩]; rfl
    · rw [if_neg hm, if_neg fun e => hm e.2]; rfl
  · rw [if_neg hp, if_neg fun e => hp e.1]
    rfl

/-- Settles O24: the block stores the settings and retimes a monitor that is ALIVE, as the requesting port's is. -/
theorem setPortStoresRolesAndInterval : Obligations.SetPortStoresRolesAndInterval := by
  unfold Obligations.SetPortStoresRolesAndInterval
  refine fun s h target code roles a => ⟨fun high => ?_, fun q hq => ?_⟩
  · refine congrArg Host.Outcome.next (State.request_refuse a ?_)
    simp only [servePort, port?_of_lt high]
  · refine ⟨_, congrArg Host.Outcome.next (State.request_accepted a 0x38 _ _), ?_⟩
    rw [servePort_some hq]
    have self : ((s.take h.port).port h.port).monitor = .alive := by rw [State.take_port_self]
    have ports (p : Port) := (s.take h.port).portStored_port q p roles code
    have settings (p : Port) : ((s.take h.port).portStored q roles code).portSetup p =
        if p = q then { roles := roles, interval := clampCode code } else s.portSetup p := by
      show ((s.take h.port).setPortSetup q _).portSetup p = _
      rw [State.portSetup_setPortSetup, State.take_portSetup]
    refine ⟨⟨?_, ?_⟩, ?_, fun p hp => ?_, fun hwhich => ?_, fun hne hmon => ?_, fun p hpq hp => ?_, ?_⟩
    · rw [State.answer_port_self]
    · rw [State.answer_port_self, State.take_address]
      rfl
    · rw [State.answer_portSetup, settings, if_pos rfl]
      rfl
    · rw [State.answer_portSetup, settings, if_neg hp]
    · by_cases hqp : q = h.port
      · subst hqp
        rw [State.answer_port_self]
        show (((s.take h.port).portStored h.port roles code).port h.port).heartbeat = _
        rw [ports, if_pos ⟨rfl, self⟩]
        rfl
      · have alive : ((s.take h.port).port q).monitor = .alive := by
          rw [State.take_port_of_ne _ hqp]
          exact hwhich.resolve_left hqp
        rw [State.answer_port_of_ne _ hqp, ports, if_pos ⟨rfl, alive⟩]
        rfl
    · rw [State.answer_port_of_ne _ hne, ports, State.take_port_of_ne _ hne, if_neg fun e => hmon e.2]
    · rw [State.answer_port_of_ne _ hp, ports, if_neg fun e => hpq e.1, State.take_port_of_ne _ hp]
    · rw [State.take_eq]
      rfl

/-! ### The heartbeat lapse -/

section Lapse
variable (s : State) (p : Port)

/-- R173: a lapse raises PEER at the other ports and moves nothing else. -/
theorem State.raisePeers_port (q : Port) : (s.raisePeers p).port q =
    if q = p then s.port q else { s.port q with raised := (s.port q).raised ||| Source.flag .peer } := by
  have fold : s.raisePeers p = allPorts.foldl (fun s k => if decide (k ≠ p) = true then
      s.updPort k (fun x => { x with raised := x.raised ||| Source.flag .peer }) else s) s := by
    refine congrArg (fun f => allPorts.foldl f s) (funext fun t => funext fun k => ?_)
    by_cases hk : k = p
    · simp [hk]
    · simp only [hk, if_false, ne_eq, not_false_eq_true, decide_true, if_true]
      rfl
  rw [fold, allPorts_port (fun k => decide (k ≠ p)) _ (fun _ k => decide (k ≠ p)) (fun _ _ _ => rfl) s fun _ => rfl]
  by_cases hq : q = p <;> simp [hq]

theorem State.raisePeers_eq : s.raisePeers p = { s with ports := (s.raisePeers p).ports } := by
  refine foldl_keeps (fun t => t = { s with ports := t.ports }) _ (fun t q ht => ?_) allPorts s rfl
  split
  · exact ht
  · rw [ht]; rfl

/-- R173: the monitor of a lapsed port. -/
def State.lapsed : State := s.updPort p fun x => { x with monitor := .lapsed, heartbeat := none }

/-- R70: the records that a lapse takes away. -/
def Notice.tiedTo (n : Notice) : Bool := n.tied && n.origin == p

theorem State.lapseNotices_tied (h : s.notices.any (Notice.tiedTo p) = true) :
    s.lapseNotices p = s.removeNotices (Notice.tiedTo p) .setup := if_pos h

theorem State.lapseNotices_free (h : s.notices.any (Notice.tiedTo p) = false) : s.lapseNotices p = s :=
  if_neg (ne_true_of_eq_false h)

/-- R70: the table without the records of a lapsed port, whether it holds any or none. -/
theorem State.lapseNotices_notices : (s.lapseNotices p).notices = s.notices.filter fun n => !n.tiedTo p := by
  cases h : s.notices.any (Notice.tiedTo p) with
  | true => rw [s.lapseNotices_tied p h]; exact (s.removeNotices_removed _ _).notices
  | false =>
    rw [s.lapseNotices_free p h, List.filter_eq_self.2]
    exact fun n hn => by rw [Bool.not_eq_true', ← Bool.not_eq_true]; exact List.any_eq_false.1 h n hn

theorem State.lapseNotices_eq : s.lapseNotices p = { s with
    ports := (s.lapseNotices p).ports, notices := (s.lapseNotices p).notices, pressure := (s.lapseNotices p).pressure
    evals := (s.lapseNotices p).evals, signs := (s.lapseNotices p).signs, lines := (s.lapseNotices p).lines
    quiet := (s.lapseNotices p).quiet } := by
  cases h : s.notices.any (Notice.tiedTo p) with
  | true => rw [s.lapseNotices_tied p h]; exact s.removeNotices_eq _ _
  | false => rw [s.lapseNotices_free p h]

theorem State.lapseNotices_port (q : Port) :
    (s.lapseNotices p).port q = { s.port q with raised := ((s.lapseNotices p).port q).raised } := by
  cases h : s.notices.any (Notice.tiedTo p) with
  | true => rw [s.lapseNotices_tied p h]; exact s.removeNotices_port _ _ q
  | false => rw [s.lapseNotices_free p h]

/-- R81: what a lapse does to the arbiter and the ports. -/
theorem State.lapseGrant_eq : s.lapseGrant p = { s with arb := (s.lapseGrant p).arb, ports := (s.lapseGrant p).ports } := by
  unfold State.lapseGrant
  split
  · next h => exact State.withdraw_eq h
  · rfl

theorem State.lapseGrant_port (q : Port) :
    (s.lapseGrant p).port q = { s.port q with raised := ((s.lapseGrant p).port q).raised } := by
  unfold State.lapseGrant
  split
  · next h => exact State.withdraw_port h q
  · rfl

end Lapse

/-- R79, R80: the holder that a release chooses, or none, with an empty staging list. -/
theorem State.release_arb (s : State) : s.release.arb.withdrawals = s.arb.withdrawals ∧ s.release.arb.staging = [] ∧
    s.release.arb.holder = (chooseWaiter s.setup.arbiter.fairness s.arb.waiters).map Waiter.port := by
  unfold State.release
  cases chooseWaiter s.setup.arbiter.fairness s.arb.waiters <;> exact ⟨rfl, rfl, rfl⟩

/-- R78: the arbiter after a withdrawal. -/
theorem State.withdraw_arb {s : State} {p : Port} (h : s.arb.holder = some p) :
    s.withdraw.arb.withdrawals = min 255 (s.arb.withdrawals + 1) ∧ s.withdraw.arb.staging = [] ∧
      s.withdraw.arb.holder = (chooseWaiter s.setup.arbiter.fairness s.arb.waiters).map Waiter.port := by
  rw [State.withdraw_def h]
  exact (s.withdrawing p).release_arb

/-- R78: a withdrawal leaves WITHDRAW pending on the port that held the grant. -/
theorem State.withdraw_hasFlag {s : State} {p : Port} (h : s.arb.holder = some p) :
    hasFlag (s.withdraw.port p).raised .withdraw = true := by
  rw [(State.withdraw_released h).flags p, State.port_setPort_self]
  split <;> simp [hasFlag_or]

/-- Settles O21: the lapse in its four parts: the monitor, the tied notices, the grant, and PEER. -/
theorem heartbeatLapseEndsWhatThePortHeld : Obligations.HeartbeatLapseEndsWhatThePortHeld := by
  unfold Obligations.HeartbeatLapseEndsWhatThePortHeld
  intro s p hrun halive hbeat
  have hexec : exec (.heartbeatLapse p) s = .next (s.lapse p) :=
    congrArg Host.Outcome.next ((if_pos hrun).trans (if_pos ⟨halive, hbeat⟩))
  obtain ⟨w, hw⟩ : ∃ w, w = s.lapsed p := ⟨_, rfl⟩
  obtain ⟨v, hv⟩ : ∃ v, v = w.lapseNotices p := ⟨_, rfl⟩
  obtain ⟨u, hu⟩ : ∃ u, u = v.lapseGrant p := ⟨_, rfl⟩
  obtain ⟨t, ht⟩ : ∃ t, t = u.raisePeers p := ⟨_, rfl⟩
  have hlapse : s.lapse p = t := by rw [ht, hu, hv, hw]; rfl
  have tframe : t = { u with ports := t.ports } := ht ▸ u.raisePeers_eq p
  have uframe : u = { v with arb := u.arb, ports := u.ports } := hu ▸ v.lapseGrant_eq p
  have vframe := w.lapseNotices_eq p
  rw [← hv] at vframe
  have tport := u.raisePeers_port p
  rw [← ht] at tport
  have uport := v.lapseGrant_port p
  rw [← hu] at uport
  have vport := w.lapseNotices_port p
  rw [← hv] at vport
  have wport (q : Port) : w.port q = if q = p then { s.port q with monitor := .lapsed, heartbeat := none } else s.port q := by
    rw [hw, State.lapsed, State.port_updPort]
  have varb : v.arb = s.arb := by rw [vframe, hw]; rfl
  have vsetup : v.setup = s.setup := by rw [vframe, hw]; rfl
  have tarb : t.arb = u.arb := by rw [tframe]
  have vnotices : v.notices = s.notices.filter fun n => !n.tiedTo p := by
    rw [hv, State.lapseNotices_notices, hw]
    rfl
  have monitor (q : Port) : (t.port q).monitor = (w.port q).monitor := by
    rw [tport q]
    split <;> rw [uport q, vport q]
  have withdrawn (hholds : s.arb.holder = some p) : u = v.withdraw := by
    rw [hu, State.lapseGrant, if_pos (varb ▸ hholds)]
  have left (hother : s.arb.holder ≠ some p) :
      u = { v with arb := { v.arb with waiters := v.arb.waiters.filter fun x => x.port != p } } := by
    rw [hu, State.lapseGrant, if_neg (varb ▸ hother)]
  refine ⟨t, hexec.trans (congrArg _ hlapse), ?monitor, ?heartbeat, ?notices, fun q hq => ⟨?peer, ?others⟩, fun hholds => ?_,
    fun hother => ?_, ⟨w, v, u, hw, fun hfree => ?free, fun htied => ?tied, ?vframe, fun hholds => ⟨?released, uport⟩,
      fun hother => ?uports, ?uframe, tport, tframe⟩, ?tframe⟩
  case monitor => rw [monitor, wport, if_pos rfl]
  case heartbeat => rw [tport, if_pos rfl, uport, vport, wport, if_pos rfl]
  case notices => rw [tframe, uframe]; exact vnotices
  case peer =>
    rw [tport, if_neg hq, hasFlag_or, hasFlag_flag]
    simp
  case others => rw [monitor, wport, if_neg hq]
  · obtain ⟨count, staging, holder⟩ := State.withdraw_arb (varb ▸ hholds : v.arb.holder = some p)
    rw [varb] at count
    rw [varb, vsetup] at holder
    rw [tarb, withdrawn hholds]
    refine ⟨?_, count, staging, holder⟩
    rw [tport, if_pos rfl, withdrawn hholds]
    exact State.withdraw_hasFlag (varb ▸ hholds)
  · rw [tarb, left hother, ← varb]
  case free =>
    rw [hv, State.lapseNotices_free]
    rw [hw]
    refine List.any_eq_false.2 fun n hn => ?_
    have := hfree n hn
    simpa [Notice.tiedTo] using this
  case tied =>
    have tied : w.notices.any (Notice.tiedTo p) = true := by
      obtain ⟨n, hn, htrue, horigin⟩ := htied
      rw [hw]
      exact List.any_eq_true.2 ⟨n, hn, by simp [Notice.tiedTo, htrue, horigin]⟩
    have removed := w.removeNotices_removed (Notice.tiedTo p) .setup
    rw [← w.lapseNotices_tied p tied, ← hv] at removed
    refine ⟨removed.pressure, ?_, vport⟩
    have notices : w.notices = s.notices := by rw [hw]; rfl
    have boards := removed.boards
    rw [notices] at boards
    exact boards
  case vframe => rw [tframe, uframe]; exact vframe
  case released =>
    rw [withdrawn hholds, ← varb]
    exact State.withdraw_released (varb ▸ hholds)
  case uports => rw [left hother]
  case uframe => rw [tarb]; exact uframe
  case tframe => rw [tframe, uframe, vframe, hw]; rfl

end Sys2Proof.Machine
end

section
/-! PROOFS. The timetable requests (R12 to R19). A request that passes its checks gives its room another timetable, with the
pressure level re-evaluated and the room evaluated; that change is described once, and each request is a case of it. -/

namespace Sys2Proof.Machine

/-! ### Effects on a taken request, in terms of the hub before it -/

section Transfer
variable {s t : State} {p : Port} {rooms : RoomId → Bool} {o : Origin} {wakes : Bool}

theorem State.hunt_raised (s : State) (p q : Port) : ((s.hunt p).port q).raised = (s.port q).raised :=
  s.updPort_raised p (f := fun x => { x with reception := .hunting, buffer := [] }) (fun _ => rfl) q

theorem Repressed.of_take (h : Repressed (s.take p) t) : Repressed s t :=
  ⟨by simpa using h.level, fun q => by simpa [State.take_raised] using h.pace q⟩

theorem Repressed.of_hunt (h : Repressed (s.hunt p) t) : Repressed s t :=
  ⟨h.level, fun q => by simpa [State.hunt_raised] using h.pace q⟩

theorem Repressed.updPort (h : Repressed s t) (p : Port) {f : PortRecord → PortRecord}
    (hf : ∀ x, (f x).raised = x.raised) : Repressed s (t.updPort p f) :=
  ⟨h.level, fun q => t.updPort_raised p hf q ▸ h.pace q⟩

theorem Unpressed.of_take (h : Unpressed (s.take p) t) : Unpressed s t :=
  ⟨by simpa using h.level, fun q => by simpa [State.take_raised] using h.flags q⟩

theorem Unpressed.updPort (h : Unpressed s t) (p : Port) {f : PortRecord → PortRecord}
    (hf : ∀ x, (f x).raised = x.raised) : Unpressed s (t.updPort p f) :=
  ⟨h.level, fun q => t.updPort_raised p hf q ▸ h.flags q⟩

theorem Evaluated.of_take (h : Evaluated (s.take p) t rooms o wakes) : Evaluated s t rooms o wakes :=
  h.of_before (s.take_evals p) (s.take_signs p) (s.take_setup p) (s.take_quiet p) (s.take_lines p)

theorem Evaluated.of_hunt (h : Evaluated (s.hunt p) t rooms o wakes) : Evaluated s t rooms o wakes :=
  h.of_before rfl rfl rfl rfl rfl

/-- R163, R168: what an answer sends. -/
theorem State.answer_replied (s : State) (h : Header) (code : Nat) (v : Served) :
    Replied s ((s.take h.port).answer h.port code v) h code v.status v.clamped v.result := by
  refine ⟨?_, ?_⟩ <;> rw [State.answer_port_self]
  rw [State.take_address]
  rfl

end Transfer

/-! ### A room's other timetable -/

/-- A room takes another timetable; the pressure level may be re-evaluated. -/
structure Tabled (s u : State) (r : RoomId) (tt : List Entry) : Prop where
  frame : u = { s with timetables := s.timetables.set r tt, pressure := u.pressure, ports := u.ports }
  ports : ∀ q, u.port q = { s.port q with raised := (u.port q).raised }

/-- A room takes another timetable and is evaluated. -/
structure Retabled (s t : State) (r : RoomId) (tt : List Entry) (o : Origin) : Prop where
  own : t.timetable r = tt
  others : ∀ q, q ≠ r → t.timetable q = s.timetable q
  boards : Evaluated s t (fun q => q == r) o false

section Tabled
variable {s u : State} {r : RoomId} {tt : List Entry} {o : Origin}

theorem State.setTimetable_tabled (s : State) (r : RoomId) (tt : List Entry) : Tabled s (s.setTimetable r tt) r tt :=
  ⟨rfl, fun _ => rfl⟩

theorem State.setTimetable_repress_tabled (s : State) (r : RoomId) (tt : List Entry) :
    Tabled s (s.setTimetable r tt).repress r tt := ⟨State.repress_eq _, State.repress_port _⟩

theorem State.setTimetable_repressed (s : State) (r : RoomId) (tt : List Entry) :
    Repressed s (s.setTimetable r tt).repress := by
  have h := (s.setTimetable r tt).repress_repressed
  exact ⟨h.level, h.pace⟩

theorem Tabled.evaluateRoom_eq (h : Tabled s u r tt) : u.evaluateRoom r o false = { s with
    ports := (u.evaluateRoom r o false).ports, timetables := (u.evaluateRoom r o false).timetables
    evals := (u.evaluateRoom r o false).evals, pressure := (u.evaluateRoom r o false).pressure
    signs := (u.evaluateRoom r o false).signs, lines := (u.evaluateRoom r o false).lines
    quiet := (u.evaluateRoom r o false).quiet } := by
  have hv := State.eq_of_offBoard (u.evaluateRoom_offBoard r o false)
  generalize u.evaluateRoom r o false = t at hv ⊢
  rw [h.frame] at hv
  rw [hv]

theorem Tabled.evaluateRoom_port (h : Tabled s u r tt) (q : Port) : (u.evaluateRoom r o false).port q =
    { s.port q with raised := ((u.evaluateRoom r o false).port q).raised } := by
  have hport : (u.evaluateRoom r o false).port q = u.port q :=
    congrArg (·[portIndex q]) (ports_of_offBoard (u.evaluateRoom_offBoard r o false))
  rw [hport]
  exact h.ports q

theorem Tabled.retabled (h : Tabled s u r tt) : Retabled s (u.evaluateRoom r o false) r tt o := by
  have htables : (u.evaluateRoom r o false).timetables = s.timetables.set r tt := by
    rw [timetables_of_desk (desk_of_offBoard (u.evaluateRoom_offBoard r o false)), h.frame]
  have htable (q : RoomId) : (u.evaluateRoom r o false).timetable q = (s.setTimetable r tt).timetable q :=
    congrArg (·[q]) htables
  refine ⟨?_, fun q hq => ?_, ?_⟩
  · rw [htable, State.timetable_setTimetable, if_pos rfl]
  · rw [htable, State.timetable_setTimetable, if_neg hq]
  · refine Evaluated.of_before (u.evaluateRoom_evaluated r o) ?_ ?_ ?_ ?_ ?_ <;> rw [h.frame]

end Tabled

theorem Unpressed.of_offBoard {s t u : State} (h : Unpressed s t) (hu : u.offBoard = t.offBoard) : Unpressed s u :=
  ⟨(pressure_of_offBoard hu).trans h.level,
    fun q => (congrArg (fun ps : Vector PortRecord 3 => ps[portIndex q].raised) (ports_of_offBoard hu)).trans (h.flags q)⟩

/-- R12 to R19: an accepted request whose block gives a room another timetable and evaluates it. -/
theorem State.request_retabled {s : State} {h : Header} {need : Need} (a : Accepted s h need) {code : Nat}
    {cast : State → Option State} {serve : State → Served} {u : State} {r : RoomId} {tt : List Entry} {result : Result}
    (hu : Tabled (s.take h.port) u r tt)
    (hserve : serve (s.take h.port) = okWith (u.evaluateRoom r (.port h.port) false) result) :
    ∃ t, s.request h code need cast serve = t ∧ Replied s t h code .ok false result ∧
      Retabled s t r tt (.port h.port) ∧ (Repressed (s.take h.port) u → Repressed s t) ∧
      (Unpressed (s.take h.port) u → Unpressed s t) ∧ PortsAnswered s t h.port ∧
      t = { s with arb := s.arb.restarted h.port s.setup.arbiter.idleCode, ports := t.ports, timetables := t.timetables
                   evals := t.evals, pressure := t.pressure, signs := t.signs, lines := t.lines, quiet := t.quiet } := by
  have hoff := u.evaluateRoom_offBoard r (.port h.port) false
  have hframe := hu.evaluateRoom_eq (o := .port h.port)
  have hports := hu.evaluateRoom_port (o := .port h.port)
  have hmoved := hu.retabled (o := .port h.port)
  refine ⟨_, State.request_accepted a code cast serve, ?_⟩
  rw [hserve]
  generalize u.evaluateRoom r (.port h.port) false = t at hoff hframe hports hmoved ⊢
  refine ⟨s.answer_replied h code _, ⟨hmoved.own, fun q hq => (hmoved.others q hq).trans (s.take_timetable _ q),
    hmoved.boards.of_take.with_ports _⟩, fun hp => (hp.of_offBoard hoff).of_take.updPort _ fun _ => rfl,
    fun hp => (hp.of_offBoard hoff).of_take.updPort _ fun _ => rfl, State.answer_portsAnswered hports _ _, ?_⟩
  have hanswer := congrArg (fun u => (s.take h.port).answer h.port code (okWith u result)) hframe
  rw [State.take_eq] at hanswer
  rw [State.take_eq]
  exact hanswer

/-! ### The checks of a put -/

theorem yesNo?_isSome (n : Nat) : (yesNo? n).isSome = decide (n ≤ 1) := by
  match n with
  | 0 | 1 => rfl
  | n + 2 => simp [yesNo?]

section PutFields
variable (f : PutFields) (p : Port) (tt : List Entry)

theorem PutFields.timesOk_iff : PutFields.timesOk f = true ↔ PutFields.InTime f := by
  simp only [PutFields.timesOk, Bool.and_eq_true, decide_eq_true_eq, Nat.add_one_le_iff]
  exact ⟨fun ⟨⟨⟨hday, hstart⟩, hafter⟩, hstop⟩ => ⟨hday, hstart, hafter, hstop⟩,
    fun ⟨hday, hstart, hafter, hstop⟩ => ⟨⟨⟨hday, hstart⟩, hafter⟩, hstop⟩⟩

theorem PutFields.valuesOk_iff : PutFields.valuesOk f = true ↔ PutFields.InRange f := by
  simp only [PutFields.valuesOk, yesNo?_isSome, Bool.and_eq_true, decide_eq_true_eq]
  exact ⟨fun ⟨⟨⟨⟨⟨htag, htop⟩, hlow⟩, hhigh⟩, hpresenter⟩, hsupersede⟩ => ⟨htag, htop, hlow, hhigh, hpresenter, hsupersede⟩,
    fun ⟨htag, htop, hlow, hhigh, hpresenter, hsupersede⟩ => ⟨⟨⟨⟨⟨htag, htop⟩, hlow⟩, hhigh⟩, hpresenter⟩, hsupersede⟩⟩

theorem PutFields.entry_eq_stored : PutFields.entry f p = PutFields.stored f p := by
  simp [PutFields.entry, PutFields.stored]

theorem PutFields.cells_entry : (PutFields.entry f p).cells = PutFields.cells f := by
  by_cases hp : f.presenter = []
  · simp [Entry.cells, PutFields.entry, PutFields.cells, textCellsOf, optCellsOf, Config.cellBytes, hp]
  · simp [Entry.cells, PutFields.entry, PutFields.cells, textCellsOf, optCellsOf, Config.cellBytes, hp]

/-- R13: the entries that a put overlaps. -/
theorem PutFields.putOverlaps_entry : putOverlaps tt (PutFields.entry f p) = PutFields.hits f tt := by
  unfold putOverlaps PutFields.hits
  cases hc : f.marks.cancelled with
  | true =>
    rw [if_pos rfl, List.filter_eq_nil_iff]
    intro x _
    simp [Entry.clashes, PutFields.entry, hc]
  | false =>
    rw [if_neg Bool.false_ne_true]
    refine List.filter_congr fun x _ => ?_
    simp [Entry.clashes, Entry.overlaps, Entry.absStart, Entry.absEnd, PutFields.entry, hc, bne, Bool.and_assoc]
    rfl

theorem PutFields.mem_hits {x : Entry} (hx : x ∈ tt) :
    x ∈ PutFields.hits f tt ↔ (PutFields.entry f p).clashes x = true := by
  rw [← PutFields.putOverlaps_entry f p, putOverlaps, List.mem_filter, and_iff_right hx]

end PutFields

/-- R12: the checks of a put, in order, in the words of the fields. -/
theorem State.putCheck_entry (s : State) (r : RoomId) (f : PutFields) (p : Port) :
    s.putCheck r (PutFields.entry f p) (f.supersede == 1) =
      if s.clock.isSet = true ∧ f.day < s.clock.day then some .past
      else if PutFields.hits f (s.timetable r) ≠ [] ∧ f.supersede ≠ 1 then some .overlap
      else if (∀ x ∈ s.timetable r, x.tag ≠ f.tag) ∧ s.freeEntries = 0 ∧ PutFields.hits f (s.timetable r) = [] then
        some .poolFull
      else if s.freeCells + PutFields.returned f (s.timetable r) < PutFields.cells f then some .textFull
      else none := by
  have returned : replacedCells (s.timetable r) f.tag + entriesCells (PutFields.hits f (s.timetable r)) =
      PutFields.returned f (s.timetable r) := by
    unfold PutFields.returned
    rw [replacedCells_eq]
    unfold entryOf
    cases (s.timetable r).find? (fun e => e.tag == f.tag) <;> rfl
  unfold State.putCheck
  simp only [PutFields.putOverlaps_entry, PutFields.cells_entry]
  change (if s.isPast f.day = true then _ else if (!(PutFields.hits f (s.timetable r)).isEmpty && !(f.supersede == 1)) = true
    then _ else if ((entryOf (s.timetable r) f.tag).isNone &&
      decide (s.freeEntries + (PutFields.hits f (s.timetable r)).length = 0)) = true then _
    else if s.freeCells + replacedCells (s.timetable r) f.tag + entriesCells (PutFields.hits f (s.timetable r)) <
      PutFields.cells f then _ else _) = _
  rw [Nat.add_assoc, returned]
  simp [State.isPast, entryOf]

/-! ### The blocks of the requests, check by check -/

section Checks
variable {s : State} {r : RoomId}

theorem State.enabledRoom?_val (h : (s.roomSetup r).enabled = true) : s.enabledRoom? r.val = some r := by
  simp [State.enabledRoom?, h]

theorem State.enabledRoom?_none {room : Nat} (h : ∀ r : RoomId, r.val = room → (s.roomSetup r).enabled = false) :
    s.enabledRoom? room = none := by
  unfold State.enabledRoom? room?
  by_cases hroom : room < 64
  · simp [hroom, h ⟨room, hroom⟩ rfl]
  · simp [hroom]

theorem State.isHeld_iff : s.isHeld r = true ↔ r ∈ s.arb.rooms := List.contains_iff_mem

theorem State.isHeld_false (h : r ∉ s.arb.rooms) : s.isHeld r = false := by
  rwa [← Bool.not_eq_true, State.isHeld_iff]

section NoRoom
variable {p : Port} {room : Nat} (h : s.enabledRoom? room = none)
include h

theorem servePut_noRoom (f : PutFields) : servePut p room f s = refuse s .noRoom := by rw [servePut, h]
theorem serveDrop_noRoom (tag : Nat) : serveDrop p room tag s = refuse s .noRoom := by rw [serveDrop, h]
theorem serveMark_noRoom (tag : Nat) (a b : Marks) : serveMark p room tag a b s = refuse s .noRoom := by rw [serveMark, h]
theorem serveClearDay_noRoom (day : Nat) : serveClearDay p room day s = refuse s .noRoom := by rw [serveClearDay, h]

end NoRoom

section Room
variable {p : Port} (henabled : (s.roomSetup r).enabled = true)
include henabled

theorem servePut_held (f : PutFields) (h : r ∈ s.arb.rooms) : servePut p r.val f s = refuse s .held := by
  rw [servePut, State.enabledRoom?_val henabled]
  exact if_pos (State.isHeld_iff.2 h)

theorem serveDrop_held (tag : Nat) (h : r ∈ s.arb.rooms) : serveDrop p r.val tag s = refuse s .held := by
  rw [serveDrop, State.enabledRoom?_val henabled]
  exact if_pos (State.isHeld_iff.2 h)

theorem serveMark_held (tag : Nat) (a b : Marks) (h : r ∈ s.arb.rooms) : serveMark p r.val tag a b s = refuse s .held := by
  rw [serveMark, State.enabledRoom?_val henabled]
  exact if_pos (State.isHeld_iff.2 h)

theorem serveClearDay_held (day : Nat) (h : r ∈ s.arb.rooms) : serveClearDay p r.val day s = refuse s .held := by
  rw [serveClearDay, State.enabledRoom?_val henabled]
  exact if_pos (State.isHeld_iff.2 h)

variable (hfree : r ∉ s.arb.rooms)
include hfree

theorem servePut_badTime {f : PutFields} (h : ¬ PutFields.InTime f) : servePut p r.val f s = refuse s .badTime := by
  have htimes : PutFields.timesOk f = false := by rwa [← Bool.not_eq_true, PutFields.timesOk_iff]
  simp [servePut, State.enabledRoom?_val henabled, State.isHeld_false hfree, htimes]

theorem servePut_badValue {f : PutFields} (htime : PutFields.InTime f) (h : ¬ PutFields.InRange f) :
    servePut p r.val f s = refuse s .badValue := by
  have hvalues : PutFields.valuesOk f = false := by rwa [← Bool.not_eq_true, PutFields.valuesOk_iff]
  simp [servePut, State.enabledRoom?_val henabled, State.isHeld_false hfree, (PutFields.timesOk_iff f).2 htime, hvalues]

/-- R12 to R15: a put whose fields are in range is refused by its later checks, or stored. -/
theorem servePut_checked {f : PutFields} (htime : PutFields.InTime f) (hrange : PutFields.InRange f) :
    servePut p r.val f s = match s.putCheck r (PutFields.entry f p) (f.supersede == 1) with
      | some st => refuse s st
      | none => okWith ((s.setTimetable r (putTimetable (s.timetable r) (PutFields.entry f p))).repress.evaluateRoom r
          (.port p) false)
          (.put (entryOf (s.timetable r) f.tag).isSome (PutFields.hits f (s.timetable r)).length) := by
  rw [servePut, State.enabledRoom?_val henabled]
  simp only [State.isHeld_false hfree, (PutFields.timesOk_iff f).2 htime, (PutFields.valuesOk_iff f).2 hrange,
    PutFields.putOverlaps_entry, Bool.not_true, Bool.false_eq_true, if_false]
  rfl

theorem servePut_refused {f : PutFields} {st : Status} (htime : PutFields.InTime f) (hrange : PutFields.InRange f)
    (h : s.putCheck r (PutFields.entry f p) (f.supersede == 1) = some st) : servePut p r.val f s = refuse s st := by
  rw [servePut_checked henabled hfree htime hrange, h]

theorem serveDrop_eq (tag : Nat) : serveDrop p r.val tag s = if (entryOf (s.timetable r) tag).isNone then refuse s .noEntry
    else okWith ((s.setTimetable r (dropTimetable (s.timetable r) tag)).repress.evaluateRoom r (.port p) false) .empty := by
  rw [serveDrop, State.enabledRoom?_val henabled]
  exact if_neg (by simp [State.isHeld_false hfree])

theorem serveMark_noEntry {tag : Nat} (a b : Marks) (h : entryOf (s.timetable r) tag = none) :
    serveMark p r.val tag a b s = refuse s .noEntry := by
  simp [serveMark, State.enabledRoom?_val henabled, State.isHeld_false hfree, h]

theorem serveMark_entry {tag : Nat} {e : Entry} (a b : Marks) (h : entryOf (s.timetable r) tag = some e) :
    serveMark p r.val tag a b s = if markOverlaps (s.timetable r) e (Marks.change e.marks a b) then refuse s .overlap
      else if e.marks = Marks.change e.marks a b then okWith s (.marks (Marks.change e.marks a b))
      else okWith ((s.setTimetable r (markTimetable (s.timetable r) tag (Marks.change e.marks a b) p)).evaluateRoom r
        (.port p) false) (.marks (Marks.change e.marks a b)) := by
  rw [serveMark, State.enabledRoom?_val henabled]
  simp only [State.isHeld_false hfree, h, Bool.false_eq_true, if_false]

theorem serveClearDay_eq (day : Nat) : serveClearDay p r.val day s = if 15 < day then refuse s .badTime
    else if ((s.timetable r).filter (fun e => e.day == day)).length = 0 then okWith s (.count 0)
    else okWith ((s.setTimetable r (clearTimetable (s.timetable r) day)).repress.evaluateRoom r (.port p) false)
      (.count ((s.timetable r).filter (fun e => e.day == day)).length) := by
  rw [serveClearDay, State.enabledRoom?_val henabled]
  exact if_neg (by simp [State.isHeld_false hfree])

end Room
end Checks

/-! ### Marks -/

/-- R17: the marks after a change, mark by mark. -/
theorem Marks.change_eq (old a b : Marks) : Marks.change old a b = changedMarks old a b := by
  have bit (x c k : Bool) : ((x && !c) || k) = if k = true then true else if c = true then false else x := by
    cases x <;> cases c <;> cases k <;> rfl
  simp only [Marks.change, changedMarks, bit]

/-- R17: when un-cancelling meets an overlap. -/
theorem markOverlaps_iff (tt : List Entry) (e : Entry) (new : Marks) :
    markOverlaps tt e new = true ↔ Entry.revives e new tt := by
  have clashes (x : Entry) : Entry.clashes { e with marks := new } x = true ↔ new.cancelled = false ∧
      x.marks.cancelled = false ∧ x.tag ≠ e.tag ∧ x.absStart < e.absEnd ∧ e.absStart < x.absEnd := by
    simp only [Entry.clashes, Entry.overlaps, Bool.and_eq_true, decide_eq_true_eq, Bool.not_eq_true', bne_iff_ne, and_assoc]
    exact Iff.rfl
  unfold markOverlaps Entry.revives
  rw [Bool.and_eq_true, Bool.and_eq_true, Bool.not_eq_true', List.any_eq_true, and_assoc]
  refine and_congr_right fun _ => and_congr_right fun hnew => exists_congr fun x => and_congr_right fun _ => ?_
  rw [clashes, and_iff_right hnew]

/-! ### The obligations -/

/-- R8: what the timetable holds after a put. -/
theorem mem_putTimetable {tt : List Entry} {f : PutFields} {p : Port} {x : Entry} :
    x ∈ putTimetable tt (PutFields.entry f p) ↔ x = PutFields.stored f p ∨
      (x ∈ tt ∧ x.tag ≠ f.tag ∧ x ∉ PutFields.hits f tt) := by
  rw [putTimetable, (insertEntry_perm _ _).mem_iff, List.mem_cons, List.mem_filter, PutFields.entry_eq_stored]
  refine or_congr_right (and_congr_right fun hx => ?_)
  rw [PutFields.mem_hits f p tt hx, Bool.and_eq_true, bne_iff_ne, Bool.not_eq_true', Bool.not_eq_true,
    PutFields.entry_eq_stored]
  rfl

/-- R8: a put keeps the order. -/
theorem putTimetable_ordered {tt : List Entry} (e : Entry) (h : tt.Pairwise fun a b => a.before b = true) :
    (putTimetable tt e).Pairwise fun a b => a.before b = true :=
  insertEntry_ordered (h.filter _) fun x hx => by
    have := (List.mem_filter.1 hx).2
    rw [Bool.and_eq_true, bne_iff_ne] at this
    exact this.1

/-- R15: whether a put replaces an entry. -/
theorem entryOf_isSome (tt : List Entry) (tag : Nat) :
    (entryOf tt tag).isSome = tt.any fun x => x.tag == tag := by
  rw [Bool.eq_iff_iff, entryOf, List.find?_isSome, List.any_eq_true]

theorem State.take_putCheck (s : State) (p : Port) (r : RoomId) (e : Entry) (supersede : Bool) :
    (s.take p).putCheck r e supersede = s.putCheck r e supersede := by
  rw [State.take_eq]
  rfl

/-- Settles O27: the checks of the put come to none, and the block gives the room the timetable with the entry in it. -/
theorem putEntryStores : Obligations.PutEntryStores := by
  unfold Obligations.PutEntryStores
  intro s h r f a henabled hfree htime hrange hpast hhits hpool hcells
  have hcheck : s.putCheck r (PutFields.entry f h.port) (f.supersede == 1) = none := by
    rw [State.putCheck_entry, if_neg, if_neg, if_neg, if_neg (Nat.not_lt.2 hcells)]
    · rintro ⟨hnew, hfull, hnone⟩
      rw [hfull, hnone] at hpool
      rcases hpool with hpool | hpool
      · obtain ⟨x, hx, htag⟩ := List.any_eq_true.1 hpool
        exact hnew x hx (eq_of_beq htag)
      · exact absurd hpool (Nat.lt_irrefl 0)
    · exact fun ⟨hsome, hkeep⟩ => hhits.elim hsome hkeep
    · exact fun ⟨hset, hlt⟩ => Nat.not_le.2 hlt (hpast hset)
  have hserve : servePut h.port r.val f (s.take h.port) = _ :=
    servePut_checked ((s.take_roomSetup h.port r).symm ▸ henabled) (by simpa using hfree) htime hrange
  rw [State.take_putCheck, hcheck] at hserve
  obtain ⟨t, hexec, hreply, hmoved, hpressed, -, hports, hframe⟩ :=
    State.request_retabled a (code := 0x10) (cast := noCast) (State.setTimetable_repress_tabled _ _ _) hserve
  rw [State.take_timetable, entryOf_isSome] at hreply
  have hown := hmoved.own
  rw [State.take_timetable] at hown
  exact ⟨t, congrArg Host.Outcome.next hexec, hreply, fun x => by rw [hown, mem_putTimetable],
    fun ho => by rw [hown]; exact putTimetable_ordered _ ho, hmoved.others, hpressed (State.setTimetable_repressed _ _ _),
    hmoved.boards, hports, hframe⟩

/-- R12 to R19: what a refusal of the block comes to. -/
theorem State.exec_refused {s : State} {h : Header} {need : Need} {code : Nat} {serve : State → Served} {st : Status}
    (a : Accepted s h need) (hserve : serve (s.take h.port) = refuse (s.take h.port) st) :
    Host.Outcome.next (s.request h code need noCast serve) =
      (.next (s.answeredWith h code st .empty) : Host.Outcome State Fault Refusal) :=
  congrArg Host.Outcome.next (State.request_refuse a hserve)

/-- Settles O28: each refusal is the block's, in the order of its checks. -/
theorem timetableRequestsRefuse : Obligations.TimetableRequestsRefuse := by
  unfold Obligations.TimetableRequestsRefuse
  refine ⟨fun s h r f a henabled hfree => ?put, fun s h room tag day f m1 m2 a => ⟨fun hno => ?noRoom, ?rooms⟩⟩
  case put =>
    have enabled : ((s.take h.port).roomSetup r).enabled = true := (s.take_roomSetup h.port r).symm ▸ henabled
    have free : r ∉ (s.take h.port).arb.rooms := by simpa using hfree
    refine ⟨fun hout => State.exec_refused a (servePut_badTime enabled free hout),
      fun htime hout => State.exec_refused a (servePut_badValue enabled free htime hout), fun htime hrange => ?_⟩
    have refused {st : Status} (hcheck : s.putCheck r (PutFields.entry f h.port) (f.supersede == 1) = some st) :
        exec (.putEntry h r.val f) s = .next (s.answeredWith h 0x10 st .empty) :=
      State.exec_refused a (servePut_refused enabled free htime hrange ((s.take_putCheck _ _ _ _).trans hcheck))
    rw [State.putCheck_entry] at refused
    refine ⟨fun hset hlt => refused (if_pos ⟨hset, hlt⟩), fun hpast => ?_⟩
    rw [if_neg fun ⟨hset, hlt⟩ => Nat.not_le.2 hlt (hpast hset)] at refused
    refine ⟨fun hsome hkeep => refused (if_pos ⟨hsome, by omega⟩), fun hhits => ?_⟩
    rw [if_neg fun ⟨hsome, hkeep⟩ => hhits.elim hsome hkeep] at refused
    refine ⟨fun hnew hfull hnone => refused (if_pos ⟨hnew, hfull, hnone⟩), fun hroom hcells => refused ?_⟩
    rw [if_neg, if_pos hcells]
    rintro ⟨hnew, hfull, hnone⟩
    rcases hroom with ⟨x, hx, htag⟩ | hroom | hroom
    · exact hnew x hx htag
    · exact absurd hfull (Nat.ne_of_gt hroom)
    · exact hroom hnone
  case noRoom =>
    have none : (s.take h.port).enabledRoom? room = none := State.enabledRoom?_none (by simpa using hno)
    exact ⟨State.exec_refused a (servePut_noRoom none f), State.exec_refused a (serveDrop_noRoom none tag),
      State.exec_refused a (serveMark_noRoom none tag m1 m2), State.exec_refused a (serveClearDay_noRoom none day)⟩
  case rooms =>
    rintro r rfl henabled
    have enabled : ((s.take h.port).roomSetup r).enabled = true := (s.take_roomSetup h.port r).symm ▸ henabled
    refine ⟨fun hheld => ?_, fun hfree => ?_⟩
    · have held : r ∈ (s.take h.port).arb.rooms := by simpa using hheld
      exact ⟨State.exec_refused a (servePut_held enabled f held), State.exec_refused a (serveDrop_held enabled tag held),
        State.exec_refused a (serveMark_held enabled tag m1 m2 held),
        State.exec_refused a (serveClearDay_held enabled day held)⟩
    · have free : r ∉ (s.take h.port).arb.rooms := by simpa using hfree
      refine ⟨fun hno => ?_, fun e he hrevives => ?_, fun hday => ?_⟩
      · have none : entryOf ((s.take h.port).timetable r) tag = none := by simpa [entryOf] using hno
        refine ⟨State.exec_refused a ?_, State.exec_refused a (serveMark_noEntry enabled free m1 m2 none)⟩
        rw [serveDrop_eq enabled free, none]
        rfl
      · have found : entryOf ((s.take h.port).timetable r) tag = some e := (s.take_timetable h.port r).symm ▸ he
        refine State.exec_refused a ?_
        rw [serveMark_entry enabled free m1 m2 found, Marks.change_eq, State.take_timetable]
        exact if_pos ((markOverlaps_iff _ _ _).2 hrevives)
      · refine State.exec_refused a ?_
        rw [serveClearDay_eq enabled free]
        exact if_pos hday

/-- Settles O29: each of the three gives the room its timetable, or finds nothing to change. -/
theorem dropMarkAndClearChange : Obligations.DropMarkAndClearChange := by
  unfold Obligations.DropMarkAndClearChange
  intro s h r a henabled hfree
  have enabled : ((s.take h.port).roomSetup r).enabled = true := (s.take_roomSetup h.port r).symm ▸ henabled
  have free : r ∉ (s.take h.port).arb.rooms := by simpa using hfree
  refine ⟨fun tag hsome => ?drop, fun tag m1 m2 e he hkeeps => ⟨fun hsame => ?same, fun hother => ?mark⟩,
    fun day hday => ⟨fun hno => ?idle, fun hsome => ?clear⟩⟩
  case drop =>
    have found : (entryOf (s.timetable r) tag).isNone = false := by simpa [entryOf] using hsome
    have hserve : serveDrop h.port r.val tag (s.take h.port) = _ := serveDrop_eq enabled free tag
    rw [State.take_timetable, found, if_neg Bool.false_ne_true] at hserve
    obtain ⟨t, hexec, hreply, hmoved, hpressed, -, hports, hframe⟩ :=
      State.request_retabled a (code := 0x11) (cast := noCast) (State.setTimetable_repress_tabled _ _ _) hserve
    exact ⟨t, congrArg Host.Outcome.next hexec, hreply, hmoved.own, hmoved.others,
      hpressed (State.setTimetable_repressed _ _ _), hmoved.boards, hports, hframe⟩
  case same =>
    have found : entryOf ((s.take h.port).timetable r) tag = some e := (s.take_timetable h.port r).symm ▸ he
    refine congrArg Host.Outcome.next (State.request_okWith a ?_)
    rw [serveMark_entry enabled free m1 m2 found, Marks.change_eq, State.take_timetable,
      if_neg fun ho => hkeeps ((markOverlaps_iff _ _ _).1 ho), hsame, if_pos rfl]
  case mark =>
    have found : entryOf ((s.take h.port).timetable r) tag = some e := (s.take_timetable h.port r).symm ▸ he
    have hserve : serveMark h.port r.val tag m1 m2 (s.take h.port) = _ := serveMark_entry enabled free m1 m2 found
    rw [Marks.change_eq, State.take_timetable, if_neg fun ho => hkeeps ((markOverlaps_iff _ _ _).1 ho),
      if_neg hother.symm] at hserve
    obtain ⟨t, hexec, hreply, hmoved, -, hpressed, hports, hframe⟩ :=
      State.request_retabled a (code := 0x12) (cast := noCast) (State.setTimetable_tabled _ _ _) hserve
    have hlevel : Unpressed s t := hpressed ⟨rfl, fun _ => rfl⟩
    rw [hlevel.level] at hframe
    refine ⟨t, congrArg Host.Outcome.next hexec, hreply, ?_, hmoved.others, hlevel, hmoved.boards, hports, hframe⟩
    rw [hmoved.own]
    refine List.map_congr_left fun x _ => ?_
    simp
  case idle =>
    have none : ((s.timetable r).filter fun e => e.day == day).length = 0 := by simpa using hno
    refine congrArg Host.Outcome.next (State.request_okWith a ?_)
    rw [serveClearDay_eq enabled free, if_neg (Nat.not_lt.2 hday), State.take_timetable, if_pos none]
  case clear =>
    have some : ((s.timetable r).filter fun e => e.day == day).length ≠ 0 := by simpa using hsome
    have hserve : serveClearDay h.port r.val day (s.take h.port) = _ := serveClearDay_eq enabled free day
    rw [if_neg (Nat.not_lt.2 hday), State.take_timetable, if_neg some] at hserve
    obtain ⟨t, hexec, hreply, hmoved, hpressed, -, hports, hframe⟩ :=
      State.request_retabled a (code := 0x13) (cast := noCast) (State.setTimetable_repress_tabled _ _ _) hserve
    exact ⟨t, congrArg Host.Outcome.next hexec, hreply, hmoved.own, hmoved.others,
      hpressed (State.setTimetable_repressed _ _ _), hmoved.boards, hports, hframe⟩

end Sys2Proof.Machine
end

section
/-! PROOFS. POST_NOTICE (R58 to R67). The checks of a post are one chain of refusals in the words of its fields; what passes
stores its record, re-evaluates the level, evaluates the rooms and is a wake cause. -/

namespace Sys2Proof.Machine

/-! ### Lists of rooms -/

/-- R62, R76: a list that names a room above 63 or a disabled one is refused. -/
theorem State.enabledRooms?_none {s : State} {l : List Nat}
    (h : ∃ n ∈ l, ∀ r : RoomId, r.val = n → (s.roomSetup r).enabled = false) : s.enabledRooms? l = none := by
  obtain ⟨n, hn, hoff⟩ := h
  induction l with
  | nil => cases hn
  | cons m l ih =>
    unfold State.enabledRooms?
    rcases List.mem_cons.1 hn with rfl | hn
    · rw [State.enabledRoom?_none hoff]
    · rw [ih hn]
      cases s.enabledRoom? m <;> rfl

/-- R62, R76: a list of enabled rooms names them. -/
theorem State.enabledRooms?_map {s : State} {rooms : List RoomId} (h : ∀ r ∈ rooms, (s.roomSetup r).enabled = true) :
    s.enabledRooms? (rooms.map Fin.val) = some rooms := by
  induction rooms with
  | nil => rfl
  | cons r rooms ih =>
    obtain ⟨hr, hrooms⟩ := List.forall_mem_cons.1 h
    show (match s.enabledRoom? r.val, s.enabledRooms? (rooms.map Fin.val) with
      | some r, some rs => some (r :: rs)
      | _, _ => none) = _
    rw [State.enabledRoom?_val hr, ih hrooms]

/-- Numbers that each name an enabled room are the numbers of a list of rooms. -/
theorem exists_rooms {s : State} {l : List Nat} (h : ∀ n ∈ l, ∃ r : RoomId, r.val = n ∧ (s.roomSetup r).enabled = true) :
    ∃ rooms : List RoomId, l = rooms.map Fin.val ∧ ∀ r ∈ rooms, (s.roomSetup r).enabled = true := by
  induction l with
  | nil => exact ⟨[], rfl, fun r hr => absurd hr List.not_mem_nil⟩
  | cons n l ih =>
    obtain ⟨⟨r, rfl, hr⟩, hl⟩ := List.forall_mem_cons.1 h
    obtain ⟨rooms, rfl, hrooms⟩ := ih hl
    exact ⟨r :: rooms, rfl, List.forall_mem_cons.2 ⟨hr, hrooms⟩⟩

/-! ### The checks of a post -/

theorem level?_isSome (n : Nat) : (level? n).isSome = decide (n ≤ 2) := by
  match n with
  | 0 | 1 | 2 => rfl
  | n + 3 => simp [level?]

/-- R61, check 1: the ranges of the fields. -/
structure PostFields.InRange (f : PostFields) : Prop where
  idLow : 1 ≤ f.id
  idHigh : f.id ≤ 255
  level : f.level ≤ 2
  textLow : 1 ≤ f.text.length
  textHigh : f.text.length ≤ 96
  target : f.target.length ≤ 16
  tied : f.tied ≤ 1

theorem PostFields.valuesOk_iff (f : PostFields) : PostFields.valuesOk f = true ↔ PostFields.InRange f := by
  simp only [PostFields.valuesOk, yesNo?_isSome, level?_isSome, Bool.and_eq_true, decide_eq_true_eq]
  exact ⟨fun ⟨⟨⟨⟨⟨⟨hlow, hhigh⟩, hlevel⟩, htext⟩, htop⟩, htarget⟩, htied⟩ => ⟨hlow, hhigh, hlevel, htext, htop, htarget, htied⟩,
    fun ⟨hlow, hhigh, hlevel, htext, htop, htarget, htied⟩ => ⟨⟨⟨⟨⟨⟨hlow, hhigh⟩, hlevel⟩, htext⟩, htop⟩, htarget⟩, htied⟩⟩

section PostCheck
variable {s : State} {f : PostFields}

theorem State.postCheck_badValue (h : ¬ PostFields.InRange f) : s.postCheck f = .error .badValue :=
  if_pos (by rw [Bool.not_eq_true', ← Bool.not_eq_true, PostFields.valuesOk_iff]; exact h)

theorem State.postCheck_noRoom (hrange : PostFields.InRange f) (h : s.enabledRooms? f.target = none) :
    s.postCheck f = .error .noRoom := by
  rw [State.postCheck, if_neg (by simp [(PostFields.valuesOk_iff f).2 hrange]), h]

/-- R61 to R64: the checks of a post in range on enabled rooms, in order. -/
theorem State.postCheck_eq (hrange : PostFields.InRange f) {rooms : List RoomId} (htarget : f.target = rooms.map Fin.val)
    (henabled : ∀ r ∈ rooms, (s.roomSetup r).enabled = true) : s.postCheck f =
      if ¬ rooms.Nodup then .error .badValue
      else if f.expiry ≠ 0 ∧ s.clock.isSet = false then .error .untimed
      else if f.expiry ≠ 0 ∧ (f.expiry ≤ s.clock.day * 1440 + s.clock.minute ∨ 23039 < f.expiry) then .error .badTime
      else if (∀ n ∈ s.notices, n.id ≠ f.id) ∧ 16 ≤ s.notices.length then .error .tableFull
      else if s.freeCells + s.replacedText f.id < (f.text.length + 15) / 16 then .error .textFull
      else .ok (if rooms = [] then .all else .rooms rooms) := by
  have hrooms : s.enabledRooms? f.target = some rooms := htarget ▸ State.enabledRooms?_map henabled
  have hnew : (s.noticeOf f.id).isNone = true ↔ ∀ n ∈ s.notices, n.id ≠ f.id := by simp [State.noticeOf]
  have hempty : f.target.isEmpty = true ↔ rooms = [] := by simp [htarget]
  rw [State.postCheck, if_neg (by simp [(PostFields.valuesOk_iff f).2 hrange]), hrooms]
  change (if _ then _ else if _ then _ else if _ ∧ (f.expiry ≤ s.clock.day * 1440 + s.clock.minute ∨ _) then _
    else if _ ∧ 16 ≤ s.notices.length then _
    else if s.freeCells + s.replacedText f.id < (f.text.length + 15) / 16 then _ else _) = _
  simp only [hnew, hempty, Bool.not_eq_true', decide_eq_false_iff_not]

end PostCheck

/-! ### What is refused and what is dropped -/

@[simp] theorem State.take_enabledRooms? (s : State) (p : Port) (l : List Nat) : (s.take p).enabledRooms? l = s.enabledRooms? l := by
  induction l with
  | nil => rfl
  | cons n l ih =>
    unfold State.enabledRooms?
    rw [ih]
    have room : (s.take p).enabledRoom? n = s.enabledRoom? n := by simp [State.enabledRoom?]
    rw [room]

theorem State.take_postCheck (s : State) (p : Port) (f : PostFields) : (s.take p).postCheck f = s.postCheck f := by
  unfold State.postCheck
  simp only [State.take_enabledRooms?, State.take_clock, State.take_noticeOf, State.take_notices, State.take_freeCells]

theorem State.hunt_enabledRooms? (s : State) (p : Port) (l : List Nat) : (s.hunt p).enabledRooms? l = s.enabledRooms? l := by
  induction l with
  | nil => rfl
  | cons n l ih =>
    unfold State.enabledRooms?
    rw [ih]
    rfl

theorem State.hunt_postCheck (s : State) (p : Port) (f : PostFields) : (s.hunt p).postCheck f = s.postCheck f := by
  unfold State.postCheck
  rw [State.hunt_enabledRooms?]
  rfl

section Refused
variable {s : State} {h : Header} {f : PostFields}

/-- R61: a direct post that fails a check is refused with the first that fails. -/
theorem exec_postNotice_refused (a : Accepted s h .notice) {st : Status} (hcheck : s.postCheck f = .error st) :
    exec (.postNotice h f) s = .next (s.answeredWith h 0x20 st .empty) := by
  refine congrArg Host.Outcome.next (State.request_refuse a ?_)
  rw [servePost, State.take_postCheck, hcheck]

/-- R67: a broadcast post that fails a check is dropped. -/
theorem exec_postNotice_dropped (c : Cast s h)
    (hbad : (s.portSetup h.port).roles.notice = false ∨ f.target ≠ [] ∨ ∀ t, s.postCheck f ≠ .ok t) :
    exec (.postNotice h f) s = exec (.broadcastDropped h.port) s := by
  refine State.request_dropped c ?_
  unfold castPost
  rw [State.hunt_portSetup, State.take_portSetup, State.hunt_postCheck, State.take_postCheck]
  rcases hbad with hrole | htarget | hcheck
  · exact if_pos (by simp [Need.met, hrole])
  · rw [if_pos (show (!f.target.isEmpty) = true by simpa using htarget)]
    split <;> rfl
  · cases hpost : s.postCheck f with
    | error st =>
      split
      · rfl
      · split <;> rfl
    | ok t => exact absurd hpost (hcheck t)

end Refused

/-- R64: the cells of a record's text, if there is a record. -/
def noticeCellsOf (n : Option Notice) : Nat :=
  match n with
  | none => 0
  | some n => (n.text.length + 15) / 16

theorem State.replacedText_eq (s : State) (id : Nat) :
    s.replacedText id = noticeCellsOf (s.notices.find? fun n => n.id == id) := by
  unfold State.replacedText State.noticeOf
  cases s.notices.find? (fun n => n.id == id) <;> rfl

/-- A chain of refusals that ends in OK passed its first check. -/
theorem of_ite_error_eq_ok {ε α : Type} {c : Prop} [Decidable c] {st : ε} {e : Except ε α} {t : α}
    (h : (if c then .error st else e) = .ok t) : ¬ c ∧ e = .ok t := by
  split at h
  · cases h
  · next hc => exact ⟨hc, h⟩

/-- Settles O38: the refusals are those of the chain of checks, and a broadcast is dropped wherever the chain ends in one. -/
theorem postNoticeRefusals : Obligations.PostNoticeRefusals := by
  unfold Obligations.PostNoticeRefusals
  refine fun s h f => ⟨fun c hbad => exec_postNotice_dropped c ?_, fun a => ⟨fun hbad => exec_postNotice_refused a ?_,
    fun hlow hhigh hlevel htext htop htarget htied => ?_⟩⟩
  · refine or_iff_not_imp_left.2 fun hrole => or_iff_not_imp_left.2 fun htarget t hok => ?_
    have hempty : f.target = [] := not_ne_iff.1 htarget
    have hrange : PostFields.InRange f := by
      by_contra hout
      rw [State.postCheck_badValue hout] at hok
      cases hok
    rw [State.postCheck_eq hrange (rooms := []) hempty fun r hr => absurd hr List.not_mem_nil] at hok
    obtain ⟨-, hok⟩ := of_ite_error_eq_ok hok
    obtain ⟨htimed, hok⟩ := of_ite_error_eq_ok hok
    obtain ⟨hearly, hok⟩ := of_ite_error_eq_ok hok
    obtain ⟨hplace, hok⟩ := of_ite_error_eq_ok hok
    obtain ⟨hroom, -⟩ := of_ite_error_eq_ok hok
    obtain ⟨hlow, hhigh, hlevel, htext, htop, -, htied⟩ := hrange
    rcases (hbad.resolve_left hrole).resolve_left htarget with hout | ⟨hexpiry, hunset | hlate⟩ | hfull | hcells
    · rw [← List.length_eq_zero_iff] at hout
      omega
    · exact htimed ⟨hexpiry, hunset⟩
    · exact hearly ⟨hexpiry, hlate⟩
    · exact hplace hfull
    · change s.freeCells + noticeCellsOf (s.notices.find? fun n => n.id == f.id) < _ at hcells
      rw [← State.replacedText_eq] at hcells
      exact hroom hcells
  · refine State.postCheck_badValue fun hrange => ?_
    obtain ⟨hlow, hhigh, hlevel, htext, htop, htarget, htied⟩ := hrange
    rw [← List.length_eq_zero_iff] at hbad
    omega
  · have hrange : PostFields.InRange f := ⟨hlow, hhigh, hlevel, List.length_pos_iff.2 htext, htop, htarget, htied⟩
    refine ⟨fun hno => exec_postNotice_refused a (State.postCheck_noRoom hrange (State.enabledRooms?_none hno)), fun hall => ?_⟩
    obtain ⟨rooms, hrooms, henabled⟩ := exists_rooms hall
    have refused {st : Status} := exec_postNotice_refused (f := f) (st := st) a
    rw [State.postCheck_eq hrange hrooms henabled] at refused
    rw [hrooms, List.nodup_map_iff Fin.val_injective]
    refine ⟨fun htwice => refused (if_pos htwice), fun honce => ?_⟩
    rw [if_neg (not_not_intro honce)] at refused
    refine ⟨fun hexpiry hunset => refused (if_pos ⟨hexpiry, hunset⟩), fun hexpiry hset htime => refused ?_, fun htime => ?_⟩
    · rw [if_neg fun hunset => Bool.false_ne_true (hunset.2.symm.trans hset), if_pos ⟨hexpiry, htime⟩]
    · have htimed : ¬ (f.expiry ≠ 0 ∧ s.clock.isSet = false) := by
        rintro ⟨hexpiry, hunset⟩
        rcases htime with hnone | ⟨hset, -⟩
        · exact hexpiry hnone
        · exact Bool.false_ne_true (hunset.symm.trans hset)
      rw [if_neg htimed, if_neg (by omega)] at refused
      refine ⟨fun hnew hfull => refused (if_pos ⟨hnew, hfull⟩), fun hroom hcells => refused ?_⟩
      change s.freeCells + noticeCellsOf (s.notices.find? fun n => n.id == f.id) < _ at hcells
      rw [← State.replacedText_eq] at hcells
      rw [if_neg, if_pos hcells]
      rintro ⟨hnew, hfull⟩
      rcases hroom with ⟨n, hn, hid⟩ | hroom
      · exact hnew n hn hid
      · omega

/-! ### What a post does -/

/-- R148: a wake cause after an evaluation. -/
theorem Evaluated.wakeCause {s t : State} {rooms : RoomId → Bool} {o : Origin} (h : Evaluated s t rooms o false) :
    Evaluated s t.wakeCause rooms o true := by
  have hd := desk_of_offBoard t.wakeCause_offBoard
  have hquiet := h.quiet
  have asleep_awake : QuietState.asleep .awake = false := rfl
  -- Either the evaluation left the controller asleep, and the cause wakes it, or it has no effect.
  have cases : (QuietState.asleep s.quiet = true ∧ t.quiet = s.quiet ∧ t.wakeCause = t.wakeLines) ∨
      (t.wakeCause = t ∧ t.quiet = if QuietState.asleep s.quiet = true then .awake else s.quiet) := by
    unfold State.wakeCause
    by_cases hasleep : QuietState.asleep t.quiet = true
    · have same : t.quiet = s.quiet := by
        rw [hquiet] at hasleep ⊢
        split
        · next hc => rw [if_pos hc, asleep_awake] at hasleep; cases hasleep
        · rfl
      exact .inl ⟨same ▸ hasleep, same, if_pos hasleep⟩
    · refine .inr ⟨if_neg hasleep, ?_⟩
      rw [hquiet] at hasleep ⊢
      split
      · next hc => rw [if_pos hc.1]
      · next hc => rw [if_neg hc] at hasleep; rw [if_neg hasleep]
  refine ⟨fun r => ?boards, fun i => ?signs, ?quiet, ?woken, ?lines⟩
  case boards =>
    rw [State.wakeCause_eval, roomSetup_of_desk hd, timetable_of_desk hd, notices_of_desk hd, clock_of_desk hd]
    exact h.boards r
  case signs =>
    rw [State.wakeCause_sign, h.signs i]
    cases s.mapping i with
    | none => rfl
    | some m => simp only [State.wakeCause_eval, roomSetup_of_desk hd]
  case quiet =>
    simp only [true_or, and_true]
    rcases cases with ⟨hasleep, -, heq⟩ | ⟨heq, hq⟩
    · rw [heq, if_pos hasleep]
      rfl
    · rw [heq, hq]
  case woken =>
    rcases cases with ⟨-, same, heq⟩ | ⟨heq, -⟩
    · intro _ l
      have mode := (h.lines l (.inl same)).mode
      rw [heq, State.wakeLines_woken t l, ← mode]
      split
      · rfl
      · rfl
    · rw [heq]
      exact h.woken
  case lines =>
    rcases cases with ⟨hasleep, same, heq⟩ | ⟨heq, -⟩
    · intro l hl
      have still := h.lines l (.inl same)
      have awake : (s.line l).mode ≠ .quiet := by
        rcases hl with hl | hl
        · rw [heq] at hl
          rw [← hl] at hasleep
          cases hasleep
        · exact hl
      rw [heq, State.wakeLines_line, still.mode, if_neg (by simpa using awake)]
      exact still
    · rw [heq]
      exact h.lines

/-- R22, R58: the hub once a notice is stored and the level re-evaluated, before the evaluation. -/
def State.postedWith (s : State) (n : Notice) : State :=
  ({ s with notices := s.withoutNotice n.id ++ [n] }).repress

/-- R60, R65, R66: what a post does to the hub. -/
structure Posted (s t : State) (n : Notice) (o : Origin) : Prop where
  notices : t.notices = s.withoutNotice n.id ++ [n]
  pressure : Repressed s t
  boards : Evaluated s t (fun r => n.targets r || (s.noticeOf n.id).any fun x => x.targets r) o true

section Store
variable (s : State) (n : Notice) (o : Origin)

theorem State.postedWith_eq : s.postedWith n = { s with
    notices := s.withoutNotice n.id ++ [n], pressure := (s.postedWith n).pressure, ports := (s.postedWith n).ports } :=
  State.repress_eq _

theorem State.postedWith_repressed : Repressed s (s.postedWith n) := by
  have h := ({ s with notices := s.withoutNotice n.id ++ [n] }).repress_repressed
  exact ⟨h.level, h.pace⟩

theorem State.storeNotice_offBoard : (s.storeNotice n o).offBoard = (s.postedWith n).offBoard :=
  (State.wakeCause_offBoard _).trans (State.evaluateRooms_offBoard _ _ _)

theorem State.storeNotice_eq : s.storeNotice n o = { s with
    ports := (s.storeNotice n o).ports, notices := (s.storeNotice n o).notices, pressure := (s.storeNotice n o).pressure
    evals := (s.storeNotice n o).evals, signs := (s.storeNotice n o).signs, lines := (s.storeNotice n o).lines
    quiet := (s.storeNotice n o).quiet } := by
  have h := State.eq_of_offBoard (s.storeNotice_offBoard n o)
  generalize s.storeNotice n o = t at h ⊢
  rw [State.postedWith_eq] at h
  rw [h]

theorem State.storeNotice_port (q : Port) :
    (s.storeNotice n o).port q = { s.port q with raised := ((s.storeNotice n o).port q).raised } := by
  have hport : (s.storeNotice n o).port q = (s.postedWith n).port q :=
    congrArg (·[portIndex q]) (ports_of_offBoard (s.storeNotice_offBoard n o))
  rw [hport]
  exact State.repress_port _ q

theorem State.storeNotice_posted : Posted s (s.storeNotice n o) n o where
  notices := by rw [notices_of_desk (desk_of_offBoard (s.storeNotice_offBoard n o)), State.postedWith_eq]
  pressure := (s.postedWith_repressed n).of_offBoard (s.storeNotice_offBoard n o)
  boards := by
    refine Evaluated.wakeCause (t := (s.postedWith n).evaluateRooms _ o) ?_
    refine Evaluated.of_before (State.evaluateRooms_evaluated _ _ _) ?_ ?_ ?_ ?_ ?_ <;> rw [State.postedWith_eq]

end Store

theorem Posted.of_take {s t : State} {p : Port} {n : Notice} {o : Origin} (h : Posted (s.take p) t n o) : Posted s t n o where
  notices := by have := h.notices; rwa [State.withoutNotice, State.take_notices] at this
  pressure := h.pressure.of_take
  boards := by have := h.boards.of_take; rwa [State.take_noticeOf] at this

theorem Posted.of_hunt {s t : State} {p : Port} {n : Notice} {o : Origin} (h : Posted (s.hunt p) t n o) : Posted s t n o where
  notices := h.notices
  pressure := h.pressure.of_hunt
  boards := h.boards.of_hunt

section Post
variable {s : State} {h : Header} {f : PostFields} {t : Target} (hcheck : s.postCheck f = .ok t)
include hcheck

/-- R65, R66: a direct post that passes its checks. -/
theorem exec_postNotice_posts (a : Accepted s h .notice) : ∃ u, exec (.postNotice h f) s = .next u ∧
    Replied s u h 0x20 .ok false (.posted (s.noticeOf f.id).isSome u.notices.length) ∧
    Posted s u (PostFields.notice f t (f.tied == 1) h.port false) (.port h.port) ∧ PortsAnswered s u h.port ∧
    u = { s with arb := s.arb.restarted h.port s.setup.arbiter.idleCode, ports := u.ports, notices := u.notices
                 pressure := u.pressure, evals := u.evals, signs := u.signs, lines := u.lines, quiet := u.quiet } := by
  have hserve : servePost h.port f (s.take h.port) = okWith ((s.take h.port).storeNotice
      (PostFields.notice f t (f.tied == 1) h.port false) (.port h.port)) (.posted (s.noticeOf f.id).isSome
        ((s.take h.port).storeNotice (PostFields.notice f t (f.tied == 1) h.port false) (.port h.port)).notices.length) := by
    rw [servePost, State.take_postCheck, hcheck, State.take_noticeOf]
  generalize PostFields.notice f t (f.tied == 1) h.port false = n at hserve ⊢
  have hframe := (s.take h.port).storeNotice_eq n (.port h.port)
  have hports := (s.take h.port).storeNotice_port n (.port h.port)
  have hposted := ((s.take h.port).storeNotice_posted n (.port h.port)).of_take
  refine ⟨_, congrArg Host.Outcome.next (State.request_accepted a 0x20 _ _), ?_⟩
  rw [hserve]
  generalize (s.take h.port).storeNotice n (.port h.port) = u at hframe hports hposted ⊢
  exact ⟨s.answer_replied h _ _, ⟨hposted.notices, hposted.pressure.updPort _ fun _ => rfl, hposted.boards.with_ports _⟩,
    State.answer_portsAnswered hports _ _, State.eq_of_taken_removal (congrArg (fun u => (s.take h.port).answer h.port 0x20
      (okWith u (.posted (s.noticeOf f.id).isSome u.notices.length))) hframe)⟩

/-- R67: a broadcast post that passes its checks. -/
theorem exec_postNotice_cast (c : Cast s h) (hrole : (s.portSetup h.port).roles.notice = true) (htarget : f.target = []) :
    ∃ u, exec (.postNotice h f) s = .next u ∧ Posted s u (PostFields.notice f t false h.port true) .setup ∧
      PortsCast s u h.port ∧
      u = { s with arb := s.arb.restarted h.port s.setup.arbiter.idleCode, ports := u.ports, notices := u.notices
                   pressure := u.pressure, evals := u.evals, signs := u.signs, lines := u.lines, quiet := u.quiet } := by
  have hcast : castPost h.port f ((s.take h.port).hunt h.port) =
      some (((s.take h.port).hunt h.port).storeNotice (PostFields.notice f t false h.port true) .setup) := by
    unfold castPost
    rw [State.hunt_portSetup, State.take_portSetup, State.hunt_postCheck, State.take_postCheck, hcheck,
      if_neg (by simp [Need.met, hrole]), if_neg (by simp [htarget])]
  refine ⟨_, congrArg Host.Outcome.next (State.request_carried c hcast), ?_, ?_, ?_⟩
  · exact (State.storeNotice_posted _ _ _).of_hunt.of_take
  · exact PortsCast.of_taken (State.storeNotice_port _ _ _)
  · exact State.eq_of_taken_removal (State.storeNotice_eq _ _ _)

end Post

theorem Notice.targets_posted {n : Notice} {rooms : List RoomId} (h : n.target = if rooms = [] then .all else .rooms rooms)
    (r : RoomId) : n.targets r = (decide (rooms = []) || rooms.contains r) := by
  unfold Notice.targets
  rw [h]
  by_cases hall : rooms = []
  · simp [hall]
  · simp [hall]

/-- Settles O37: the chain of checks ends in OK, and the record of the fields is stored. -/
theorem noticeIsPosted : Obligations.NoticeIsPosted := by
  unfold Obligations.NoticeIsPosted
  intro s h f lvl rooms hlow hhigh hlevel htext htop htarget hmany htied henabled honce htime hplace hcells
  change _ ≤ s.freeCells + noticeCellsOf (s.notices.find? fun n => n.id == f.id) at hcells
  rw [← State.replacedText_eq] at hcells
  have hlevel' : f.level ≤ 2 := by simpa [hlevel] using level?_isSome f.level
  have hrange : PostFields.InRange f := ⟨hlow, hhigh, hlevel', htext, htop, by rw [htarget, List.length_map]; exact hmany, htied⟩
  have hcheck : s.postCheck f = .ok (if rooms = [] then .all else .rooms rooms) := by
    rw [State.postCheck_eq hrange htarget henabled, if_neg (not_not_intro honce), if_neg, if_neg, if_neg,
      if_neg (Nat.not_lt.2 hcells)]
    · rintro ⟨hnew, hfull⟩
      rcases hplace with ⟨n, hn, hid⟩ | hplace
      · exact hnew n hn hid
      · omega
    · rintro ⟨hexpiry, hlate⟩
      obtain ⟨-, hearly, hlast⟩ := htime hexpiry
      omega
    · rintro ⟨hexpiry, hunset⟩
      exact Bool.false_ne_true (hunset.symm.trans (htime hexpiry).1)
  have record (tied broadcast : Bool) (t : Target) : PostFields.notice f t tied h.port broadcast =
      { id := f.id, level := lvl, target := t, text := f.text, expiry := if f.expiry = 0 then none else some f.expiry
        tied := tied, origin := h.port, broadcast := broadcast } := by
    simp [PostFields.notice, hlevel]
  refine ⟨fun a => ?_, fun c hrole hall => ?_⟩
  · obtain ⟨t, hexec, hreply, hposted, hports, hframe⟩ := exec_postNotice_posts hcheck a
    have hsome : (s.noticeOf f.id).isSome = s.notices.any fun n => n.id == f.id := by
      rw [Bool.eq_iff_iff, State.noticeOf, List.find?_isSome, List.any_eq_true]
    rw [hsome] at hreply
    rw [record] at hposted
    refine ⟨t, hexec, hreply, hposted.notices, hposted.pressure, ?_, hports, hframe⟩
    refine cast (congrArg (fun p => Evaluated s t p _ true) (funext fun r => ?_)) hposted.boards
    rw [Notice.targets_posted rfl]
    rfl
  · subst hall
    obtain ⟨t, hexec, hposted, hports, hframe⟩ := exec_postNotice_cast hcheck c hrole htarget
    rw [record] at hposted
    exact ⟨t, hexec, hposted.notices, hposted.pressure, hposted.boards, hports, hframe⟩

end Sys2Proof.Machine
end

section
/-! PROOFS. The batch (R76, R84 to R89) and the settings of the arbiter and of the faults (R82, R152). Opening and staging move
the arbiter alone; a commit runs its records on a trial copy of which only the timetables matter. -/

namespace Sys2Proof.Machine

/-! ### Requests that move the arbiter or the settings alone -/

section Request
variable {s : State} {h : Header} {need : Need} (a : Accepted s h need) {code : Nat} {cast : State → Option State}
  {serve : State → Served} {status : Status} {clamped : Bool} {result : Result}
include a

/-- A request whose block moves the arbiter alone. -/
theorem State.request_arbiter {arb : Arbiter}
    (hserve : serve (s.take h.port) = { st := { s.take h.port with arb := arb }, status := status, clamped := clamped
                                        result := result }) :
    ∃ t, s.request h code need cast serve = t ∧ Replied s t h code status clamped result ∧ t.arb = arb ∧ Unpressed s t ∧
      PortsAnswered s t h.port ∧ t = { s with arb := t.arb, ports := t.ports } := by
  refine ⟨_, State.request_accepted a code cast serve, ?_⟩
  rw [hserve]
  have hpress : Unpressed (s.take h.port) { s.take h.port with arb := arb } := ⟨rfl, fun _ => rfl⟩
  exact ⟨s.answer_replied h code _, rfl, hpress.of_take.updPort _ fun _ => rfl, State.answer_portsAnswered (fun _ => rfl) _ _,
    State.answer_eq_of_arb rfl code⟩

/-- A request whose block stores settings alone. -/
theorem State.request_settings {x : Setup}
    (hserve : serve (s.take h.port) = { st := { s.take h.port with setup := x }, status := status, clamped := clamped
                                        result := result }) :
    ∃ t, s.request h code need cast serve = t ∧ Replied s t h code status clamped result ∧ t.setup = x ∧ Unpressed s t ∧
      PortsAnswered s t h.port ∧
      t = { s with arb := s.arb.restarted h.port s.setup.arbiter.idleCode, ports := t.ports, setup := t.setup } := by
  refine ⟨_, State.request_accepted a code cast serve, ?_⟩
  rw [hserve]
  have hpress : Unpressed (s.take h.port) { s.take h.port with setup := x } := ⟨rfl, fun _ => rfl⟩
  refine ⟨s.answer_replied h code _, rfl, hpress.of_take.updPort _ fun _ => rfl,
    State.answer_portsAnswered (fun _ => rfl) _ _, ?_⟩
  rw [State.take_eq]
  rfl

end Request

/-- R77: only the holder's port restarts the idle timer. -/
theorem Arbiter.restarted_of_ne {a : Arbiter} {p : Port} (h : a.holder ≠ some p) (code : Nat) : a.restarted p code = a :=
  if_neg h

theorem Arbiter.restarted_of_holds {a : Arbiter} {p : Port} (h : a.holder = some p) (code : Nat) :
    a.restarted p code = { a with idle := some (idleTime code) } := if_pos h

/-! ### OPEN_BATCH -/

section Open
variable {s : State} {p : Port} {rooms : List Nat}

theorem serveOpen_busy (h : s.arb.holder = some p ∨ ∃ w ∈ s.arb.waiters, w.port = p) : serveOpen p rooms s = refuse s .busy :=
  if_pos (by simpa using h)

variable (hother : s.arb.holder ≠ some p) (hnew : ∀ w ∈ s.arb.waiters, w.port ≠ p)
include hother hnew

theorem serveOpen_badValue (h : rooms = [] ∨ 8 < rooms.length) : serveOpen p rooms s = refuse s .badValue := by
  rw [serveOpen, if_neg (by simpa [hother] using hnew), if_pos (by simpa using h)]

variable (hsome : rooms ≠ []) (hmany : rooms.length ≤ 8)
include hsome hmany

theorem serveOpen_noRoom (h : s.enabledRooms? rooms = none) : serveOpen p rooms s = refuse s .noRoom := by
  rw [serveOpen, if_neg (by simpa [hother] using hnew), if_neg (by simp [hsome, hmany]), h]

theorem serveOpen_rooms {rs : List RoomId} (h : s.enabledRooms? rooms = some rs) : serveOpen p rooms s =
    if ¬ rs.Nodup then refuse s .badValue
    else if s.arb.holder = none then okWith (s.grant p rs) .empty
    else { st := { s with arb := { s.arb with waiters := s.arb.waiters ++ [{ port := p, rooms := rs }] } }
           status := .queued, result := .queuedAt (s.arb.waiters.length + 1) } := by
  rw [serveOpen, if_neg (by simpa [hother] using hnew), if_neg (by simp [hsome, hmany]), h]
  simp only [Bool.not_eq_true', decide_eq_false_iff_not, Option.isNone_iff_eq_none, List.length_append, List.length_cons,
    List.length_nil]

end Open

/-- Settles O40: the checks in order, then the grant or a place in the wait list. -/
theorem batchIsOpened : Obligations.BatchIsOpened := by
  unfold Obligations.BatchIsOpened
  refine fun s h rooms a => ⟨fun hbusy => State.exec_refused a (serveOpen_busy (by simpa using hbusy)), fun hother hnew => ?_⟩
  have other : (s.take h.port).arb.holder ≠ some h.port := by simpa using hother
  have new : ∀ w ∈ (s.take h.port).arb.waiters, w.port ≠ h.port := by simpa using hnew
  have arb : (s.take h.port).arb = s.arb := (s.take_arb h.port).trans (Arbiter.restarted_of_ne hother _)
  refine ⟨fun hbad => State.exec_refused a (serveOpen_badValue other new hbad), fun hsome hmany => ⟨fun hno => ?_,
    fun rs hrs henabled => ?_⟩⟩
  · have none : (s.take h.port).enabledRooms? rooms = none := by
      rw [State.take_enabledRooms?]
      exact State.enabledRooms?_none hno
    exact State.exec_refused a (serveOpen_noRoom other new hsome hmany none)
  · have found : (s.take h.port).enabledRooms? rooms = some rs := by
      rw [State.take_enabledRooms?, hrs]
      exact State.enabledRooms?_map henabled
    have hserve : serveOpen h.port rooms (s.take h.port) = _ := serveOpen_rooms other new hsome hmany found
    rw [arb] at hserve
    refine ⟨fun htwice => State.exec_refused a (hserve.trans (if_pos htwice)), fun honce hnone => ?_, fun honce hheld => ?_⟩
    · rw [if_neg (not_not_intro honce), if_pos hnone] at hserve
      obtain ⟨t, hexec, hreply, harb, rest⟩ := State.request_arbiter a (code := 0x18) (cast := noCast) hserve
      rw [arb, State.take_setup] at harb
      exact ⟨t, congrArg Host.Outcome.next hexec, hreply, harb, rest⟩
    · rw [if_neg (not_not_intro honce), if_neg hheld] at hserve
      obtain ⟨t, hexec, hreply, harb, rest⟩ := State.request_arbiter a (code := 0x18) (cast := noCast) hserve
      exact ⟨t, congrArg Host.Outcome.next hexec, hreply, harb, rest⟩

/-! ### Staging -/

section Stage
variable {s : State} {p : Port} {room : Nat} {range : Option Status} {make : RoomId → Staged}

theorem stage_notHolder (h : s.arb.holder ≠ some p) : stage p room range make s = refuse s .notHolder := if_pos h

variable (hholds : s.arb.holder = some p)
include hholds

theorem stage_outOfBatch (h : ∀ r ∈ s.arb.rooms, r.val ≠ room) : stage p room range make s = refuse s .outOfBatch := by
  rw [stage, if_neg (not_not_intro hholds), room?]
  by_cases hroom : room < 64
  · rw [dif_pos hroom]
    exact if_pos (by simpa using fun hr => h ⟨room, hroom⟩ hr rfl)
  · rw [dif_neg hroom]

/-- R84, R85: a staging request of the holder for a room of the batch. -/
theorem stage_room {r : RoomId} (hr : r ∈ s.arb.rooms) : stage p r.val range make s = match range with
    | some st => refuse s st
    | none =>
      if 32 < s.arb.staging.length + 1 ∨ 1024 < stagedBytes (s.arb.staging ++ [make r]) then refuse s .stageFull
      else okWith { s with arb := { s.arb with staging := s.arb.staging ++ [make r] } }
        (.staged s.arb.staging.length (s.arb.staging.length + 1) (stagedBytes (s.arb.staging ++ [make r]))) := by
  rw [stage, if_neg (not_not_intro hholds), room?_val]
  dsimp only
  rw [if_neg (by simpa using hr)]
  simp only [List.length_append, List.length_cons, List.length_nil]
  rfl

end Stage

theorem putRange_eq {f : PutFields} {range : Option Status} (htime : ¬ PutFields.InTime f → range = some .badTime)
    (hrange : PutFields.InTime f → ¬ PutFields.InRange f → range = some .badValue)
    (hnone : PutFields.InTime f → PutFields.InRange f → range = none) : putRange f = range := by
  by_cases ht : PutFields.InTime f
  · have times := (PutFields.timesOk_iff f).2 ht
    by_cases hv : PutFields.InRange f
    · simp [putRange, times, (PutFields.valuesOk_iff f).2 hv, hnone ht hv]
    · have values : PutFields.valuesOk f = false := by rwa [← Bool.not_eq_true, PutFields.valuesOk_iff]
      simp [putRange, times, values, hrange ht hv]
  · have times : PutFields.timesOk f = false := by rwa [← Bool.not_eq_true, PutFields.timesOk_iff]
    simp [putRange, times, htime ht]

/-- Settles O41: the four rows are one staging request with their own record and range check. -/
theorem stagingAppends : Obligations.StagingAppends := by
  unfold Obligations.StagingAppends
  intro s h room c code need x range hrow a hrows
  have hexec : exec c s = .next (s.request h code .timetable noCast (stage h.port room range x)) := by
    rcases hrows with ⟨f, rfl, rfl, htime, hvalues, hnone⟩ | ⟨tag, rfl, rfl, rfl⟩ | ⟨tag, m1, m2, rfl, rfl, rfl⟩ |
      ⟨day, rfl, rfl, rfl⟩ <;> cases hrow
    · rw [← putRange_eq htime hvalues hnone]
      rfl
    all_goals rfl
  rw [hexec]
  refine ⟨fun hother => State.exec_refused a (stage_notHolder (by simpa using hother)), fun hholds => ?_⟩
  have holds : (s.take h.port).arb.holder = some h.port := by simpa using hholds
  have staging : (s.take h.port).arb.staging = s.arb.staging := by simp
  refine ⟨fun hout => State.exec_refused a (stage_outOfBatch holds (by simpa using hout)), ?_⟩
  rintro r hr rfl
  have hserve : stage h.port r.val range x (s.take h.port) = _ := stage_room holds (by simpa using hr)
  rw [staging] at hserve
  refine ⟨?_, ?_⟩
  · rintro st rfl
    exact State.exec_refused a hserve
  · rintro rfl
    refine ⟨fun hfull => State.exec_refused a (hserve.trans (if_pos hfull)), fun hplace hbytes => ?_⟩
    have hroom : ¬ (32 < s.arb.staging.length + 1 ∨ 1024 < stagedBytes (s.arb.staging ++ [x r])) := by omega
    obtain ⟨t, ht, hreply, harb, rest⟩ :=
      State.request_arbiter a (code := code) (cast := noCast) (hserve.trans (if_neg hroom))
    refine ⟨t, congrArg Host.Outcome.next ht, hreply, ?_, rest⟩
    rw [harb, State.take_arb, Arbiter.restarted_of_holds hholds]

/-! ### SET_ARBITER and SET_FAULT_MODE -/

theorem yesNo?_eq {n : Nat} (h : n ≤ 1) : yesNo? n = some (n == 1) := by
  match n, h with
  | 0, _ | 1, _ => rfl

theorem yesNo?_none {n : Nat} (h : 1 < n) : yesNo? n = none := by
  match n, h with
  | n + 2, _ => rfl

theorem mode?_none {n : Nat} (h : 3 < n) : mode? n = none := by
  match n, h with
  | n + 4, _ => rfl

/-- R152: a mode or the retry time out of range. -/
theorem ModeFields.setup?_none {f : ModeFields} (h : 3 < f.noAnswer ∨ 3 < f.slow ∨ 3 < f.mismatch ∨ 3 < f.absent ∨ 3 < f.trip ∨
    f.retryTime ∉ [5, 15, 60, 300]) : ModeFields.setup? f = none := by
  unfold ModeFields.setup?
  split
  · next ha hb hc hd he =>
    have inRange {n : Nat} {m : FaultMode} (hm : mode? n = some m) : n ≤ 3 := by
      by_contra hn
      rw [mode?_none (Nat.lt_of_not_le hn)] at hm
      cases hm
    have := inRange ha
    have := inRange hb
    have := inRange hc
    have := inRange hd
    have := inRange he
    have htime : f.retryTime ∉ [5, 15, 60, 300] := ((((h.resolve_left (by omega)).resolve_left (by omega)).resolve_left
      (by omega)).resolve_left (by omega)).resolve_left (by omega)
    exact if_neg (by simpa using htime)
  · rfl

theorem ModeFields.setup?_some {f : ModeFields} {a b c d e : FaultMode} (ha : mode? f.noAnswer = some a)
    (hb : mode? f.slow = some b) (hc : mode? f.mismatch = some c) (hd : mode? f.absent = some d) (he : mode? f.trip = some e)
    (htime : f.retryTime ∈ [5, 15, 60, 300]) : ModeFields.setup? f = some
      { noAnswer := a, slow := b, mismatch := c, absent := d, retryTime := f.retryTime
        trip := if e = .latch then .latch else .retry } := by
  simp only [ModeFields.setup?, ha, hb, hc, hd, he]
  exact if_pos (by simpa using htime)

/-- R152: the trip mode is the one that is clamped. -/
theorem ModeFields.clamped_eq {f : ModeFields} {e : FaultMode} (he : mode? f.trip = some e) :
    ModeFields.clamped f = decide (e = .report ∨ e = .ignore) := by
  unfold ModeFields.clamped
  generalize f.trip = n at he ⊢
  match n, he with
  | 0, he | 1, he | 2, he | 3, he => cases he; rfl

theorem serveArbiter_eq (s : State) (code : Nat) {fairness : Nat} (h : fairness ≤ 1) : serveArbiter code fairness s =
    { st := { s with setup := { s.setup with arbiter := { idleCode := min 3 code, fairness := fairness == 1 } } }
      status := .ok, clamped := decide (3 < code) } := by
  rw [serveArbiter, yesNo?_eq h]

theorem serveFaultMode_eq (s : State) {f : ModeFields} {a b c d e : FaultMode} (ha : mode? f.noAnswer = some a)
    (hb : mode? f.slow = some b) (hc : mode? f.mismatch = some c) (hd : mode? f.absent = some d) (he : mode? f.trip = some e)
    (htime : f.retryTime ∈ [5, 15, 60, 300]) : serveFaultMode f s =
      { st := { s with setup := { s.setup with fault :=
          { noAnswer := a, slow := b, mismatch := c, absent := d, retryTime := f.retryTime
            trip := if e = .latch then .latch else .retry } } }
        status := .ok, clamped := decide (e = .report ∨ e = .ignore)
        result := .modes { noAnswer := a, slow := b, mismatch := c, absent := d, retryTime := f.retryTime
                           trip := if e = .latch then .latch else .retry } } := by
  rw [serveFaultMode, ModeFields.setup?_some ha hb hc hd he htime, ModeFields.clamped_eq he]

/-- Settles O45: each of the two stores its record in the setup, or refuses a field out of range. -/
theorem arbiterAndFaultSettingsAreStored : Obligations.ArbiterAndFaultSettingsAreStored := by
  unfold Obligations.ArbiterAndFaultSettingsAreStored
  refine fun s h a => ⟨fun code fairness hbad => State.exec_refused a ?_, fun code fairness hfair => ?_,
    fun f => ⟨fun hbad => State.exec_refused a ?_, fun m1 m2 m3 m4 m5 h1 h2 h3 h4 h5 htime => ?_⟩⟩
  · rw [serveArbiter, yesNo?_none hbad]
  · have hserve := serveArbiter_eq (s.take h.port) code hfair
    obtain ⟨t, ht, rest⟩ := State.request_settings a (code := 0x3A) (cast := noCast) hserve
    rw [State.take_setup] at rest
    exact ⟨t, congrArg Host.Outcome.next ht, rest⟩
  · rw [serveFaultMode, ModeFields.setup?_none hbad]
  · have hserve := serveFaultMode_eq (s.take h.port) h1 h2 h3 h4 h5 htime
    obtain ⟨t, ht, rest⟩ := State.request_settings a (code := 0x36) (cast := noCast) hserve
    rw [State.take_setup] at rest
    exact ⟨t, _, congrArg Host.Outcome.next ht, rfl, rest⟩

end Sys2Proof.Machine
end

section
/-! PROOFS. The commit of a batch (R86 to R89). A record of the trial makes its room the timetable that its single request would
make it; the trial as a whole leaves everything but the timetables, and does not read the arbiter or the ports. -/

namespace Sys2Proof.Machine

/-! ### One record of a trial -/

section Record
variable {t : Trial} {p : Port} {r : RoomId}

/-- R87: every record of a disabled room fails. -/
theorem Trial.record_disabled {x : Staged} (h : (t.st.roomSetup (stagedRoom x)).enabled = false) :
    t.record p x = .error .noRoom := by
  cases x <;> exact if_pos (by rw [Bool.not_eq_true']; exact h)

variable (h : (t.st.roomSetup r).enabled = true)
include h

theorem Trial.put_error {f : PutFields} {st : Status}
    (hcheck : t.st.putCheck r (PutFields.entry f p) (f.supersede == 1) = some st) : t.put p r f = .error st := by
  rw [Trial.put, if_neg (by simp [h])]
  simp only [hcheck]

theorem Trial.put_ok {f : PutFields} (hcheck : t.st.putCheck r (PutFields.entry f p) (f.supersede == 1) = none) :
    ∃ l, t.put p r f = .ok { st := t.st.setTimetable r (putTimetable (t.st.timetable r) (PutFields.entry f p)), stored := l
                             removed := (t.remove r (PutFields.hits f (t.st.timetable r))).removed } := by
  rw [Trial.put, if_neg (by simp [h])]
  simp only [hcheck, PutFields.putOverlaps_entry]
  exact ⟨_, rfl⟩

theorem Trial.drop_eq (tag : Nat) : t.drop r tag =
    if (entryOf (t.st.timetable r) tag).isNone then .error .noEntry
    else .ok { t.remove r ((t.st.timetable r).filter fun e => e.tag == tag) with
      st := t.st.setTimetable r (dropTimetable (t.st.timetable r) tag) } :=
  if_neg (by simp [h])

theorem Trial.mark_none {tag : Nat} (a b : Marks) (hnone : entryOf (t.st.timetable r) tag = none) :
    t.mark p r tag a b = .error .noEntry := by
  rw [Trial.mark, if_neg (by simp [h])]
  simp only [hnone]

theorem Trial.mark_some {tag : Nat} {e : Entry} (a b : Marks) (he : entryOf (t.st.timetable r) tag = some e) :
    t.mark p r tag a b = if markOverlaps (t.st.timetable r) e (Marks.change e.marks a b) then .error .overlap
      else .ok { t with st := t.st.setTimetable r (markTimetable (t.st.timetable r) tag (Marks.change e.marks a b) p) } := by
  rw [Trial.mark, if_neg (by simp [h])]
  simp only [he]

theorem Trial.clearDay_eq (day : Nat) : t.clearDay r day =
    .ok { t.remove r ((t.st.timetable r).filter fun e => e.day == day) with
      st := t.st.setTimetable r (clearTimetable (t.st.timetable r) day) } :=
  if_neg (by simp [h])

end Record

/-- R89: what a first record counts as removed. -/
theorem Trial.remove_removed (s : State) (r : RoomId) (gone : List Entry) :
    (Trial.remove { st := s, stored := [], removed := 0 } r gone).removed = gone.length := by
  simp [Trial.remove]

theorem Retabled.timetables {s t : State} {r : RoomId} {tt : List Entry} {o : Origin} (h : Retabled s t r tt o) :
    t.timetables = s.timetables.set r tt := by
  refine Vector.ext fun i hi => ?_
  rw [Vector.getElem_set]
  split
  · next hr =>
    subst hr
    exact h.own
  · next hr => exact h.others ⟨i, hi⟩ fun hq => hr (congrArg Fin.val hq).symm

/-- R17, R18: a mark change to the marks an entry has leaves a timetable of unique tags alone. -/
theorem markTimetable_same {tt : List Entry} {tag : Nat} {e : Entry} (once : (tt.map Entry.tag).Nodup)
    (he : entryOf tt tag = some e) (p : Port) : markTimetable tt tag e.marks p = tt := by
  rw [markTimetable_eq]
  refine (List.map_congr_left fun x hx => ?_).trans (List.map_id' tt)
  unfold Entry.remarked
  refine if_neg fun hmarked => ?_
  rw [Bool.and_eq_true, beq_iff_eq, bne_iff_ne] at hmarked
  exact hmarked.2 (congrArg Entry.marks (entryOf_unique once he hx hmarked.1))

theorem length_filter_tag {tt : List Entry} {tag : Nat} (once : (tt.map Entry.tag).Nodup)
    (h : (entryOf tt tag).isNone = false) : (tt.filter fun e => e.tag == tag).length = 1 := by
  have count : (tt.filter fun e => e.tag == tag).length = (tt.map Entry.tag).count tag := by
    rw [List.count, List.countP_map, List.countP_eq_length_filter]
    rfl
  rw [count, once.count, if_pos]
  rw [← Bool.not_eq_true, Option.isNone_iff_eq_none] at h
  obtain ⟨e, he⟩ := Option.ne_none_iff_exists'.1 h
  have htag : e.tag = tag := by simpa using List.find?_some he
  exact htag ▸ List.mem_map_of_mem (List.mem_of_find?_eq_some he)

/-- The trial that a commit begins with. -/
def Trial.start (s : State) : Trial := { st := s, stored := [], removed := 0 }

/-- R87: a state, and the same with the batch leaving a room out: what a request for that room reads of either is the same. -/
structure Unheld (s u : State) (h : Header) (r : RoomId) : Prop where
  accepted : Accepted u h .timetable
  tables : (u.take h.port).timetables = s.timetables
  setup : (u.take h.port).roomSetup r = s.roomSetup r
  free : r ∉ (u.take h.port).arb.rooms
  check (e : Entry) (supersede : Bool) : (u.take h.port).putCheck r e supersede = s.putCheck r e supersede

theorem Unheld.of_filter {s : State} {h : Header} (a : Accepted s h .timetable) (r : RoomId) :
    Unheld s { s with arb := { s.arb with rooms := s.arb.rooms.filter fun x => x != r } } h r where
  accepted := ⟨⟨a.running, a.hears, a.here, a.notAll⟩, a.fits, a.role, a.free⟩
  tables := State.take_timetables _ _
  setup := State.take_roomSetup _ _ _
  free := by rw [State.take_arb, Arbiter.restarted_rooms]; simp
  check e supersede := State.take_putCheck _ _ _ _ _

theorem error_ne_ok {ε α : Type} {C : Prop} {e : ε} {x : α} (h : (.error e : Except ε α) = .ok x) : C := by cases h

theorem ok_ne_error {ε α : Type} {C : Prop} {e : ε} {x : α} (h : (.ok x : Except ε α) = .error e) : C := by cases h

section AsRequests
variable {s u : State} {h : Header} {r : RoomId} (hu : Unheld s u h r)
include hu

theorem Unheld.table : (u.take h.port).timetable r = s.timetable r := congrArg (·[r]) hu.tables

theorem Unheld.noRoom (hoff : (s.roomSetup r).enabled = false) : (u.take h.port).enabledRoom? r.val = none := by
  simp [State.enabledRoom?, hu.setup, hoff]

/-- R87: a record of the trial gives its room the timetable that its request gives it. -/
theorem Unheld.request_tabled {code : Nat} {serve : State → Served} {result : Result} {v : State} {tt : List Entry}
    (hv : Tabled (u.take h.port) v r tt)
    (hserve : serve (u.take h.port) = okWith (v.evaluateRoom r (.port h.port) false) result) :
    ∃ t, Host.Outcome.next (u.request h code .timetable noCast serve) =
        (.next t : Host.Outcome State Fault Refusal) ∧ t.timetables = (s.setTimetable r tt).timetables ∧
      Replied u t h code .ok false result := by
  obtain ⟨t, ht, hreply, hmoved, -⟩ := State.request_retabled hu.accepted (code := code) (cast := noCast) hv hserve
  have hu := hu.tables
  rw [State.take_timetables] at hu
  exact ⟨t, congrArg _ ht, by rw [hmoved.timetables, hu]; rfl, hreply⟩

section Enabled
variable (hon : (s.roomSetup r).enabled = true)
include hon

theorem Unheld.enabled : ((u.take h.port).roomSetup r).enabled = true := hu.setup ▸ hon

theorem Unheld.put {f : PutFields} (htime : PutFields.InTime f) (hrange : PutFields.InRange f) :
    (∀ st, (Trial.start s).put h.port r f = .error st →
      exec (.putEntry h r.val f) u = .next (u.answeredWith h 0x10 st .empty)) ∧
    (∀ tr, (Trial.start s).put h.port r f = .ok tr → ∃ t, exec (.putEntry h r.val f) u = .next t ∧
      t.timetables = tr.st.timetables ∧ tr.removed = (PutFields.hits f (s.timetable r)).length) := by
  have hserve := servePut_checked (p := h.port) (hu.enabled hon) hu.free htime hrange
  rw [hu.check, hu.table] at hserve
  cases hcheck : s.putCheck r (PutFields.entry f h.port) (f.supersede == 1) with
  | some st =>
    rw [hcheck] at hserve
    rw [Trial.put_error (t := Trial.start s) hon hcheck]
    refine ⟨fun st hst => Except.error.inj hst ▸ ?_, fun tr htr => error_ne_ok htr⟩
    exact State.exec_refused hu.accepted hserve
  | none =>
    rw [hcheck] at hserve
    obtain ⟨l, hput⟩ := Trial.put_ok (t := Trial.start s) hon hcheck
    rw [hput]
    refine ⟨fun st hst => ok_ne_error hst, fun tr htr => Except.ok.inj htr ▸ ?_⟩
    obtain ⟨t, ht, htables, -⟩ := hu.request_tabled (code := 0x10) (State.setTimetable_repress_tabled _ _ _) hserve
    exact ⟨t, ht, htables, Trial.remove_removed s r _⟩

theorem Unheld.drop (tag : Nat) (once : ((s.timetable r).map Entry.tag).Nodup) :
    (∀ st, (Trial.start s).drop r tag = .error st →
      exec (.dropEntry h r.val tag) u = .next (u.answeredWith h 0x11 st .empty)) ∧
    (∀ tr, (Trial.start s).drop r tag = .ok tr → ∃ t, exec (.dropEntry h r.val tag) u = .next t ∧
      t.timetables = tr.st.timetables ∧ tr.removed = 1) := by
  have hserve := serveDrop_eq (p := h.port) (hu.enabled hon) hu.free tag
  have hdrop := Trial.drop_eq (t := Trial.start s) hon tag
  rw [hu.table] at hserve
  change _ = if (entryOf (s.timetable r) tag).isNone then _ else _ at hdrop
  cases hnone : (entryOf (s.timetable r) tag).isNone with
  | true =>
    rw [hnone] at hserve hdrop
    rw [hdrop]
    refine ⟨fun st hst => Except.error.inj hst ▸ ?_, fun tr htr => error_ne_ok htr⟩
    exact State.exec_refused hu.accepted hserve
  | false =>
    rw [hnone, if_neg Bool.false_ne_true] at hserve hdrop
    rw [hdrop]
    refine ⟨fun st hst => ok_ne_error hst, fun tr htr => Except.ok.inj htr ▸ ?_⟩
    obtain ⟨t, ht, htables, -⟩ := hu.request_tabled (code := 0x11) (State.setTimetable_repress_tabled _ _ _) hserve
    exact ⟨t, ht, htables, (Trial.remove_removed s r _).trans (length_filter_tag once hnone)⟩

theorem Unheld.mark (tag : Nat) (m1 m2 : Marks) (once : ((s.timetable r).map Entry.tag).Nodup) :
    (∀ st, (Trial.start s).mark h.port r tag m1 m2 = .error st →
      exec (.markEntry h r.val tag m1 m2) u = .next (u.answeredWith h 0x12 st .empty)) ∧
    (∀ tr, (Trial.start s).mark h.port r tag m1 m2 = .ok tr → ∃ t, exec (.markEntry h r.val tag m1 m2) u = .next t ∧
      t.timetables = tr.st.timetables ∧ tr.removed = 0) := by
  have hfree := hu.free
  have hon' := hu.enabled hon
  cases he : entryOf (s.timetable r) tag with
  | none =>
    rw [Trial.mark_none (t := Trial.start s) hon m1 m2 he]
    refine ⟨fun st hst => Except.error.inj hst ▸ ?_, fun tr htr => error_ne_ok htr⟩
    exact State.exec_refused hu.accepted (serveMark_noEntry hon' hfree m1 m2 (by rw [hu.table, he]))
  | some e =>
    have hserve := serveMark_entry (p := h.port) hon' hfree m1 m2 (by rw [hu.table, he])
    have hmark := Trial.mark_some (t := Trial.start s) (p := h.port) hon m1 m2 he
    rw [hu.table] at hserve
    change _ = if markOverlaps (s.timetable r) e _ then _ else _ at hmark
    generalize Marks.change e.marks m1 m2 = new at hserve hmark
    cases hover : markOverlaps (s.timetable r) e new with
    | true =>
      rw [hover, if_pos rfl] at hserve hmark
      rw [hmark]
      refine ⟨fun st hst => Except.error.inj hst ▸ ?_, fun tr htr => error_ne_ok htr⟩
      exact State.exec_refused hu.accepted hserve
    | false =>
      rw [hover, if_neg Bool.false_ne_true] at hserve hmark
      rw [hmark]
      refine ⟨fun st hst => ok_ne_error hst, fun tr htr => Except.ok.inj htr ▸ ?_⟩
      by_cases hsame : e.marks = new
      · rw [if_pos hsame] at hserve
        refine ⟨_, congrArg Host.Outcome.next (State.request_okWith hu.accepted hserve), ?_, rfl⟩
        subst hsame
        show u.timetables = s.timetables.set r (markTimetable (s.timetable r) tag e.marks h.port)
        rw [markTimetable_same once he, ← State.take_timetables u h.port, hu.tables]
        exact (Vector.set_getElem_self _).symm
      · rw [if_neg hsame] at hserve
        obtain ⟨t, ht, htables, -⟩ := hu.request_tabled (code := 0x12) (State.setTimetable_tabled _ _ _) hserve
        exact ⟨t, ht, htables, rfl⟩

theorem Unheld.clearDay {day : Nat} (hday : day ≤ 15) :
    (∀ st, (Trial.start s).clearDay r day = .error st →
      exec (.clearDay h r.val day) u = .next (u.answeredWith h 0x13 st .empty)) ∧
    (∀ tr, (Trial.start s).clearDay r day = .ok tr → ∃ t, exec (.clearDay h r.val day) u = .next t ∧
      t.timetables = tr.st.timetables ∧ tr.removed = ((s.timetable r).filter fun x => x.day == day).length ∧
      Replied u t h 0x13 .ok false (.count tr.removed)) := by
  have hserve := serveClearDay_eq (p := h.port) (hu.enabled hon) hu.free day
  rw [if_neg (Nat.not_lt.2 hday), hu.table] at hserve
  have hclear := Trial.clearDay_eq (t := Trial.start s) hon day
  have removed := Trial.remove_removed s r ((s.timetable r).filter fun e => e.day == day)
  rw [hclear]
  refine ⟨fun st hst => ok_ne_error hst, fun tr htr => Except.ok.inj htr ▸ ?_⟩
  show ∃ t, exec (.clearDay h r.val day) u = .next t ∧ t.timetables = (s.setTimetable r (clearTimetable (s.timetable r) day)).timetables ∧
    ((Trial.start s).remove r ((s.timetable r).filter fun e => e.day == day)).removed = _ ∧ Replied u t h 0x13 .ok false
      (.count ((Trial.start s).remove r ((s.timetable r).filter fun e => e.day == day)).removed)
  rw [Trial.start, removed]
  by_cases hnone : ((s.timetable r).filter fun e => e.day == day).length = 0
  · rw [if_pos hnone] at hserve
    refine ⟨_, congrArg Host.Outcome.next (State.request_accepted hu.accepted 0x13 _ _), ?_, rfl, ?_⟩
    · rw [hserve]
      have kept : clearTimetable (s.timetable r) day = s.timetable r := by
        refine List.filter_eq_self.2 fun x hx => ?_
        have := List.filter_eq_nil_iff.1 (List.length_eq_zero_iff.1 hnone) x hx
        simpa using this
      rw [kept]
      exact hu.tables.trans (Vector.set_getElem_self _).symm
    · rw [hserve, hnone]
      exact u.answer_replied h 0x13 _
  · rw [if_neg hnone] at hserve
    obtain ⟨t, ht, htables, hreply⟩ := hu.request_tabled (code := 0x13) (State.setTimetable_repress_tabled _ _ _) hserve
    exact ⟨t, ht, htables, rfl, hreply⟩

end Enabled
end AsRequests

/-- Settles O43: where the room is enabled, record and request make the same checks and give the room the same timetable. -/
theorem trialTreatsRecordsAsRequests : Obligations.TrialTreatsRecordsAsRequests := by
  unfold Obligations.TrialTreatsRecordsAsRequests
  rintro s _ h r f tag day m1 m2 a rfl once htime hrange hday
  have hu := Unheld.of_filter a r
  cases hroom : (s.roomSetup r).enabled with
  | false =>
    have none := hu.noRoom hroom
    have disabled (x : Staged) (hx : stagedRoom x = r) : (Trial.start s).record h.port x = .error .noRoom :=
      Trial.record_disabled (by rw [hx]; exact hroom)
    have refused (x : Staged) (hx : stagedRoom x = r) {c : Instr} {code : Nat} {u : State}
        (hexec : exec c u = .next (u.answeredWith h code .noRoom .empty)) (st : Status)
        (hst : (Trial.start s).record h.port x = .error st) : exec c u = .next (u.answeredWith h code st .empty) := by
      rw [disabled x hx] at hst
      exact Except.error.inj hst ▸ hexec
    have passes {C : Trial → Prop} (x : Staged) (hx : stagedRoom x = r) (tr : Trial)
        (htr : (Trial.start s).record h.port x = .ok tr) : C tr := by
      rw [disabled x hx] at htr
      exact error_ne_ok htr
    exact ⟨refused (.put r f) rfl (State.exec_refused hu.accepted (servePut_noRoom none f)), passes (.put r f) rfl,
      refused (.drop r tag) rfl (State.exec_refused hu.accepted (serveDrop_noRoom none tag)), passes (.drop r tag) rfl,
      refused (.mark r tag m1 m2) rfl (State.exec_refused hu.accepted (serveMark_noRoom none tag m1 m2)),
      passes (.mark r tag m1 m2) rfl,
      refused (.clearDay r day) rfl (State.exec_refused hu.accepted (serveClearDay_noRoom none day)),
      passes (.clearDay r day) rfl⟩
  | true =>
    obtain ⟨putError, putOk⟩ := hu.put hroom htime hrange
    obtain ⟨dropError, dropOk⟩ := hu.drop hroom tag once
    obtain ⟨markError, markOk⟩ := hu.mark hroom tag m1 m2 once
    obtain ⟨clearError, clearOk⟩ := hu.clearDay hroom hday
    exact ⟨putError, putOk, dropError, dropOk, markError, markOk, clearError, clearOk⟩

/-! ### The trial as a whole -/

/-- The trial with another arbiter and other ports. -/
def Trial.moved (t : Trial) (a : Arbiter) (ps : Vector PortRecord 3) : Trial :=
  { t with st := { t.st with arb := a, ports := ps } }

section Moved
variable (p : Port) (a : Arbiter) (ps : Vector PortRecord 3)

/-- A trial reads neither the arbiter nor the ports. -/
theorem Trial.record_moved (t : Trial) (x : Staged) :
    (t.moved a ps).record p x = (t.record p x).map fun u => u.moved a ps := by
  cases hroom : (t.st.roomSetup (stagedRoom x)).enabled with
  | false => rw [Trial.record_disabled hroom, Trial.record_disabled (t := t.moved a ps) hroom]; rfl
  | true =>
    cases x with
    | put r f =>
      change (t.st.roomSetup r).enabled = true at hroom
      have check : (t.moved a ps).st.putCheck r (PutFields.entry f p) (f.supersede == 1) =
          t.st.putCheck r (PutFields.entry f p) (f.supersede == 1) := rfl
      have moved : ((t.moved a ps).st.roomSetup r).enabled = true := hroom
      show (t.moved a ps).put p r f = (t.put p r f).map _
      unfold Trial.put
      rw [if_neg (by simp [moved]), if_neg (by simp [hroom])]
      dsimp only
      rw [check]
      cases t.st.putCheck r (PutFields.entry f p) (f.supersede == 1) <;> rfl
    | drop r tag =>
      change (t.st.roomSetup r).enabled = true at hroom
      show (t.moved a ps).drop r tag = (t.drop r tag).map _
      rw [Trial.drop_eq (t := t) hroom, Trial.drop_eq (t := t.moved a ps) hroom]
      show (if (entryOf (t.st.timetable r) tag).isNone then _ else _) = _
      split <;> rfl
    | mark r tag m1 m2 =>
      change (t.st.roomSetup r).enabled = true at hroom
      show (t.moved a ps).mark p r tag m1 m2 = (t.mark p r tag m1 m2).map _
      cases he : entryOf (t.st.timetable r) tag with
      | none => rw [Trial.mark_none hroom m1 m2 he, Trial.mark_none (t := t.moved a ps) hroom m1 m2 he]; rfl
      | some e =>
        rw [Trial.mark_some hroom m1 m2 he, Trial.mark_some (t := t.moved a ps) hroom m1 m2 he]
        show (if markOverlaps (t.st.timetable r) e (Marks.change e.marks m1 m2) then _ else _) = _
        split <;> rfl
    | clearDay r day =>
      change (t.st.roomSetup r).enabled = true at hroom
      show (t.moved a ps).clearDay r day = (t.clearDay r day).map _
      rw [Trial.clearDay_eq (t := t) hroom, Trial.clearDay_eq (t := t.moved a ps) hroom]
      rfl

theorem Trial.run_moved (l : List Staged) : ∀ (t : Trial) (i : Nat),
    Trial.run p (t.moved a ps) i l = (Trial.run p t i l).map fun u => u.moved a ps := by
  induction l with
  | nil => exact fun t i => rfl
  | cons x l ih =>
    intro t i
    unfold Trial.run
    rw [Trial.record_moved]
    cases t.record p x with
    | error st => rfl
    | ok u => exact ih u (i + 1)

end Moved

/-- R87: a record gives its own room another timetable, and no more. -/
theorem Trial.record_st {t u : Trial} {p : Port} {x : Staged} (h : t.record p x = .ok u) :
    ∃ tt, u.st = t.st.setTimetable (stagedRoom x) tt := by
  cases hroom : (t.st.roomSetup (stagedRoom x)).enabled with
  | false => rw [Trial.record_disabled hroom] at h; cases h
  | true =>
    cases x with
    | put r f =>
      cases hcheck : t.st.putCheck r (PutFields.entry f p) (f.supersede == 1) with
      | some st => exact error_ne_ok ((Trial.put_error hroom hcheck).symm.trans h)
      | none =>
        obtain ⟨l, hput⟩ := Trial.put_ok hroom hcheck
        exact ⟨_, congrArg Trial.st (Except.ok.inj (hput.symm.trans h)).symm⟩
    | drop r tag =>
      have h := (Trial.drop_eq hroom tag).symm.trans h
      split at h
      · cases h
      · exact ⟨_, congrArg Trial.st (Except.ok.inj h).symm⟩
    | mark r tag m1 m2 =>
      cases he : entryOf (t.st.timetable r) tag with
      | none => exact error_ne_ok ((Trial.mark_none hroom m1 m2 he).symm.trans h)
      | some e =>
        have h := (Trial.mark_some hroom m1 m2 he).symm.trans h
        split at h
        · cases h
        · exact ⟨_, congrArg Trial.st (Except.ok.inj h).symm⟩
    | clearDay r day =>
      exact ⟨_, congrArg Trial.st (Except.ok.inj ((Trial.clearDay_eq hroom day).symm.trans h)).symm⟩

/-- R86: a trial that passes leaves everything but the timetables of the rooms that its records name. -/
theorem Trial.run_st {p : Port} {l : List Staged} : ∀ {t u : Trial} {i : Nat}, Trial.run p t i l = .ok u →
    u.st = { t.st with timetables := u.st.timetables } ∧
      ∀ r, (∀ x ∈ l, stagedRoom x ≠ r) → u.st.timetable r = t.st.timetable r := by
  induction l with
  | nil => exact fun h => Except.ok.inj h ▸ ⟨rfl, fun _ _ => rfl⟩
  | cons x l ih =>
    intro t u i h
    unfold Trial.run at h
    cases hx : t.record p x with
    | error st => rw [hx] at h; cases h
    | ok v =>
      rw [hx] at h
      obtain ⟨tt, hv⟩ := Trial.record_st hx
      obtain ⟨frame, others⟩ := ih h
      refine ⟨?_, fun r hr => ?_⟩
      · rw [frame, hv]
        rfl
      · obtain ⟨hne, hl⟩ := List.forall_mem_cons.1 hr
        rw [others r hl, hv, State.timetable_setTimetable, if_neg (Ne.symm hne)]

/-! ### COMMIT_BATCH -/

/-- R86: what the commit of a taken request runs is the trial of the hub before it. -/
theorem Trial.run_take (s : State) (p q : Port) (l : List Staged) : Trial.run p (Trial.start (s.take q)) 0 l =
    (Trial.run p (Trial.start s) 0 l).map fun u => u.moved (s.take q).arb (s.take q).ports := by
  rw [← Trial.run_moved]
  congr 1
  show Trial.start (s.take q) = Trial.start { s with arb := (s.take q).arb, ports := (s.take q).ports }
  rw [State.take_eq]

/-- R89: the hub with the trial's timetables, the level re-evaluated and the batch rooms evaluated. -/
def State.committedWith (s : State) (rooms : List RoomId) (p : Port) : State :=
  s.repress.evaluateRooms (fun r => rooms.contains r) (.port p)

section Committed
variable (s : State) (rooms : List RoomId) (p : Port)

theorem State.committedWith_offBoard : (s.committedWith rooms p).offBoard = s.repress.offBoard :=
  State.evaluateRooms_offBoard _ _ _

theorem State.committedWith_eq : s.committedWith rooms p = { s with
    ports := (s.committedWith rooms p).ports, pressure := (s.committedWith rooms p).pressure
    evals := (s.committedWith rooms p).evals, signs := (s.committedWith rooms p).signs
    lines := (s.committedWith rooms p).lines, quiet := (s.committedWith rooms p).quiet } := by
  have h := State.eq_of_offBoard (s.committedWith_offBoard rooms p)
  generalize s.committedWith rooms p = t at h ⊢
  rw [s.repress_eq] at h
  rw [h]

theorem State.committedWith_port (q : Port) :
    (s.committedWith rooms p).port q = { s.port q with raised := ((s.committedWith rooms p).port q).raised } := by
  have hport : (s.committedWith rooms p).port q = s.repress.port q :=
    congrArg (·[portIndex q]) (ports_of_offBoard (s.committedWith_offBoard rooms p))
  rw [hport]
  exact s.repress_port q

theorem State.committedWith_repressed : Repressed s (s.committedWith rooms p) :=
  s.repress_repressed.of_offBoard (s.committedWith_offBoard rooms p)

theorem State.committedWith_evaluated :
    Evaluated s (s.committedWith rooms p) (fun r => rooms.contains r) (.port p) false := by
  refine Evaluated.of_before (State.evaluateRooms_evaluated _ _ _) ?_ ?_ ?_ ?_ ?_ <;> rw [s.repress_eq]

end Committed

section Commit
variable {s : State} {p : Port}

theorem serveCommit_notHolder (h : s.arb.holder ≠ some p) : serveCommit p s = refuse s .notHolder := if_pos h

variable (hholds : s.arb.holder = some p)
include hholds

theorem serveCommit_error {i : Nat} {st : Status} (h : Trial.run p (Trial.start s) 0 s.arb.staging = .error (i, st)) :
    serveCommit p s = { st := { s with arb := { s.arb with staging := [], idle := some (idleTime s.setup.arbiter.idleCode) } }
                        status := .commitFailed, result := .commitFailure i st } := by
  rw [serveCommit, if_neg (not_not_intro hholds)]
  change Trial.run p { st := s, stored := [], removed := 0 } 0 s.arb.staging = _ at h
  rw [h]

theorem serveCommit_ok {tr : Trial} (h : Trial.run p (Trial.start s) 0 s.arb.staging = .ok tr) :
    serveCommit p s = okWith (tr.st.committedWith s.arb.rooms p).release (.committed s.arb.staging.length tr.removed) := by
  rw [serveCommit, if_neg (not_not_intro hholds)]
  change Trial.run p { st := s, stored := [], removed := 0 } 0 s.arb.staging = _ at h
  rw [h]
  rfl

end Commit

/-- Settles O42: a failing trial is forgotten but for the staging list; a passing one is committed and the grant released. -/
theorem commitAppliesAllOrNothing : Obligations.CommitAppliesAllOrNothing := by
  unfold Obligations.CommitAppliesAllOrNothing
  refine fun s h a => ⟨fun hother => State.exec_refused a (serveCommit_notHolder (by simpa using hother)), fun hholds => ?_⟩
  have holds : (s.take h.port).arb.holder = some h.port := by simpa using hholds
  have staging : (s.take h.port).arb.staging = s.arb.staging := by simp
  have run := Trial.run_take s h.port h.port s.arb.staging
  refine ⟨fun i st herror => ?_, fun tr hok => ?_⟩
  · change Trial.run h.port (Trial.start s) 0 s.arb.staging = _ at herror
    rw [herror, ← staging] at run
    obtain ⟨t, ht, hreply, harb, rest⟩ :=
      State.request_arbiter a (code := 0x1D) (cast := noCast) (serveCommit_error holds run)
    refine ⟨t, congrArg Host.Outcome.next ht, hreply, ?_, rest⟩
    rw [harb, State.take_arb, Arbiter.restarted_of_holds hholds, State.take_setup]
  · change Trial.run h.port (Trial.start s) 0 s.arb.staging = _ at hok
    obtain ⟨frame, others⟩ := Trial.run_st hok
    rw [hok, ← staging] at run
    have hserve := serveCommit_ok holds run
    rw [staging, State.take_arb, Arbiter.restarted_rooms] at hserve
    have hu : (tr.moved (s.take h.port).arb (s.take h.port).ports).st =
        { s.take h.port with timetables := tr.st.timetables } := by
      show { tr.st with arb := (s.take h.port).arb, ports := (s.take h.port).ports } = _
      rw [frame, State.take_eq]
      rfl
    rw [← State.take_arb, hu] at hserve
    have weq := State.committedWith_eq { s.take h.port with timetables := tr.st.timetables } s.arb.rooms h.port
    have wport := State.committedWith_port { s.take h.port with timetables := tr.st.timetables } s.arb.rooms h.port
    have wpressed := State.committedWith_repressed { s.take h.port with timetables := tr.st.timetables } s.arb.rooms h.port
    have wboards := State.committedWith_evaluated { s.take h.port with timetables := tr.st.timetables } s.arb.rooms h.port
    generalize State.committedWith _ s.arb.rooms h.port = w at hserve weq wport wpressed wboards
    have wport (q : Port) : w.port q = { (s.take h.port).port q with raised := (w.port q).raised } := wport q
    have wtables : w.timetables = tr.st.timetables := by rw [weq]
    refine ⟨{ w with arb := s.arb }, _, congrArg Host.Outcome.next (State.request_accepted a 0x1D _ _), ?_⟩
    rw [hserve]
    have warb : w.arb = s.arb.restarted h.port s.setup.arbiter.idleCode := by rw [weq, ← State.take_arb]
    have pressed : Repressed s w := Repressed.of_take ⟨wpressed.level, wpressed.pace⟩
    have boards : Evaluated s w (fun r => s.arb.rooms.contains r) (.port h.port) false :=
      wboards.of_before (s.take_evals _) (s.take_signs _) (s.take_setup _) (s.take_quiet _) (s.take_lines _)
    have released := w.release_released
    rw [warb, Arbiter.restarted_withdrawals] at released
    refine ⟨s.answer_replied h 0x1D _, ?frame, fun r hr hall => ?others, ⟨pressed.level, pressed.pace⟩,
      ⟨boards.boards, boards.signs, boards.quiet, boards.woken, boards.lines⟩, ?released,
      State.answer_portsAnswered (fun q => ?ports) _ _, ?whole⟩
    case frame =>
      have := congrArg (fun u : State => { u with arb := s.arb }) weq
      rwa [State.take_eq] at this
    case others =>
      have released : w.release.timetable r = w.timetable r := by rw [w.release_eq]; rfl
      exact (released.trans (congrArg (·[r]) wtables)).trans (others r hall)
    case released =>
      exact (released.of_before (s := { w with arb := s.arb }) rfl (by rw [warb, Arbiter.restarted_waiters])
        fun _ => rfl).updPort _ fun _ => rfl
    case ports =>
      show w.release.port q = _
      rw [w.release_port, wport]
      rfl
    case whole =>
      exact congrArg (fun u : State => { u with ports := ((s.take h.port).answer h.port 0x1D
        (okWith w.release (.committed s.arb.staging.length tr.removed))).ports }) w.release_eq

end Sys2Proof.Machine
end

section
/-! PROOFS. The sign table: hands (R98, R110, R116, R117), SET_ROOM (R3, R4, R40) and SET_TEST (R106 to R108). Settling a sign
is described once, by its job and fault state. -/

namespace Sys2Proof.Machine

/-! ### Settling, case by case -/

theorem LineRecord.join_dirty (a : LineRecord) (i : SignId) :
    (a.join i).dirty = if i ∈ a.dirty then a.dirty else a.dirty ++ [i] := by
  unfold LineRecord.join
  by_cases h : i ∈ a.dirty <;> simp [h]

theorem LineRecord.mem_join_self (a : LineRecord) (i : SignId) : i ∈ (a.join i).dirty := by
  rw [LineRecord.join_dirty]
  split
  · assumption
  · exact List.mem_append_right _ (List.mem_singleton_self i)

section Settle
variable {s : State} {i : SignId} {m : Mapping} (hm : s.mapping i = some m)
include hm

/-- R98: a sign without a job whose fault state is not NONE is left as it is. -/
theorem State.settleSign_faulty (hj : (s.line m.line).jobOf i = none) (hf : (s.sign i).fault ≠ .none) : s.settleSign i = s := by
  unfold State.settleSign
  simp only [hm, hj]

/-- R98: a sign without a job leaves the queue when it is CLEAN, and joins it when it is DIRTY. -/
theorem State.settleSign_jobless (hj : (s.line m.line).jobOf i = none) (hf : (s.sign i).fault = .none) :
    s.settleSign i = s.updLine m.line fun ln => if (s.sign i).matched then ln.leave i else ln.join i := by
  unfold State.settleSign
  simp only [hm, hj, hf]
  split <;> rfl

/-- R117: a sign with a job in flight joins the queue. -/
theorem State.settleSign_flying {j : Job} (hj : (s.line m.line).jobOf i = some j) (hstate : j.state ≠ .ready) :
    s.settleSign i = s.updLine m.line fun ln => ln.join i := by
  unfold State.settleSign
  simp only [hm, hj]
  exact if_neg (by simpa [Job.isReady] using hstate)

/-- R116: a READY job takes the new target, or goes where there is nothing left to deliver. -/
theorem State.settleSign_ready {j : Job} (hj : (s.line m.line).jobOf i = some j) (hstate : j.state = .ready) :
    s.settleSign i = if (s.sign i).matched then s.updLine m.line (fun ln => ln.dropJob i) else s.retarget i m := by
  unfold State.settleSign
  simp only [hm, hj]
  exact if_pos (by simp [Job.isReady, hstate])

end Settle

/-! ### Hands -/

/-- R98: a hand that is not forced, to a sign that is not in test, stores the board's digests and settles the sign. -/
theorem State.hand_plain {s : State} {i : SignId} (htest : (s.sign i).test = none) (d : Option Digests) (o : Origin) :
    s.hand i d o false = (s.setSign i { s.sign i with wanted := d, origin := o }).settleSign i := by
  exact if_neg (by simp [htest])

/-- R98: settling a sign reaches its own line alone. -/
theorem State.settleSign_line_of_ne {s : State} {i : SignId} {m : Mapping} (hm : s.mapping i = some m) {l : LineId}
    (hl : l ≠ m.line) : (s.settleSign i).line l = s.line l := by
  have other (f : LineRecord → LineRecord) : (s.updLine m.line f).line l = s.line l :=
    (State.line_updLine _ _ _ _).trans (if_neg hl)
  cases hj : (s.line m.line).jobOf i with
  | some j =>
    by_cases hstate : j.state = .ready
    · rw [State.settleSign_ready hm hj hstate]
      split
      · exact other _
      · exact other _
    · rw [State.settleSign_flying hm hj hstate]
      exact other _
  | none =>
    by_cases hf : (s.sign i).fault = .none
    · rw [State.settleSign_jobless hm hj hf]
      exact other _
    · rw [State.settleSign_faulty hm hj hf]

/-- Settles O48: the hand stores the wanted digests, and the sign is settled by its job and fault state. -/
theorem handedSignsAreSettled : Obligations.HandedSignsAreSettled := by
  unfold Obligations.HandedSignsAreSettled
  intro s i m d o hm htest once
  rw [State.hand_plain htest]
  generalize hu : s.setSign i { s.sign i with wanted := d, origin := o } = u
  have mapped : u.mapping i = some m := by rw [← hu]; exact hm
  have line (l : LineId) : u.line l = s.line l := by rw [← hu]; rfl
  have sign : u.sign i = { s.sign i with wanted := d, origin := o } := by rw [← hu, State.sign_setSign, if_pos rfl]
  have matched : (u.sign i).matched = ({ s.sign i with wanted := d } : SignRecord).matched := by rw [sign]; rfl
  have fault : (u.sign i).fault = (s.sign i).fault := by rw [sign]
  have eval (r : RoomId) : u.eval r = s.eval r := by rw [← hu]; rfl
  refine ⟨by rw [State.settleSign_sign, sign], fun l hl => by rw [State.settleSign_line_of_ne mapped hl, line],
    fun hj => ?jobless, fun j hj => ⟨fun hstate => ?flying, fun hstate => ?ready⟩⟩
  case jobless =>
    rw [← line] at hj
    refine ⟨fun hf hclean => ?_, fun hf hdirty => ?_, fun hf => ?_⟩
    · rw [State.settleSign_jobless mapped hj (fault.trans hf), State.line_updLine, if_pos rfl, matched, if_pos hclean]
      simp [LineRecord.leave]
    · rw [State.settleSign_jobless mapped hj (fault.trans hf), State.line_updLine, if_pos rfl, matched, hdirty,
        if_neg Bool.false_ne_true, LineRecord.join_dirty, line]
    · rw [State.settleSign_faulty mapped hj (fault ▸ hf), ← hu]
      rfl
  case flying =>
    rw [← line] at hj
    rw [State.settleSign_flying mapped hj hstate, State.line_updLine, if_pos rfl, LineRecord.join_jobs, line]
    exact ⟨LineRecord.mem_join_self _ i, rfl⟩
  case ready =>
    have hready := State.settleSign_ready mapped ((congrArg (LineRecord.jobOf · i) (line m.line)).trans hj) hstate
    rw [matched] at hready
    refine ⟨?_, fun hclean => ?_, fun hdirty => ?_⟩
    · rw [hready]
      split <;> rw [← line]
      · rw [State.line_updLine, if_pos rfl]; rfl
      · rw [State.retarget, State.line_updLine, if_pos rfl]; rfl
    · rw [hready, if_pos hclean, State.line_updLine, if_pos rfl, line]
      rfl
    · rw [hready, hdirty, if_neg Bool.false_ne_true, State.retarget, State.line_updLine, if_pos rfl, line]
      refine ⟨_, List.map_congr_left fun x hx => ?_, rfl⟩
      by_cases hxi : x.sign = i
      · have hxj := job_unique once hj x hx hxi
        rw [if_pos (beq_iff_eq.2 hxi), if_pos hxi, hxj]
        simp only [State.newJob, State.urgentSign, State.targetTime, mapped, sign, htest]
        rw [eval]
        rfl
      · rw [if_neg (by simpa using hxi), if_neg hxi]

/-! ### SET_ROOM -/

/-- R3, check 2: what keeps a room from being disabled. -/
theorem State.roomBusy_iff (s : State) (r : RoomId) : s.roomBusy r = true ↔
    s.timetable r ≠ [] ∨ (∃ i m, s.mapping i = some m ∧ m.room = r) ∨ r ∈ s.arb.rooms := by
  have mapped : (allSigns.any fun i => (s.mapping i).any fun m => m.room == r) = true ↔
      ∃ i m, s.mapping i = some m ∧ m.room = r := by
    rw [List.any_eq_true]
    refine exists_congr fun i => ?_
    rw [and_iff_right (show i ∈ allSigns from List.mem_finRange i)]
    cases s.mapping i with
    | none => simp
    | some m => simp
  rw [State.roomBusy, Bool.or_eq_true, Bool.or_eq_true, mapped, State.isHeld_iff, or_assoc]
  simp

section SetRoom
variable {s : State} {r : RoomId} {f : RoomFields}

theorem State.roomCheck_badValue (h : 1 < f.enable) : s.roomCheck r f = some .badValue := by
  rw [State.roomCheck, yesNo?_none h]

theorem State.roomCheck_off (h : f.enable = 0) : s.roomCheck r f = if s.roomBusy r then some .busy else none := by
  rw [State.roomCheck, h]
  rfl

theorem State.roomCheck_on (h : f.enable = 1) : s.roomCheck r f =
    if f.name.length < 1 ∨ 32 < f.name.length then some .badValue
    else if s.freeCells + optCellsOf (s.roomSetup r).name < (f.name.length + 15) / 16 then some .textFull
    else none := by
  rw [State.roomCheck, h]
  rfl

theorem serveRoom_refused {st : Status} (h : s.roomCheck r f = some st) : serveRoom r.val f s = refuse s st := by
  simp only [serveRoom, room?_val, h]

theorem serveRoom_stored (h : s.roomCheck r f = none) : serveRoom r.val f s =
    { st := s.storeRoom r f, status := .ok, clamped := RoomFields.clamped f } := by
  simp only [serveRoom, room?_val, h]

theorem State.take_roomCheck (s : State) (p : Port) (r : RoomId) (f : RoomFields) :
    (s.take p).roomCheck r f = s.roomCheck r f := by
  have busy : (s.take p).roomBusy r = s.roomBusy r := by simp [State.roomBusy]
  unfold State.roomCheck
  simp only [busy, State.take_freeCells, State.take_roomSetup]

/-- R3: a clamped field is reported. -/
theorem RoomFields.clamped_eq (f : RoomFields) :
    RoomFields.clamped f = decide (240 < f.lead ∨ 120 < f.closing ∨ 3 < f.follow) := by
  simp [RoomFields.clamped, Bool.decide_or, Bool.or_assoc]

end SetRoom

/-- R4, R22: the hub with a room's fields stored and the level re-evaluated, before the evaluation. -/
def State.resetUp (s : State) (r : RoomId) (x : RoomSetup) : State := (s.setRoomSetup r x).repress

section ResetUp
variable (s : State) (r : RoomId) (x : RoomSetup)

theorem State.resetUp_eq : s.resetUp r x = { s with
    setup := { s.setup with rooms := (s.resetUp r x).setup.rooms }, pressure := (s.resetUp r x).pressure
    ports := (s.resetUp r x).ports } := by
  have h : s.resetUp r x = { s.setRoomSetup r x with
    pressure := (s.resetUp r x).pressure, ports := (s.resetUp r x).ports } := State.repress_eq _
  generalize s.resetUp r x = u at h ⊢
  rw [h]
  rfl

theorem State.resetUp_repressed : Repressed s (s.resetUp r x) := by
  have h := (s.setRoomSetup r x).repress_repressed
  exact ⟨h.level, h.pace⟩

theorem State.resetUp_port (q : Port) : (s.resetUp r x).port q = { s.port q with raised := ((s.resetUp r x).port q).raised } :=
  State.repress_port _ q

theorem State.resetUp_roomSetup (q : RoomId) : (s.resetUp r x).roomSetup q = if q = r then x else s.roomSetup q := by
  have setup : (s.resetUp r x).roomSetup q = (s.setRoomSetup r x).roomSetup q :=
    roomSetup_of_desk (State.repress_desk _) q
  rw [setup, State.roomSetup_setRoomSetup]

end ResetUp

/-- Of the setup before it, an evaluation reads the mappings alone. -/
theorem Evaluated.of_before_mapping {s u t : State} {rooms : RoomId → Bool} {o : Origin} {wakes : Bool}
    (h : Evaluated u t rooms o wakes) (hevals : u.evals = s.evals) (hsigns : u.signs = s.signs)
    (hmapping : u.mapping = s.mapping) (hquiet : u.quiet = s.quiet) (hlines : u.lines = s.lines) :
    Evaluated s t rooms o wakes := by
  have heval : u.eval = s.eval := by funext r; simp only [State.eval, hevals]
  have hsign : u.sign = s.sign := by funext i; simp only [State.sign, hsigns]
  have hline : u.line = s.line := by funext l; simp only [State.line, hlines]
  exact ⟨heval ▸ h.boards, heval ▸ hsign ▸ hmapping ▸ h.signs, hquiet ▸ h.quiet, hquiet ▸ hline ▸ h.woken,
    hquiet ▸ hline ▸ h.lines⟩

section StoreRoom
variable {s : State} {h : Header} {r : RoomId} {f : RoomFields} {x : RoomSetup} {clamped : Bool} (a : Accepted s h .setup)
include a

/-- R40: a room that is disabled takes the disabled form. -/
theorem request_disables (hserve : serveRoom r.val f (s.take h.port) =
    { st := ((s.take h.port).resetUp r x).setEval r .disabled, status := .ok, clamped := clamped }) :
    ∃ t, exec (.setRoom h r.val f) s = .next t ∧ Replied s t h 0x30 .ok clamped .empty ∧ t.roomSetup r = x ∧
      (∀ q, q ≠ r → t.roomSetup q = s.roomSetup q ∧ t.eval q = s.eval q) ∧ t.eval r = .disabled ∧ Repressed s t ∧
      PortsAnswered s t h.port ∧
      t = { s with arb := s.arb.restarted h.port s.setup.arbiter.idleCode, ports := t.ports, evals := t.evals
                   pressure := t.pressure, setup := { s.setup with rooms := t.setup.rooms } } := by
  have hframe := (s.take h.port).resetUp_eq r x
  have hports := (s.take h.port).resetUp_port r x
  have hrooms := (s.take h.port).resetUp_roomSetup r x
  have hpressed := ((s.take h.port).resetUp_repressed r x).of_take
  refine ⟨_, congrArg Host.Outcome.next (State.request_accepted a 0x30 _ _), ?_⟩
  rw [hserve]
  generalize (s.take h.port).resetUp r x = u at hframe hports hrooms hpressed ⊢
  have pressed : Repressed s (u.setEval r .disabled) := ⟨hpressed.level, hpressed.pace⟩
  refine ⟨s.answer_replied h 0x30 _, (hrooms r).trans (if_pos rfl), fun q hq => ⟨?_, ?_⟩, ?_,
    pressed.updPort _ fun _ => rfl, State.answer_portsAnswered hports _ _, ?_⟩
  · exact ((hrooms q).trans (if_neg hq)).trans (s.take_roomSetup _ q)
  · show (u.setEval r .disabled).eval q = s.eval q
    rw [State.eval_setEval, if_neg hq, hframe]
    exact s.take_eval _ q
  · show (u.setEval r .disabled).eval r = .disabled
    rw [State.eval_setEval, if_pos rfl]
  · rw [State.take_eq] at hframe
    exact congrArg (fun w : State => { w with evals := (u.setEval r .disabled).evals, ports := ((s.take h.port).answer h.port
      0x30 { st := u.setEval r .disabled, status := .ok, clamped := clamped }).ports }) hframe

/-- R4, R38: a room that is enabled, or stays so, is evaluated. -/
theorem request_enables (hserve : serveRoom r.val f (s.take h.port) =
    { st := ((s.take h.port).resetUp r x).evaluateRoom r .setup false, status := .ok, clamped := clamped }) :
    ∃ t, exec (.setRoom h r.val f) s = .next t ∧ Replied s t h 0x30 .ok clamped .empty ∧ t.roomSetup r = x ∧
      (∀ q, q ≠ r → t.roomSetup q = s.roomSetup q) ∧ Repressed s t ∧ Evaluated s t (fun q => q == r) .setup false ∧
      PortsAnswered s t h.port ∧
      t = { s with arb := s.arb.restarted h.port s.setup.arbiter.idleCode, ports := t.ports, evals := t.evals
                   pressure := t.pressure, signs := t.signs, lines := t.lines, quiet := t.quiet
                   setup := { s.setup with rooms := t.setup.rooms } } := by
  have uframe := (s.take h.port).resetUp_eq r x
  have uports := (s.take h.port).resetUp_port r x
  have urooms := (s.take h.port).resetUp_roomSetup r x
  have upressed := (s.take h.port).resetUp_repressed r x
  generalize (s.take h.port).resetUp r x = u at hserve uframe uports urooms upressed
  have hoff := u.evaluateRoom_offBoard r .setup false
  have hvframe := State.eq_of_offBoard hoff
  have hboards := u.evaluateRoom_evaluated r .setup
  refine ⟨_, congrArg Host.Outcome.next (State.request_accepted a 0x30 _ _), ?_⟩
  rw [hserve]
  generalize u.evaluateRoom r .setup false = v at hoff hvframe hboards ⊢
  have hrooms (q : RoomId) : v.roomSetup q = u.roomSetup q := roomSetup_of_desk (desk_of_offBoard hoff) q
  have hport (q : Port) : v.port q = u.port q := congrArg (·[portIndex q]) (ports_of_offBoard hoff)
  have hpressed : Repressed s v := (upressed.of_offBoard hoff).of_take
  refine ⟨s.answer_replied h 0x30 _, ((hrooms r).trans (urooms r)).trans (if_pos rfl), fun q hq => ?_,
    hpressed.updPort _ fun _ => rfl, ?_, State.answer_portsAnswered (fun q => ?_) _ _, ?_⟩
  · exact (((hrooms q).trans (urooms q)).trans (if_neg hq)).trans (s.take_roomSetup _ q)
  · refine (hboards.of_before_mapping ?_ ?_ ?_ ?_ ?_).with_ports _
    · rw [uframe]
      exact s.take_evals _
    · rw [uframe]
      exact s.take_signs _
    · funext i
      rw [uframe]
      exact s.take_mapping _ i
    · rw [uframe]
      exact s.take_quiet _
    · rw [uframe]
      exact s.take_lines _
  · show v.port q = _
    rw [hport]
    exact uports q
  · have rooms : v.setup.rooms = u.setup.rooms := by rw [hvframe]
    have pressure : v.pressure = u.pressure := by rw [hvframe]
    rw [← rooms, ← pressure, State.take_eq] at uframe
    rw [uframe] at hvframe
    exact congrArg (fun w : State => { w with ports := ((s.take h.port).answer h.port 0x30
      { st := v, status := .ok, clamped := clamped }).ports }) hvframe

end StoreRoom

/-- Settles O32: the checks in order, then the fields stored and the room evaluated, or in its disabled form. -/
theorem roomIsSetUp : Obligations.RoomIsSetUp := by
  unfold Obligations.RoomIsSetUp
  refine fun s h f a => ⟨fun room hroom => State.exec_refused a ?_, fun r => ?_⟩
  · rw [serveRoom, room?_of_le hroom]
  have refused {st : Status} (hcheck : s.roomCheck r f = some st) :
      exec (.setRoom h r.val f) s = .next (s.answeredWith h 0x30 st .empty) :=
    State.exec_refused a (serveRoom_refused ((s.take_roomCheck _ _ _).trans hcheck))
  refine ⟨fun hbad => refused (State.roomCheck_badValue hbad), fun hoff hbusy => refused ?_, fun hoff hempty hnone hheld => ?_,
    fun hon => ⟨fun hname => refused ?_, fun hlow hhigh => ⟨fun hcells => refused ?_, fun hcells => ?_⟩⟩⟩
  · rw [State.roomCheck_off hoff, if_pos ((s.roomBusy_iff r).2 hbusy)]
  · have hcheck : s.roomCheck r f = none := by
      rw [State.roomCheck_off hoff, if_neg]
      rw [State.roomBusy_iff]
      rintro (h | ⟨i, m, hm, hr⟩ | h)
      · exact h hempty
      · exact hnone i m hm hr
      · exact hheld h
    have hstore : (s.take h.port).storeRoom r f = ((s.take h.port).resetUp r (RoomFields.setup f)).setEval r .disabled :=
      if_neg (by rw [hoff]; decide)
    have hsetup : RoomFields.setup f = { enabled := false, name := none, lead := min 240 f.lead
                                         closing := min 120 f.closing, follow := min 3 f.follow } := by
      simp [RoomFields.setup, hoff]
    have hserve := serveRoom_stored ((s.take_roomCheck h.port r f).trans hcheck)
    rw [RoomFields.clamped_eq, hstore, hsetup] at hserve
    exact request_disables a hserve
  · rw [State.roomCheck_on hon, if_pos hname]
  · rw [State.roomCheck_on hon, if_neg (by omega), if_pos hcells]
  · have hcheck : s.roomCheck r f = none := by
      rw [State.roomCheck_on hon, if_neg (by omega), if_neg (Nat.not_lt.2 hcells)]
    have hstore : (s.take h.port).storeRoom r f =
        ((s.take h.port).resetUp r (RoomFields.setup f)).evaluateRoom r .setup false := if_pos hon
    have hsetup : RoomFields.setup f = { enabled := true, name := some f.name, lead := min 240 f.lead
                                         closing := min 120 f.closing, follow := min 3 f.follow } := by
      simp [RoomFields.setup, hon]
    have hserve := serveRoom_stored ((s.take_roomCheck h.port r f).trans hcheck)
    rw [RoomFields.clamped_eq, hstore, hsetup] at hserve
    exact request_enables a hserve

end Sys2Proof.Machine
end

section
/-! PROOFS. SET_TEST (R106 to R108). A SET_TEST goes over its signs one at a time; what it does to a sign depends on that sign's
record before the request, because no sign comes twice. -/

namespace Sys2Proof.Machine

/-! ### One sign -/

section TestSign
variable (s : State) (i : SignId) (card : Option TestCard) (wanted : Option Digests)

theorem State.testSign_frame : s.testSign i card wanted = { s with
    signs := (s.testSign i card wanted).signs, lines := (s.testSign i card wanted).lines } := by
  obtain ⟨ls, h⟩ := (s.updSign i fun g => { g with test := card, wanted := wanted, origin := .setup }).settleSign_eq i
  have h : s.testSign i card wanted = _ := h
  rw [h]
  rfl

theorem State.testSign_sign (k : SignId) : (s.testSign i card wanted).sign k =
    if k = i then { s.sign k with test := card, wanted := wanted, origin := .setup } else s.sign k := by
  rw [State.testSign, State.settleSign_sign, State.updSign, State.sign_setSign]
  split
  · next h => rw [h]
  · rfl

theorem State.testSign_still : AllStill s (s.testSign i card wanted) :=
  (AllStill.setSign s i _).trans (State.settleSign_still _ _)

end TestSign

/-! ### A run over the signs -/

/-- A step that treats each sign by its record and mapping in s, in one of four ways. -/
structure TestRun.Steps (s : State) (f : TestRun → SignId → TestRun) (applies unchanged latched unmapped : SignId → Bool)
    (card : Option TestCard) (wanted : SignId → Option Digests) : Prop where
  step : ∀ (t : TestRun) (i : SignId), t.st.setup = s.setup → t.st.evals = s.evals → t.st.sign i = s.sign i → f t i =
    { st := if applies i then t.st.testSign i card (wanted i) else t.st
      applied := t.applied + (applies i).toNat, unchanged := t.unchanged + (unchanged i).toNat
      latched := t.latched + (latched i).toNat, unmapped := t.unmapped + (unmapped i).toNat }

/-- What a run over a list of signs gives. -/
structure TestRun.Ran (s : State) (t r : TestRun) (l : List SignId) (applies unchanged latched unmapped : SignId → Bool)
    (card : Option TestCard) (wanted : SignId → Option Digests) : Prop where
  applied : r.applied = t.applied + l.countP applies
  unchanged : r.unchanged = t.unchanged + l.countP unchanged
  latched : r.latched = t.latched + l.countP latched
  unmapped : r.unmapped = t.unmapped + l.countP unmapped
  sign : ∀ i, r.st.sign i = if i ∈ l ∧ applies i = true then
    { s.sign i with test := card, wanted := wanted i, origin := .setup } else t.st.sign i
  still : AllStill t.st r.st
  frame : r.st = { t.st with signs := r.st.signs, lines := r.st.lines }

section Run
variable {s : State} {f : TestRun → SignId → TestRun} {applies unchanged latched unmapped : SignId → Bool}
  {card : Option TestCard} {wanted : SignId → Option Digests}

theorem TestRun.Steps.ran (h : TestRun.Steps s f applies unchanged latched unmapped card wanted) {l : List SignId}
    (once : l.Nodup) : ∀ t : TestRun, t.st.setup = s.setup → t.st.evals = s.evals → (∀ i ∈ l, t.st.sign i = s.sign i) →
      TestRun.Ran s t (l.foldl f t) l applies unchanged latched unmapped card wanted := by
  induction l with
  | nil => exact fun t _ _ _ => ⟨rfl, rfl, rfl, rfl, fun i => by simp, .refl _, rfl⟩
  | cons i l ih =>
    intro t hsetup hevals hsigns
    obtain ⟨hnew, once⟩ := List.nodup_cons.1 once
    obtain ⟨hi, hl⟩ := List.forall_mem_cons.1 hsigns
    have step := h.step t i hsetup hevals hi
    -- The state after the first sign.
    have frame : (f t i).st = { t.st with signs := (f t i).st.signs, lines := (f t i).st.lines } := by
      rw [step]
      dsimp only
      split
      · exact State.testSign_frame _ _ _ _
      · rfl
    have sign (k : SignId) : (f t i).st.sign k = if k = i ∧ applies i = true then
        { s.sign k with test := card, wanted := wanted k, origin := .setup } else t.st.sign k := by
      rw [step]
      dsimp only
      by_cases happlies : applies i = true
      · rw [if_pos happlies, State.testSign_sign]
        by_cases hk : k = i
        · rw [if_pos hk, if_pos ⟨hk, happlies⟩, hk, hi]
        · rw [if_neg hk, if_neg fun hc => hk hc.1]
      · rw [if_neg happlies, if_neg fun hc => happlies hc.2]
    have still : AllStill t.st (f t i).st := by
      rw [step]
      dsimp only
      split
      · exact State.testSign_still _ _ _ _
      · exact .refl _
    have rest := ih once (f t i) (by rw [frame]; exact hsetup) (by rw [frame]; exact hevals) fun k hk => by
      have hki : k ≠ i := fun e => hnew (e ▸ hk)
      rw [sign, if_neg fun hc => hki hc.1]
      exact hl k hk
    have count (p : SignId → Bool) : (i :: l).countP p = (p i).toNat + l.countP p := by
      rw [List.countP_cons, Nat.add_comm]
      cases p i <;> rfl
    rw [List.foldl_cons]
    refine ⟨?_, ?_, ?_, ?_, fun k => ?_, still.trans rest.still, ?_⟩
    · rw [rest.applied, step, count, Nat.add_assoc]
    · rw [rest.unchanged, step, count, Nat.add_assoc]
    · rw [rest.latched, step, count, Nat.add_assoc]
    · rw [rest.unmapped, step, count, Nat.add_assoc]
    · rw [rest.sign, sign]
      by_cases hki : k = i
      · subst hki
        simp [hnew]
      · simp [hki]
    · have framed := rest.frame
      generalize l.foldl f (f t i) = r at framed ⊢
      rw [frame] at framed
      rw [framed]

end Run

/-! ### The list and the pattern -/

theorem signs?_map (l : List SignId) : signs? (l.map Fin.val) = some l := by
  induction l with
  | nil => rfl
  | cons i l ih =>
    show (match sign? i.val, signs? (l.map Fin.val) with
      | some i, some is => some (i :: is)
      | _, _ => none) = _
    rw [sign?_val, ih]

theorem sign?_some {n : Nat} {i : SignId} (h : sign? n = some i) : i.val = n := by
  unfold sign? at h
  split at h
  · exact Option.some.inj h ▸ rfl
  · cases h

theorem signs?_none {l : List Nat} (h : ∃ n ∈ l, 95 < n) : signs? l = none := by
  obtain ⟨n, hn, hlarge⟩ := h
  induction l with
  | nil => cases hn
  | cons m l ih =>
    unfold signs?
    rcases List.mem_cons.1 hn with rfl | hn
    · rw [sign?_of_le hlarge]
    · rw [ih hn]
      cases sign? m <;> rfl

theorem signs?_some {l : List Nat} {is : List SignId} (h : signs? l = some is) : l = is.map Fin.val := by
  induction l generalizing is with
  | nil => exact Option.some.inj h ▸ rfl
  | cons n l ih =>
    unfold signs? at h
    split at h
    · next i is' hi his => rw [← Option.some.inj h, List.map_cons, sign?_some hi, ← ih his]
    · cases h

/-- R107, checks 1 and 2: a list that is refused. -/
theorem testList?_none {l : List Nat} (h : l = [] ∨ (∃ n ∈ l, 95 < n) ∨ ¬ l.Nodup) : testList? l = none := by
  unfold testList?
  cases his : signs? l with
  | none => rfl
  | some is =>
    have hl := signs?_some his
    rcases h with hempty | hlarge | htwice
    · have : is = [] := by simpa [hempty] using hl
      simp [this]
    · rw [signs?_none hlarge] at his
      cases his
    · have : ¬ is.Nodup := fun once => htwice (hl ▸ once.map Fin.val_injective)
      simp [this]

theorem testList?_map {l : List SignId} (hsome : l ≠ []) (once : l.Nodup) : testList? (l.map Fin.val) = some l := by
  have few : l.length ≤ 96 := by simpa using once.length_le_card
  unfold testList?
  rw [signs?_map]
  simp [hsome, once, few]

theorem card?_none {a n : Nat} (h : 3 < n) : card? a n = none := by
  match n, h with
  | n + 4, _ => rfl

/-- R106: the card of a pattern. -/
def patternCard (address pattern : Nat) : TestCard :=
  match pattern with
  | 0 => .white
  | 1 => .black
  | 2 => .checker
  | _ => .ident address

theorem card?_eq {a n : Nat} (h : n ≤ 3) : card? a n = some (patternCard a n) := by
  match n, h with
  | 0, _ | 1, _ | 2, _ | 3, _ => rfl

theorem patternCode_card {a n : Nat} (h : n ≤ 3) : patternCode (some (patternCard a n)) = n + 1 := by
  match n, h with
  | 0, _ | 1, _ | 2, _ | 3, _ => rfl

/-- R107: a sign shows a pattern already. -/
theorem any_samePattern {a n : Nat} (h : n ≤ 3) (x : Option TestCard) :
    x.any (samePattern (patternCard a n)) = decide (patternCode x = n + 1) := by
  cases x with
  | none => simp [patternCode]
  | some c =>
    rw [Option.any_some, samePattern, patternCode_card h]
    by_cases hc : patternCode (some c) = n + 1
    · simp [hc]
    · simp [hc, Ne.symm hc]

/-! ### SET_TEST -/

/-- R107: a SET_TEST with a pattern, sign by sign. -/
theorem TestRun.card_steps (s : State) {a n : Nat} (h : n ≤ 3) : TestRun.Steps s (fun t i => t.card (patternCard a n) i)
    (fun i => (s.mapping i).isSome && decide ((s.sign i).fault ≠ .latched) && decide (patternCode (s.sign i).test ≠ n + 1))
    (fun i => (s.mapping i).isSome && decide ((s.sign i).fault ≠ .latched) && decide (patternCode (s.sign i).test = n + 1))
    (fun i => (s.mapping i).isSome && decide ((s.sign i).fault = .latched)) (fun i => (s.mapping i).isNone)
    (some (patternCard a n)) (fun i => some (cardDigests (patternCard a n) i)) where
  step t i hsetup hevals hsign := by
    have mapping : t.st.mapping i = s.mapping i := by simp only [State.mapping, hsetup]
    unfold TestRun.card
    rw [mapping, hsign]
    cases hm : s.mapping i with
    | none => simp
    | some m =>
      dsimp only
      by_cases hlatched : (s.sign i).fault = .latched
      · simp [hlatched]
      · rw [if_neg hlatched, any_samePattern h]
        by_cases hpattern : patternCode (s.sign i).test = n + 1
        · simp [hlatched, hpattern]
        · simp [hlatched, hpattern]

/-- R108: a SET_TEST with OFF, sign by sign. -/
theorem TestRun.off_steps (s : State) : TestRun.Steps s TestRun.off
    (fun i => (s.mapping i).isSome && (s.sign i).test.isSome) (fun i => (s.mapping i).isSome && (s.sign i).test.isNone)
    (fun _ => false) (fun i => (s.mapping i).isNone) none
    (fun i => (s.mapping i).bind fun m => (s.eval m.room).digests m.role) where
  step t i hsetup hevals hsign := by
    have mapping : t.st.mapping i = s.mapping i := by simp only [State.mapping, hsetup]
    have eval (r : RoomId) : t.st.eval r = s.eval r := by simp only [State.eval, hevals]
    unfold TestRun.off
    rw [mapping, hsign]
    cases hm : s.mapping i with
    | none => simp
    | some m =>
      dsimp only
      rw [eval]
      cases (s.sign i).test <;> simp

/-- A request whose block moves sign records and lines alone. -/
theorem State.request_floor {s : State} {h : Header} {need : Need} (a : Accepted s h need) {code : Nat}
    {cast : State → Option State} {serve : State → Served} {u : State} {result : Result}
    (hu : u = { s.take h.port with signs := u.signs, lines := u.lines })
    (hserve : serve (s.take h.port) = okWith u result) :
    ∃ t, s.request h code need cast serve = t ∧ Replied s t h code .ok false result ∧ t.signs = u.signs ∧ t.lines = u.lines ∧
      Unpressed s t ∧ PortsAnswered s t h.port ∧
      t = { s with arb := s.arb.restarted h.port s.setup.arbiter.idleCode, ports := t.ports, signs := t.signs
                   lines := t.lines } := by
  have hports : u.ports = (s.take h.port).ports := by rw [hu]
  have hport (q : Port) : u.port q = (s.take h.port).port q := congrArg (·[portIndex q]) hports
  have hpress : Unpressed (s.take h.port) u := ⟨by rw [hu], fun q => by rw [hport]⟩
  refine ⟨_, State.request_accepted a code cast serve, ?_⟩
  rw [hserve]
  refine ⟨s.answer_replied h code _, rfl, rfl, hpress.of_take.updPort _ fun _ => rfl, State.answer_portsAnswered (fun q => ?_) _ _,
    ?_⟩
  · show u.port q = { (s.take h.port).port q with raised := (u.port q).raised }
    rw [hport]
  · rw [State.take_eq] at hu
    exact congrArg (fun w : State => { w with ports := ((s.take h.port).answer h.port code (okWith u result)).ports }) hu

/-- R107, R108: an accepted SET_TEST that treats the signs of its list. -/
theorem State.request_tested {s : State} {h : Header} (a : Accepted s h .setup) {serve : State → Served}
    {f : TestRun → SignId → TestRun} {applies unchanged latched unmapped : SignId → Bool} {card : Option TestCard}
    {wanted : SignId → Option Digests} {l : List SignId} (once : l.Nodup)
    (steps : TestRun.Steps s f applies unchanged latched unmapped card wanted)
    (hserve : serve (s.take h.port) = (l.foldl f (TestRun.start (s.take h.port))).served) :
    ∃ t, s.request h 0x32 .setup noCast serve = t ∧ Replied s t h 0x32 .ok false
        (.tested (l.countP applies) (l.countP unchanged) (l.countP latched) (l.countP unmapped)) ∧
      (∀ i, t.sign i = if i ∈ l ∧ applies i = true then
        { s.sign i with test := card, wanted := wanted i, origin := .setup } else s.sign i) ∧
      (∀ k, (s.line k).Still (t.line k)) ∧ Unpressed s t ∧ PortsAnswered s t h.port ∧
      t = { s with arb := s.arb.restarted h.port s.setup.arbiter.idleCode, ports := t.ports, signs := t.signs
                   lines := t.lines } := by
  have ran := steps.ran once (TestRun.start (s.take h.port)) (s.take_setup _) (s.take_evals _) fun i _ => s.take_sign _ i
  generalize l.foldl f (TestRun.start (s.take h.port)) = r at ran hserve
  obtain ⟨t, ht, hreply, hsigns, hlines, rest⟩ := State.request_floor a (code := 0x32) (cast := noCast) ran.frame hserve
  rw [ran.applied, ran.unchanged, ran.latched, ran.unmapped] at hreply
  simp only [TestRun.start, Nat.zero_add] at hreply
  refine ⟨t, ht, hreply, fun i => ?_, fun k => ?_, rest⟩
  · have sign : t.sign i = r.st.sign i := congrArg (·[i]) hsigns
    rw [sign, ran.sign]
    simp only [TestRun.start, State.take_sign]
  · have line : t.line k = r.st.line k := congrArg (·[k]) hlines
    have still := ran.still.lines k
    rw [TestRun.start, State.take_line] at still
    rw [line]
    exact still

/-- Settles O47: a refused list or pattern, or a run over the signs. -/
theorem testPatternsAreSet : Obligations.TestPatternsAreSet := by
  unfold Obligations.TestPatternsAreSet
  refine fun s h a => ⟨fun signs pattern hbad => State.exec_refused a ?_, fun signs hbad => State.exec_refused a ?_,
    fun l hsome once => ⟨fun pattern c hc hpattern => ?_, ?_⟩⟩
  · unfold serveTest
    rcases hbad with hempty | hlarge | htwice | hpattern
    · rw [testList?_none (.inl hempty)]
    · rw [testList?_none (.inr (.inl hlarge))]
    · rw [testList?_none (.inr (.inr htwice))]
    · rw [card?_none hpattern]
      cases testList? signs <;> rfl
  · rw [serveTestOff, testList?_none hbad]
  · change c = patternCard s.address pattern at hc
    subst hc
    have hserve : serveTest (l.map Fin.val) pattern (s.take h.port) =
        (l.foldl (fun t i => t.card (patternCard s.address pattern) i) (TestRun.start (s.take h.port))).served := by
      unfold serveTest
      rw [testList?_map hsome once, card?_eq hpattern, State.take_address]
    obtain ⟨t, ht, hreply, hsign, rest⟩ := State.request_tested a once (TestRun.card_steps s hpattern) hserve
    refine ⟨t, congrArg Host.Outcome.next ht, hreply, fun i => ?_, rest⟩
    rw [hsign]
    simp only [Bool.and_eq_true, decide_eq_true_eq, Option.isSome_iff_ne_none, and_assoc]
    rfl
  · have hserve : serveTestOff (l.map Fin.val) (s.take h.port) =
        (l.foldl TestRun.off (TestRun.start (s.take h.port))).served := by
      rw [serveTestOff, testList?_map hsome once]
    obtain ⟨t, ht, hreply, hsign, rest⟩ := State.request_tested a once (TestRun.off_steps s) hserve
    have none_latched : l.countP (fun _ => false) = 0 := by simp
    rw [none_latched] at hreply
    refine ⟨t, congrArg Host.Outcome.next ht, hreply, fun i => ?_, rest⟩
    rw [hsign]
    cases s.mapping i with
    | none => simp
    | some m => simp [Option.isSome_iff_ne_none]

end Sys2Proof.Machine
end

section
/-! PROOFS. MAP_SIGN (R101 to R103). The sign is taken off its old line, takes its new place or none, and joins the queue of its
new line. -/

namespace Sys2Proof.Machine

/-! ### Taking a sign off its line -/

/-- What taking a sign off its line, or not, leaves of a line. -/
structure LineRecord.Freed (a b : LineRecord) (i : SignId) : Prop where
  extras : b.extras = a.extras
  roll : b.roll = a.roll
  budget : b.budget = a.budget
  mode : b.mode = a.mode
  dirty : ∀ j, j ≠ i → (j ∈ b.dirty ↔ j ∈ a.dirty)

theorem State.takeOff_freed (s : State) (i : SignId) (k : LineId) : (s.line k).Freed ((s.takeOff i).line k) i := by
  rcases s.takeOff_line i k with h | h
  · rw [h]
    exact ⟨rfl, rfl, rfl, rfl, fun _ _ => Iff.rfl⟩
  · rw [h]
    refine ⟨rfl, rfl, rfl, rfl, fun j hj => ?_⟩
    simp [LineRecord.leave, LineRecord.dropJob, hj]

/-- R102 step 1, R103: the line that a mapped sign leaves. -/
theorem State.takeOff_own {s : State} {i : SignId} {m : Mapping} (hm : s.mapping i = some m) :
    (s.takeOff i).line m.line = ((s.line m.line).dropJob i).leave i := by
  rw [State.takeOff, hm]
  exact (State.line_updLine _ _ _ _).trans (if_pos rfl)

theorem State.takeOff_other {s : State} {i : SignId} {m : Mapping} (hm : s.mapping i = some m) {k : LineId}
    (hk : k ≠ m.line) : (s.takeOff i).line k = s.line k := by
  rw [State.takeOff, hm]
  exact (State.line_updLine _ _ _ _).trans (if_neg hk)

theorem LineRecord.not_mem_dropJob_leave (a : LineRecord) (i : SignId) :
    i ∉ ((a.dropJob i).leave i).dirty ∧ ∀ j ∈ ((a.dropJob i).leave i).jobs, j.sign ≠ i := by
  constructor
  · simp [LineRecord.leave]
  · simp [LineRecord.leave, LineRecord.dropJob]

theorem LineRecord.join_extras (a : LineRecord) (i : SignId) : (a.join i).extras = a.extras := by
  unfold LineRecord.join
  split <;> rfl

theorem LineRecord.join_roll (a : LineRecord) (i : SignId) : (a.join i).roll = a.roll := by
  unfold LineRecord.join
  split <;> rfl

theorem LineRecord.mem_join_of_ne {a : LineRecord} {i j : SignId} (h : j ≠ i) : j ∈ (a.join i).dirty ↔ j ∈ a.dirty := by
  rw [LineRecord.join_dirty]
  split
  · rfl
  · simp [h]

/-! ### The new place -/

section MapSign
variable (s : State) (i : SignId) (m : Mapping)

theorem State.mapSign_frame : s.mapSign i m = { s with
    setup := { s.setup with signMap := (s.mapSign i m).setup.signMap }, signs := (s.mapSign i m).signs
    lines := (s.mapSign i m).lines } := by
  unfold State.mapSign
  rw [State.takeOff_frame]
  rfl

theorem State.mapSign_mapping (j : SignId) : (s.mapSign i m).mapping j = if j = i then some m else s.mapping j := by
  have mapping : (s.mapSign i m).mapping j = ((s.takeOff i).setMapping i (some m)).mapping j := rfl
  rw [mapping, State.mapping_setMapping, State.takeOff_frame]
  rfl

theorem State.mapSign_sign (j : SignId) : (s.mapSign i m).sign j =
    if j = i then (s.sign i).mapped ((s.eval m.room).digests m.role) else s.sign j := by
  have sign : (s.mapSign i m).sign j = ((s.takeOff i).updSign i
    (fun g => g.mapped ((s.eval m.room).digests m.role))).sign j := rfl
  have off (k : SignId) : (s.takeOff i).sign k = s.sign k := by rw [State.takeOff_frame]; rfl
  rw [sign, State.updSign, State.sign_setSign, off, off]

theorem State.mapSign_line (k : LineId) : (s.mapSign i m).line k =
    if k = m.line then (((s.takeOff i).line k).unlist fun p => p == m.position).join i else (s.takeOff i).line k := by
  unfold State.mapSign
  rw [State.line_updLine]
  split
  · next h => subst h; rfl
  · rfl

end MapSign

section UnmapSign
variable {s : State} {i : SignId} {m : Mapping} (hm : s.mapping i = some m)
include hm

theorem State.unmapSign_eq : s.unmapSign i = ((s.takeOff i).setMapping i none).updSign i SignRecord.unmapped := by
  rw [State.unmapSign, hm]

theorem State.unmapSign_frame : s.unmapSign i = { s with
    setup := { s.setup with signMap := (s.unmapSign i).setup.signMap }, signs := (s.unmapSign i).signs
    lines := (s.unmapSign i).lines } := by
  rw [State.unmapSign_eq hm, State.takeOff_frame]
  rfl

theorem State.unmapSign_mapping (j : SignId) : (s.unmapSign i).mapping j = if j = i then none else s.mapping j := by
  rw [State.unmapSign_eq hm]
  have mapping : (((s.takeOff i).setMapping i none).updSign i SignRecord.unmapped).mapping j =
    ((s.takeOff i).setMapping i none).mapping j := rfl
  rw [mapping, State.mapping_setMapping, State.takeOff_frame]
  rfl

theorem State.unmapSign_sign (j : SignId) :
    (s.unmapSign i).sign j = if j = i then (s.sign i).unmapped else s.sign j := by
  have off (k : SignId) : (s.takeOff i).sign k = s.sign k := by rw [State.takeOff_frame]; rfl
  rw [State.unmapSign_eq hm, State.updSign, State.sign_setSign, State.setMapping_sign, State.setMapping_sign, off, off]

theorem State.unmapSign_line (k : LineId) : (s.unmapSign i).line k = (s.takeOff i).line k := by
  rw [State.unmapSign_eq hm]
  rfl

end UnmapSign

theorem State.unmapSign_none {s : State} {i : SignId} (h : s.mapping i = none) : s.unmapSign i = s := by
  rw [State.unmapSign, h]

/-! ### The checks -/

theorem position?_val (p : Position) : position? p.val = some p := dif_pos p.isLt

theorem role?_none {n : Nat} (h : 1 < n) : role? n = none := by
  match n, h with
  | n + 2, _ => rfl

theorem class?_none {n : Nat} (h : 2 < n) : class? n = none := by
  match n, h with
  | n + 3, _ => rfl

theorem PlaceFields.mapping?_none {f : PlaceFields} (r : RoomId)
    (h : 5 < f.line ∨ 15 < f.position ∨ 1 < f.role ∨ 2 < f.cls) : PlaceFields.mapping? f r = none := by
  unfold PlaceFields.mapping?
  split
  · next hl hp hr hc =>
    rcases h with h | h | h | h
    · rw [line?_of_le h] at hl; cases hl
    · rw [position?, dif_neg (by omega)] at hp; cases hp
    · rw [role?_none h] at hr; cases hr
    · rw [class?_none h] at hc; cases hc
  · rfl

/-- R101: a job in flight keeps a sign where it is. -/
theorem State.signBusy_iff (s : State) (i : SignId) :
    s.signBusy i = true ↔ ∃ j, s.jobOf i = some j ∧ j.state ≠ .ready := by
  unfold State.signBusy
  cases s.jobOf i with
  | none => simp
  | some j => simp [Job.inFlight]

theorem State.placeTaken_iff (s : State) (i : SignId) (l : LineId) (pos : Position) : s.placeTaken i l pos = true ↔
    ∃ j m, j ≠ i ∧ s.mapping j = some m ∧ m.line = l ∧ m.position = pos := by
  rw [State.placeTaken, List.any_eq_true]
  refine exists_congr fun j => ?_
  rw [and_iff_right (show j ∈ allSigns from List.mem_finRange j)]
  cases s.mapping j with
  | none => simp
  | some m => simp

section MapCheck
variable {s : State} {f : PlaceFields}

theorem State.mapCheck_badValue {sign : Nat} (h : 95 < sign ∨ 5 < f.line ∨ 15 < f.position ∨ 1 < f.role ∨ 2 < f.cls) :
    s.mapCheck sign f = .error .badValue := by
  unfold State.mapCheck
  split
  · next hi hm =>
    rcases h with h | h
    · rw [sign?_of_le h] at hi; cases hi
    · rw [PlaceFields.mapping?_none 0 h] at hm; cases hm
  · rfl

/-- R101: the checks of a map whose fields are in range, in order. -/
theorem State.mapCheck_eq {i : SignId} {l : LineId} {pos : Position} {role : Role} {cls : SignClass} (hline : f.line = l.val)
    (hpos : f.position = pos.val) (hrole : role? f.role = some role) (hcls : class? f.cls = some cls) :
    s.mapCheck i.val f = match s.enabledRoom? f.room with
      | none => .error .noRoom
      | some r =>
        if s.placeTaken i l pos then .error .inUse
        else if s.signBusy i then .error .busy
        else .ok (i, { line := l, position := pos, room := r, role := role, cls := cls }) := by
  have mapping : PlaceFields.mapping? f 0 = some { line := l, position := pos, room := 0, role := role, cls := cls } := by
    simp only [PlaceFields.mapping?, hline, hpos, line?_val, position?_val, hrole, hcls]
  unfold State.mapCheck
  rw [sign?_val, mapping] <;> cases s.enabledRoom? f.room <;> rfl

theorem State.take_mapCheck (s : State) (p : Port) (sign : Nat) (f : PlaceFields) :
    (s.take p).mapCheck sign f = s.mapCheck sign f :=
  (congrArg (fun t : State => t.mapCheck sign f) (State.take_eq s p)).trans rfl

theorem serveMap_refused {sign : Nat} {st : Status} (h : s.mapCheck sign f = .error st) : serveMap sign f s = refuse s st := by
  rw [serveMap, h]

theorem serveMap_ok {sign : Nat} {i : SignId} {m : Mapping} (h : s.mapCheck sign f = .ok (i, m)) :
    serveMap sign f s = okWith (s.mapSign i m) .empty := by
  rw [serveMap, h]

theorem serveUnmap_val (i : SignId) : serveUnmap i.val s = if s.signBusy i then refuse s .busy
    else okWith (s.unmapSign i) .empty := by
  rw [serveUnmap, sign?_val]

end MapCheck

/-- A request whose block moves sign records, lines and the sign map alone. -/
theorem State.request_remapped {s : State} {h : Header} {need : Need} (a : Accepted s h need) {code : Nat}
    {cast : State → Option State} {serve : State → Served} {u : State} {result : Result}
    (hu : u = { s.take h.port with
      setup := { (s.take h.port).setup with signMap := u.setup.signMap }, signs := u.signs, lines := u.lines })
    (hserve : serve (s.take h.port) = okWith u result) :
    ∃ t, s.request h code need cast serve = t ∧ Replied s t h code .ok false result ∧
      ((∀ j, t.mapping j = u.mapping j) ∧ (∀ j, t.sign j = u.sign j) ∧ ∀ k, t.line k = u.line k) ∧
      Unpressed s t ∧ PortsAnswered s t h.port ∧
      t = { s with arb := s.arb.restarted h.port s.setup.arbiter.idleCode, ports := t.ports, signs := t.signs
                   lines := t.lines, setup := { s.setup with signMap := t.setup.signMap } } := by
  have hports : u.ports = (s.take h.port).ports := by rw [hu]
  have hport (q : Port) : u.port q = (s.take h.port).port q := congrArg (·[portIndex q]) hports
  have hpress : Unpressed (s.take h.port) u := ⟨by rw [hu], fun q => by rw [hport]⟩
  refine ⟨_, State.request_accepted a code cast serve, ?_⟩
  rw [hserve]
  refine ⟨s.answer_replied h code _, ⟨fun _ => rfl, fun _ => rfl, fun _ => rfl⟩, hpress.of_take.updPort _ fun _ => rfl,
    State.answer_portsAnswered (fun q => ?_) _ _, ?_⟩
  · show u.port q = { (s.take h.port).port q with raised := (u.port q).raised }
    rw [hport]
  · rw [State.take_eq] at hu
    exact congrArg (fun w : State => { w with ports := ((s.take h.port).answer h.port code (okWith u result)).ports }) hu

/-- R102: what a map of a taken request leaves, in terms of the hub before it. -/
theorem exec_mapSign_maps {s : State} {h : Header} {i : SignId} {f : PlaceFields} {m : Mapping} (a : Accepted s h .setup)
    (hcheck : s.mapCheck i.val f = .ok (i, m)) : ∃ t, exec (.mapSign h i.val f) s = .next t ∧
      Replied s t h 0x31 .ok false .empty ∧
      ((∀ j, t.mapping j = if j = i then some m else s.mapping j) ∧
        (∀ j, t.sign j = if j = i then (s.sign i).mapped ((s.eval m.room).digests m.role) else s.sign j) ∧
        (∀ k, t.line k = (if k = m.line then (((s.takeOff i).line k).unlist fun p => p == m.position).join i
          else (s.takeOff i).line k))) ∧
      Unpressed s t ∧ PortsAnswered s t h.port ∧
      t = { s with arb := s.arb.restarted h.port s.setup.arbiter.idleCode, ports := t.ports, signs := t.signs
                   lines := t.lines, setup := { s.setup with signMap := t.setup.signMap } } := by
  have hserve := serveMap_ok ((s.take_mapCheck h.port i.val f).trans hcheck)
  obtain ⟨t, ht, hreply, ⟨hmapping, hsign, hline⟩, rest⟩ :=
    State.request_remapped a (code := 0x31) (cast := noCast) (State.mapSign_frame _ i m) hserve
  have off (k : LineId) : ((s.take h.port).takeOff i).line k = (s.takeOff i).line k := by
    cases hm : s.mapping i with
    | none =>
      rw [State.takeOff, State.takeOff, State.take_mapping, hm]
      exact s.take_line _ k
    | some n =>
      have taken : (s.take h.port).mapping i = some n := (s.take_mapping _ i).trans hm
      by_cases hk : k = n.line
      · rw [hk, State.takeOff_own taken, State.takeOff_own hm, State.take_line]
      · rw [State.takeOff_other taken hk, State.takeOff_other hm hk, State.take_line]
  refine ⟨t, congrArg Host.Outcome.next ht, hreply, ⟨fun j => ?_, fun j => ?_, fun k => ?_⟩, rest⟩
  · rw [hmapping, State.mapSign_mapping, State.take_mapping]
  · rw [hsign, State.mapSign_sign, State.take_eval, State.take_sign, State.take_sign]
  · rw [hline, State.mapSign_line, off]

/-- Settles O46: the checks in order, then the sign in its new place, or in none. -/
theorem signsAreMapped : Obligations.SignsAreMapped := by
  unfold Obligations.SignsAreMapped
  refine fun s h a => ⟨fun sign f hbad => State.exec_refused a (serveMap_refused (State.mapCheck_badValue hbad)),
    fun i f l pos role cls hline hpos hrole hcls => ?map,
    fun sign hbad => State.exec_refused a ?unmapBad, fun i => ⟨fun hnone => ?unmapNone, fun hbusy => ?unmapBusy,
      fun m hm hready => ?unmap⟩⟩
  case map =>
    have refused {st : Status} (hcheck : s.mapCheck i.val f = .error st) :
        exec (.mapSign h i.val f) s = .next (s.answeredWith h 0x31 st .empty) :=
      State.exec_refused a (serveMap_refused ((s.take_mapCheck _ _ _).trans hcheck))
    have maps {m : Mapping} := exec_mapSign_maps (i := i) (f := f) (m := m) a
    rw [State.mapCheck_eq hline hpos hrole hcls] at refused maps
    refine ⟨fun hno => refused ?_, fun r hr henabled => ?_⟩
    · rw [State.enabledRoom?_none hno]
    rw [← hr, State.enabledRoom?_val henabled] at refused maps
    refine ⟨fun htaken => refused (if_pos ((s.placeTaken_iff i l pos).2 htaken)), fun hfree => ?_⟩
    have free : ¬ s.placeTaken i l pos = true := by
      rw [State.placeTaken_iff]
      rintro ⟨j, m, hj, hm, hl, hp⟩
      exact hfree j m hj hm hl hp
    refine ⟨fun hbusy => refused ((if_neg free).trans (if_pos ((s.signBusy_iff i).2 hbusy))), fun hready => ?_⟩
    have idle : ¬ s.signBusy i = true := by
      rw [State.signBusy_iff]
      rintro ⟨j, hj, hstate⟩
      exact hstate (hready j hj)
    obtain ⟨t, ht, hreply, ⟨hmapping, hsign, hlines⟩, rest⟩ := maps ((if_neg free).trans (if_neg idle))
    have freed := s.takeOff_freed i
    have own : t.line l = (((s.takeOff i).line l).unlist fun p => p == pos).join i := (hlines l).trans (if_pos rfl)
    have other (k : LineId) (hk : k ≠ l) : t.line k = (s.takeOff i).line k := (hlines k).trans (if_neg hk)
    refine ⟨t, ht, hreply, (hmapping i).trans (if_pos rfl), ?_, fun j hj => ⟨(hmapping j).trans (if_neg hj),
      (hsign j).trans (if_neg hj)⟩, own ▸ LineRecord.mem_join_self _ i, ?extras, ?roll, fun k hk => ?elsewhere,
      fun m hm => ⟨?jobs, fun hml => ?left⟩, fun k j hj => ?dirty, fun k => ?stays, rest⟩
    · rw [hsign, if_pos rfl]
      simp only [SignRecord.mapped, SignRecord.replaced]
      cases (s.sign i).test <;> rfl
    case extras =>
      rw [own, LineRecord.join_extras]
      show ((s.takeOff i).line l).extras.filter _ = _
      rw [(freed l).extras]
      rfl
    case roll =>
      rw [own, LineRecord.join_roll, LineRecord.unlist_roll, (freed l).roll]
      rfl
    case elsewhere =>
      rw [other k hk]
      exact ⟨(freed k).extras, (freed k).roll⟩
    case jobs =>
      have gone := (LineRecord.not_mem_dropJob_leave (s.line m.line) i).2
      rw [← State.takeOff_own hm] at gone
      by_cases hml : m.line = l
      · rw [hml, own, LineRecord.join_jobs, ← hml]
        exact gone
      · rw [other _ hml]
        exact gone
    case left =>
      rw [other _ hml, State.takeOff_own hm]
      exact (LineRecord.not_mem_dropJob_leave (s.line m.line) i).1
    case dirty =>
      rw [← (freed k).dirty j hj]
      by_cases hk : k = l
      · rw [hk, own, LineRecord.mem_join_of_ne hj]
        rfl
      · rw [other k hk]
    case stays =>
      by_cases hk : k = l
      · rw [hk, own, LineRecord.join_budget, LineRecord.join_mode]
        exact ⟨(freed l).budget, (freed l).mode⟩
      · rw [other k hk]
        exact ⟨(freed k).budget, (freed k).mode⟩
  case unmapBad => rw [serveUnmap, sign?_of_le hbad]
  case unmapNone =>
    refine congrArg Host.Outcome.next (State.request_okWith a ?_)
    have idle : (s.take h.port).signBusy i = false := by
      rw [← Bool.not_eq_true, State.signBusy_iff, State.take_jobOf]
      rintro ⟨j, hj, -⟩
      rw [State.jobOf, hnone] at hj
      cases hj
    rw [serveUnmap_val, idle, State.unmapSign_none ((s.take_mapping _ i).trans hnone)]
    rfl
  case unmapBusy =>
    refine State.exec_refused a ?_
    have busy : (s.take h.port).signBusy i = true := by
      rw [State.signBusy_iff, State.take_jobOf]
      exact hbusy
    rw [serveUnmap_val, busy]
    rfl
  case unmap =>
    have mapped : (s.take h.port).mapping i = some m := (s.take_mapping _ i).trans hm
    have idle : (s.take h.port).signBusy i = false := by
      rw [← Bool.not_eq_true, State.signBusy_iff, State.take_jobOf]
      rintro ⟨j, hj, hstate⟩
      exact hstate (hready j hj)
    have hserve : serveUnmap i.val (s.take h.port) = okWith ((s.take h.port).unmapSign i) .empty := by
      rw [serveUnmap_val, idle]
      rfl
    obtain ⟨t, ht, hreply, ⟨hmapping, hsign, hline⟩, rest⟩ :=
      State.request_remapped a (code := 0x31) (cast := noCast) (State.unmapSign_frame mapped) hserve
    have own : t.line m.line = ((s.line m.line).dropJob i).leave i := by
      rw [hline, State.unmapSign_line mapped, State.takeOff_own mapped, State.take_line]
    obtain ⟨left, gone⟩ := LineRecord.not_mem_dropJob_leave (s.line m.line) i
    refine ⟨t, congrArg Host.Outcome.next ht, hreply, ?_, ?_, fun j hj => ⟨?_, ?_⟩, ?_, ?_, fun k hk => ?_, ?_, ?_, rest⟩
    · rw [hmapping, State.unmapSign_mapping mapped, if_pos rfl]
    · rw [hsign, State.unmapSign_sign mapped, if_pos rfl, State.take_sign]
      rfl
    · rw [hmapping, State.unmapSign_mapping mapped, if_neg hj, State.take_mapping]
    · rw [hsign, State.unmapSign_sign mapped, if_neg hj, State.take_sign]
    · rw [own]; exact left
    · rw [own]; exact gone
    · rw [hline, State.unmapSign_line mapped, State.takeOff_other mapped hk, State.take_line]
    · rw [own]; rfl
    · rw [own]; rfl

end Sys2Proof.Machine
end

section
/-! PROOFS. Job creation and the start decision (R112 to R121, R136). -/

namespace Sys2Proof.Machine

/-! ### One line of a running hub -/

theorem State.whenRunning_eq {s : State} (f : State → State) (hrun : s.run = .running) : s.whenRunning f = f s := if_pos hrun

/-- A line written back as it stands. -/
@[simp] theorem State.setLine_line_self (s : State) (l : LineId) : s.setLine l (s.line l) = s := by
  simp [State.setLine, State.line]

theorem State.updLine_eq (s : State) (l : LineId) (f : LineRecord → LineRecord) :
    s.updLine l f = s.setLine l (f (s.line l)) := rfl

/-! ### Job creation -/

/-- R114. -/
theorem State.takeable_iff (s : State) (l : LineId) (i : SignId) :
    s.takeable l i = true ↔ (∀ j ∈ (s.line l).jobs, j.sign ≠ i) ∧ (s.sign i).link ≠ .absent := by
  simp [State.takeable, LineRecord.jobOf]

theorem State.takeable_eq_false {s : State} {l : LineId} {i : SignId}
    (h : (∃ j ∈ (s.line l).jobs, j.sign = i) ∨ (s.sign i).link = .absent) : s.takeable l i = false := by
  rw [Bool.eq_false_iff, ne_eq, State.takeable_iff]
  rintro ⟨jobless, link⟩
  rcases h with ⟨j, hj, hi⟩ | h
  · exact jobless j hj hi
  · exact link h

/-- R114: no queued sign may be taken. -/
theorem State.nextSign_none {s : State} {l : LineId} (h : ∀ i ∈ (s.line l).dirty, s.takeable l i = false) :
    s.nextSign l = none := by
  have q : (s.line l).dirty.filter (fun i => s.takeable l i) = [] :=
    List.filter_eq_nil_iff.2 fun i hi => by simp [h i hi]
  simp only [State.nextSign, q, List.find?_nil, List.head?_nil]

/-- R114: the urgent sign nearest the head of the queue is taken. -/
theorem State.nextSign_urgent {s : State} {l : LineId} {i : SignId} {before after : List SignId}
    (hq : (s.line l).dirty = before ++ i :: after) (hi : s.takeable l i = true) (urgent : s.urgentSign i = true)
    (h : ∀ k ∈ before, s.urgentSign k = true → s.takeable l k = false) : s.nextSign l = some i := by
  have found : ((s.line l).dirty.filter (fun i => s.takeable l i)).find? (fun i => s.urgentSign i) = some i := by
    rw [hq, List.filter_append, List.filter_cons_of_pos hi]
    refine List.find?_eq_some_iff_append.2 ⟨urgent, _, _, rfl, fun k hk => ?_⟩
    obtain ⟨hk, taken⟩ := List.mem_filter.1 hk
    cases e : s.urgentSign k
    · rfl
    · rw [h k hk e] at taken
      cases taken
  simp only [State.nextSign, found]

/-- R114: without an urgent sign to take, the one nearest the head is taken. -/
theorem State.nextSign_plain {s : State} {l : LineId} {i : SignId} {before after : List SignId}
    (hq : (s.line l).dirty = before ++ i :: after) (hi : s.takeable l i = true)
    (hb : ∀ k ∈ before, s.takeable l k = false) (ha : ∀ k ∈ i :: after, s.urgentSign k = true → s.takeable l k = false) :
    s.nextSign l = some i := by
  have q : (s.line l).dirty.filter (fun i => s.takeable l i) = i :: after.filter (fun i => s.takeable l i) := by
    have none : before.filter (fun i => s.takeable l i) = [] := List.filter_eq_nil_iff.2 fun k hk => by simp [hb k hk]
    rw [hq, List.filter_append, List.filter_cons_of_pos hi, none, List.nil_append]
  have unfound : (i :: after.filter (fun i => s.takeable l i)).find? (fun i => s.urgentSign i) = none := by
    refine List.find?_eq_none.2 fun k hk urgent => ?_
    rcases List.mem_cons.1 hk with rfl | hk
    · exact Bool.false_ne_true ((ha k List.mem_cons_self urgent).symm.trans hi)
    · obtain ⟨hk, taken⟩ := List.mem_filter.1 hk
      exact Bool.false_ne_true ((ha k (List.mem_cons_of_mem _ hk) urgent).symm.trans taken)
  simp only [State.nextSign, q, unfound, List.head?_cons]

/-- R113: no job is made. -/
theorem State.createJob_none {s : State} {l : LineId}
    (h : (s.line l).mode ≠ .active ∨ 8 ≤ (s.line l).jobs.length ∨ s.nextSign l = none) : s.createJob l = s := by
  unfold State.createJob
  split
  · next open_ =>
    obtain ⟨mode, free⟩ : (s.line l).mode = .active ∧ (s.line l).jobs.length < Config.jobPlaces := by
      simpa using open_
    rcases h with h | h | h
    · exact absurd mode h
    · exact absurd free (Nat.not_lt.2 h)
    · rw [h]
  · rfl

/-- R113, R115: the job that is made. -/
theorem State.createJob_some {s : State} {l : LineId} {i : SignId} {m : Mapping} (mode : (s.line l).mode = .active)
    (free : (s.line l).jobs.length < 8) (next : s.nextSign l = some i) (hm : s.mapping i = some m) :
    s.createJob l = s.setLine l { (s.line l).leave i with jobs := (s.line l).jobs ++ [s.newJob i m] } := by
  unfold State.createJob
  rw [if_pos (by simp [mode, free, Config.jobPlaces]), next]
  simp only [hm]
  rfl

/-- R115: the job made from a sign, field by field. -/
theorem State.newJob_eq (s : State) (i : SignId) (m : Mapping) : s.newJob i m = {
    sign := i, kind := (s.sign i).jobKind, cost := jobCost (s.sign i).jobKind m.cls, urgent := s.urgentSign i
    target := (s.sign i).wanted
    time := if (s.sign i).test = none then (s.eval m.room).board.time else .none
    content := none, state := .ready, resends := 0, origin := (s.sign i).origin, refresh := none } := by
  unfold State.newJob State.targetTime
  cases (s.sign i).test <;> rfl

theorem SignRecord.jobKind_of_known {g : SignRecord} {d w : Digests} (test : g.test = none) (hd : g.delivered = some d)
    (hw : g.wanted = some w) : g.jobKind = if d.body = w.body then .partialJob else .fullJob := by
  simp [SignRecord.jobKind, test, hd, hw]

/-- Settles O49. -/
theorem jobsAreMade : Obligations.JobsAreMade := by
  unfold Obligations.JobsAreMade
  refine ⟨fun g => ⟨fun test => ?_, fun test unknown => ?_, fun d w => SignRecord.jobKind_of_known⟩,
    by decide, fun s l hrun => ⟨fun h => ?_, fun i m before after mode free hq hm jobless link choice => ?_⟩⟩
  · simp [SignRecord.jobKind, Option.isSome_iff_ne_none, test]
  · simp [SignRecord.jobKind, test, unknown]
  · refine congrArg _ ((State.whenRunning_eq _ hrun).trans (State.createJob_none ?_))
    rcases h with h | h | h
    · exact .inl h
    · exact .inr (.inl h)
    · exact .inr (.inr (State.nextSign_none fun i hi => State.takeable_eq_false (h i hi)))
  · have hi : s.takeable l i = true := (s.takeable_iff l i).2 ⟨jobless, link⟩
    have next : s.nextSign l = some i := by
      rcases choice with ⟨urgent, first⟩ | ⟨first, none⟩
      · exact State.nextSign_urgent hq hi urgent fun k hk hu => State.takeable_eq_false (first k hk hu)
      · exact State.nextSign_plain hq hi (fun k hk => State.takeable_eq_false (first k hk))
          fun k hk hu => State.takeable_eq_false (none k hk hu)
    refine congrArg _ ((State.whenRunning_eq _ hrun).trans ((State.createJob_some mode free next hm).trans ?_))
    rw [State.newJob_eq]
    rfl

/-! ### The start decision -/

/-- R120, conditions 1 to 3. -/
theorem lineMayStart_iff (c : LineSetup) (a : LineRecord) : lineMayStart c a = true ↔
    a.mode = .active ∧ a.roll = none ∧ (∀ j ∈ a.jobs, j.state ≠ .sending) ∧ a.inFlight < c.limit := by
  simp [lineMayStart, Job.isSending, and_assoc]

theorem startCandidate_shut {c : LineSetup} {a : LineRecord} (h : lineMayStart c a = false) : startCandidate c a = none := by
  simp [startCandidate, h]

/-- R120: no job is READY. -/
theorem startCandidate_idle {c : LineSetup} {a : LineRecord} (h : ∀ k ∈ a.jobs, k.state ≠ .ready) :
    startCandidate c a = none := by
  have unready : ∀ p : Job → Bool, a.jobs.find? (fun j => j.isReady && p j) = none := fun p =>
    List.find?_eq_none.2 fun k hk => by simp [Job.isReady, h k hk]
  simp [startCandidate, plainCandidate, unready fun j => j.urgent, unready fun j => !j.urgent]

/-- R120: the earliest READY job of an urgency. -/
theorem find_ready {jobs before after : List Job} {j : Job} {u : Bool} {p : Job → Bool} (hp : ∀ k, p k = (k.urgent == u))
    (hjobs : jobs = before ++ j :: after) (ready : j.state = .ready) (urgency : j.urgent = u)
    (first : ∀ k ∈ before, k.state = .ready → k.urgent ≠ u) :
    jobs.find? (fun k => k.isReady && p k) = some j := by
  rw [hjobs]
  refine List.find?_eq_some_iff_append.2 ⟨by simp [Job.isReady, ready, hp, urgency], before, after, rfl, fun k hk => ?_⟩
  have unfit : ¬ (k.state = .ready ∧ k.urgent = u) := fun ⟨hr, hu⟩ => first k hk hr hu
  simpa [Job.isReady, hp, imp_iff_not_or] using unfit

/-- R120: a line budget below the negative of the capacity plus a cost pays for no other job. -/
theorem plainCandidate_none {c : LineSetup} {a : LineRecord} (h : a.budget < 0) : plainCandidate c a = none := by
  unfold plainCandidate
  split
  · rfl
  · exact if_neg (by omega)

theorem startCandidate_urgent {c : LineSetup} {a : LineRecord} {j : Job} (may : lineMayStart c a = true)
    (found : a.jobs.find? (fun k => k.isReady && k.urgent) = some j)
    (pays : -(c.capacity : Int) ≤ a.budget - (j.effective c.capacity : Nat)) : startCandidate c a = some j := by
  simp only [startCandidate, may, if_true, found]
  exact if_pos pays

theorem startCandidate_plain {c : LineSetup} {a : LineRecord} (may : lineMayStart c a = true)
    (found : a.jobs.find? (fun k => k.isReady && k.urgent) = none) : startCandidate c a = plainCandidate c a := by
  simp only [startCandidate, may, if_true, found]

/-- R120: the earliest urgent job fails its check, and no job starts. -/
theorem startCandidate_unpaid {c : LineSetup} {a : LineRecord} {j : Job}
    (found : a.jobs.find? (fun k => k.isReady && k.urgent) = some j)
    (short : a.budget - (j.effective c.capacity : Nat) < -(c.capacity : Int)) : startCandidate c a = none := by
  have low : a.budget < 0 := by
    have : j.effective c.capacity ≤ c.capacity := Nat.min_le_right _ _
    omega
  unfold startCandidate
  split
  · rw [found]
    exact (if_neg (by omega)).trans (plainCandidate_none low)
  · rfl

/-- R121: no job starts. -/
theorem State.startJob_none {s : State} {l : LineId} (h : startCandidate (s.lineSetup l) (s.line l) = none) :
    s.startJob l = s := by
  simp only [State.startJob, h]

/-- A sign's one job changes in its place. -/
theorem LineRecord.updJob_split {a : LineRecord} {before after : List Job} {j : Job} (f : Job → Job)
    (hjobs : a.jobs = before ++ j :: after) (once : (a.jobs.map Job.sign).Nodup) :
    (a.updJob j.sign f).jobs = before ++ f j :: after := by
  have other : ∀ x, x ∈ before ∨ x ∈ after → x.sign ≠ j.sign := by
    rw [hjobs, List.map_append, List.map_cons, List.nodup_append] at once
    obtain ⟨-, cons, apart⟩ := once
    intro x hx e
    rcases hx with hx | hx
    · exact apart x.sign (List.mem_map_of_mem hx) j.sign List.mem_cons_self e
    · exact (List.nodup_cons.1 cons).1 (e ▸ List.mem_map_of_mem hx)
  have same : ∀ L : List Job, (∀ x ∈ L, x.sign ≠ j.sign) → L.map (fun k => if k.sign == j.sign then f k else k) = L :=
    fun L h => (List.map_congr_left fun x hx => by simp [h x hx]).trans (List.map_id L)
  show a.jobs.map _ = _
  rw [hjobs, List.map_append, List.map_cons, same before fun x hx => other x (.inl hx),
    same after fun x hx => other x (.inr hx)]
  simp

/-- R136: a job that starts takes a free transmitter. -/
theorem LineRecord.resume_started {a : LineRecord} {before after : List Job} {j : Job} (hjobs : a.jobs = before ++ j :: after)
    (sending : j.state = .sending) (first : ∀ k ∈ before, k.state ≠ .sending) :
    a.resume = { a with transmitter := match a.transmitter with
      | none => some (.job j.sign 0)
      | some x => some x } := by
  have found : a.jobs.find? Job.isSending = some j := by
    rw [hjobs]
    exact List.find?_eq_some_iff_append.2 ⟨by simp [Job.isSending, sending], before, after, rfl,
      fun k hk => by simpa [Job.isSending] using first k hk⟩
  unfold LineRecord.resume
  cases e : a.transmitter with
  | none => rw [found]
  | some x => exact congrArg (fun y => { a with transmitter := y }) e

/-- R121: the start of the candidate. -/
theorem State.startJob_some {s : State} {l : LineId} {j : Job} {m : Mapping} {before after : List Job}
    (cand : startCandidate (s.lineSetup l) (s.line l) = some j) (hm : s.mapping j.sign = some m)
    (hjobs : (s.line l).jobs = before ++ j :: after) (once : ((s.line l).jobs.map Job.sign).Nodup)
    (quiet : ∀ k ∈ (s.line l).jobs, k.state ≠ .sending) :
    s.startJob l = s.setLine l { s.line l with
      budget := (s.line l).budget - (j.effective (s.lineSetup l).capacity : Nat)
      jobs := before ++ { j with state := .sending, content := some (s.contentOf j m), resends := 0 } :: after
      transmitter := match (s.line l).transmitter with
        | none => some (.job j.sign 0)
        | some x => some x } := by
  simp only [State.startJob, cand, hm, State.updLine_eq]
  have jobs := LineRecord.updJob_split
    (fun j => { j with state := .sending, content := some (s.contentOf j m), resends := 0 }) hjobs once
  refine Eq.trans (congrArg (s.setLine l) (LineRecord.resume_started (before := before) (after := after)
    (j := { j with state := .sending, content := some (s.contentOf j m), resends := 0 }) jobs rfl
    fun k hk => quiet k (hjobs ▸ List.mem_append_left _ hk))) ?_
  exact congrArg (fun x => s.setLine l { s.line l with
    budget := (s.line l).budget - (j.effective (s.lineSetup l).capacity : Nat), jobs := x
    transmitter := match (s.line l).transmitter with
      | none => some (.job j.sign 0)
      | some x => some x }) jobs

/-- Settles O50. -/
theorem jobsAreStarted : Obligations.JobsAreStarted := by
  unfold Obligations.JobsAreStarted
  intro s l hrun
  have idle : startCandidate (s.lineSetup l) (s.line l) = none → exec (.jobStart l) s = .next s := fun h =>
    congrArg _ ((State.whenRunning_eq _ hrun).trans (State.startJob_none h))
  refine ⟨fun h => idle (startCandidate_shut ?_), fun h => idle (startCandidate_idle h),
    fun j before after hjobs ready urgent first short => idle (startCandidate_unpaid
      (find_ready (u := true) (fun k => by simp) hjobs ready urgent fun k hk hr => by simp [first k hk hr]) short),
    fun j before after hjobs ready calm first short => idle ?_,
    fun j m before after mode roll quiet free hjobs once hm ready choice => ?_⟩
  · rw [Bool.eq_false_iff, ne_eq, lineMayStart_iff]
    rintro ⟨mode, roll, quiet, free⟩
    rcases h with h | h | ⟨j, hj, sending⟩ | h
    · exact h mode
    · exact h roll
    · exact quiet j hj sending
    · omega
  · cases may : lineMayStart (s.lineSetup l) (s.line l) with
    | false => exact startCandidate_shut may
    | true =>
      have urgentless : (s.line l).jobs.find? (fun k => k.isReady && k.urgent) = none :=
        List.find?_eq_none.2 fun k hk => by simpa [Job.isReady] using calm k hk
      have found := find_ready (u := false) (p := fun k => !k.urgent) (fun k => by cases k.urgent <;> rfl) hjobs ready
        (calm j (by simp [hjobs]) ready) fun k hk hr => absurd hr (first k hk)
      rw [startCandidate_plain may urgentless, plainCandidate, found]
      exact if_neg (Int.not_le.2 short)
  · have may : lineMayStart (s.lineSetup l) (s.line l) = true := (lineMayStart_iff _ _).2 ⟨mode, roll, quiet, free⟩
    have cand : startCandidate (s.lineSetup l) (s.line l) = some j := by
      rcases choice with ⟨urgent, first, pays⟩ | ⟨urgent, first, calm, pays⟩
      · exact startCandidate_urgent may
          (find_ready (u := true) (fun k => by simp) hjobs ready urgent fun k hk hr => by simp [first k hk hr]) pays
      · have urgentless : (s.line l).jobs.find? (fun k => k.isReady && k.urgent) = none :=
          List.find?_eq_none.2 fun k hk => by simpa [Job.isReady] using calm k hk
        have found := find_ready (u := false) (p := fun k => !k.urgent) (fun k => by cases k.urgent <;> rfl) hjobs ready
          urgent fun k hk hr => by simp [first k hk hr]
        rw [startCandidate_plain may urgentless, plainCandidate, found]
        exact if_pos pays
    refine congrArg _ ((State.whenRunning_eq _ hrun).trans ((State.startJob_some cand hm hjobs once quiet).trans ?_))
    unfold State.contentOf
    cases j.kind <;> rfl

end Sys2Proof.Machine
end

section
/-! PROOFS. Frames, polls and refreshes of the jobs in flight (R122, R123, R136 to R139). -/

namespace Sys2Proof.Machine

/-! ### The exchange of a line -/

theorem LineRecord.updJob_eq (a : LineRecord) (i : SignId) (f : Job → Job) :
    a.updJob i f = { a with jobs := a.jobs.map (fun x => if x.sign = i then f x else x) } := by
  simp [LineRecord.updJob]

/-- R136: a job that waits takes the free transmitter. -/
theorem LineRecord.resume_free {a : LineRecord} (h : a.transmitter = none) :
    a.resume = { a with transmitter := nextExchange a.jobs } := by
  have find : a.jobs.find? (fun j => j.state == .sending) = a.jobs.find? Job.isSending := rfl
  unfold LineRecord.resume nextExchange
  rw [h, find]
  cases a.jobs.find? Job.isSending with
  | none => exact congrArg (fun x => { a with transmitter := x }) h
  | some j => rfl

theorem LineRecord.free_eq (a : LineRecord) : a.free = { a with transmitter := nextExchange a.jobs } :=
  LineRecord.resume_free rfl

theorem LineRecord.resume_eq (a : LineRecord) : a.resume = { a with transmitter := a.resume.transmitter } := by
  unfold LineRecord.resume
  split
  · rfl
  · split <;> rfl

/-- R136: the job that leaves is not the one the transmitter goes to. -/
theorem nextExchange_filter {jobs : List Job} {i : SignId} (h : ∀ x ∈ jobs, x.sign = i → x.state ≠ .sending) :
    nextExchange (jobs.filter fun x => x.sign != i) = nextExchange jobs := by
  have same : (jobs.filter fun x => x.sign != i).find? (fun j => j.state == .sending) =
      jobs.find? (fun j => j.state == .sending) := by
    rw [List.find?_filter]
    refine List.find?_congr fun x hx => ?_
    by_cases hi : x.sign = i
    · simp [hi, h x hx hi]
    · simp [hi, beq_eq_decide]
  unfold nextExchange
  rw [same]

/-! ### The failure of a job, with the exchange of its line -/

variable {s : State} {l : LineId} {i : SignId} {m : Mapping} {j : Job}

theorem HasJob.jobOf_eq (h : HasJob s l i m j) : (s.line l).jobOf i = some j := h.job

theorem HasJob.sign_eq (h : HasJob s l i m j) : j.sign = i := (LineRecord.mem_of_jobOf h.job).2

/-- The job of a sign is its only one. -/
theorem HasJob.only (h : HasJob s l i m j) {x : Job} (hx : x ∈ (s.line l).jobs) (hi : x.sign = i) : x = j :=
  List.inj_on_of_nodup_map h.once hx (LineRecord.mem_of_jobOf h.job).1 (hi.trans h.sign_eq.symm)

theorem HasJob.standsAt (h : HasJob s l i m j) (pos : Position) : s.standsAt i pos = (m.position == pos) := by
  simp [State.standsAt, h.mapped]

/-- A change of the transmitter leaves a sign its job. -/
theorem HasJob.updLine (h : HasJob s l i m j) {f : LineRecord → LineRecord} (hf : (f (s.line l)).jobs = (s.line l).jobs) :
    HasJob (s.updLine l f) l i m j := by
  have jobs : ((s.updLine l f).line l).jobs = (s.line l).jobs := by rw [State.line_updLine_self, hf]
  exact ⟨h.running, h.mapped, h.line, jobs ▸ h.job, jobs ▸ h.once, h.fault⟩

/-- R123: a job that fails leaves the rest of its line as it is, but for the dirty queue. -/
theorem State.retireFailed_line (h : HasJob s l i m j) (k : FaultKind) : (s.retireFailed l j k).line l =
    { (s.line l).dropJob i with dirty := ((s.retireFailed l j k).line l).dirty } := by
  obtain ⟨-, hm, rfl, -, -, hf⟩ := id h
  obtain rfl := h.sign_eq
  have gone : ((s.line m.line).dropJob j.sign).jobOf j.sign = none := by simp [LineRecord.jobOf, LineRecord.dropJob]
  have own (t : State) (mapped : t.mapping j.sign = some m) (line : t.line m.line = (s.line m.line).dropJob j.sign)
      (kind : FaultKind) (o : Origin) : (t.applyFault j.sign kind o).line m.line =
        { (s.line m.line).dropJob j.sign with dirty := ((t.applyFault j.sign kind o).line m.line).dirty } := by
    have fault := State.applyFault_line mapped (line ▸ gone) kind o
    rw [line] at fault
    exact fault
  unfold State.retireFailed
  have line := State.line_updLine_self s m.line fun ln => ln.dropJob j.sign
  cases (s.sign j.sign).pendingAbsent with
  | none => exact own (s.updLine m.line fun ln => ln.dropJob j.sign) hm line k j.origin
  | some o =>
    dsimp only
    generalize ht : (s.updLine m.line fun ln => ln.dropJob j.sign).updSign j.sign (fun g => { g with pendingAbsent := none }) = t
    have fault : (t.sign j.sign).fault ≠ .latched := by simp [← ht, hf]
    rw [State.applyAbsent, if_neg fault]
    exact own t (ht ▸ hm) (ht ▸ line) .absent o

/-- Faulted reads of the line after it the dirty queue alone. -/
theorem Faulted.then_updLine {v : State} {g : SignRecord} {k : FaultKind} {o : Origin} {f : LineRecord → LineRecord}
    (hf : (f (v.line l)).dirty = (v.line l).dirty) (h : Faulted s v l i g k o) : Faulted s (v.updLine l f) l i g k o := by
  obtain ⟨record, others, out, queued, rest, attention, lines⟩ := h
  have dirty : ((v.updLine l f).line l).dirty = (v.line l).dirty := by rw [State.line_updLine_self, hf]
  refine ⟨record, others, dirty ▸ out, dirty ▸ queued, dirty ▸ rest, attention, fun n hn => ?_⟩
  rw [State.line_updLine_of_ne _ hn, lines n hn]

/-- R123: a change of the transmitter before a failure. -/
theorem JobFailed.of_updLine {v : State} {k : FaultKind} {f : LineRecord → LineRecord}
    (hf : ∀ a, f a = { a with transmitter := (f a).transmitter }) (h : JobFailed (s.updLine l f) v l j k) :
    JobFailed s v l j k := by
  obtain ⟨frame, jobs, budget, own, pending⟩ := h
  have dirty : (f (s.line l)).dirty = (s.line l).dirty := by rw [hf]
  refine ⟨frame, jobs.trans ?_, budget.trans ?_, fun none => .of_drop dirty (own none),
    fun o some => .of_drop dirty (pending o some)⟩ <;> rw [State.line_updLine_self, hf]

/-- R123: a change of the transmitter after a failure. -/
theorem JobFailed.then_updLine {v : State} {k : FaultKind} {f : LineRecord → LineRecord}
    (hf : ∀ a, f a = { a with transmitter := (f a).transmitter }) (h : JobFailed s v l j k) :
    JobFailed s (v.updLine l f) l j k := by
  obtain ⟨frame, jobs, budget, own, pending⟩ := h
  have dirty : (f (v.line l)).dirty = (v.line l).dirty := by rw [hf]
  refine ⟨congrArg (fun w : State => { w with lines := (v.updLine l f).lines }) frame, Eq.trans ?_ jobs, Eq.trans ?_ budget,
    fun none => .then_updLine dirty (own none), fun o some => .then_updLine dirty (pending o some)⟩ <;>
    rw [State.line_updLine_self, hf]

/-! ### Frames and their answers -/

/-- R136, R139: an exchange without an answer, resent once and then failed with NO_ANSWER. -/
theorem State.missed_resent (h : HasJob s l i m j) (unsent : j.resends = 0) : s.missed l i = s.setLine l { s.line l with
    jobs := (s.line l).jobs.map (fun x => if x.sign = i then { x with resends := 1 } else x) } := by
  simp only [State.missed, h.jobOf_eq, unsent, if_true, State.updLine_eq, LineRecord.resend, LineRecord.updJob_eq]

theorem State.missed_failed (h : HasJob s l i m j) (sent : j.resends ≠ 0) : JobFailed s (s.missed l i) l j .noAnswer ∧
    ((s.missed l i).line l).transmitter = nextExchange ((s.missed l i).line l).jobs := by
  have missed : s.missed l i = ((s.updLine l fun a => { a with transmitter := none }).retireFailed l j .noAnswer).updLine l
      LineRecord.resume := by
    simp only [State.missed, h.jobOf_eq, sent, if_false]
  have cut : HasJob (s.updLine l fun a => { a with transmitter := none }) l i m j := h.updLine rfl
  have free : (((s.updLine l fun a => { a with transmitter := none }).retireFailed l j .noAnswer).line l).transmitter = none := by
    rw [State.retireFailed_line cut, State.line_updLine_self]
    rfl
  rw [missed]
  have failed : JobFailed s ((s.updLine l fun a => { a with transmitter := none }).retireFailed l j .noAnswer) l j .noAnswer :=
    .of_updLine (fun _ => rfl) (State.retireFailed_failed cut .noAnswer)
  refine ⟨failed.then_updLine LineRecord.resume_eq, ?_⟩
  rw [State.line_updLine_self, LineRecord.resume_free free]

/-- Settles O51. -/
theorem framesAreAcknowledged : Obligations.FramesAreAcknowledged := by
  unfold Obligations.FramesAreAcknowledged
  intro s l i m j k h sending ontheair
  have ack (pos : Position) : exec (.ack l pos) s = .next (if s.standsAt i pos then s.acked l i k else s) := by
    refine congrArg _ ((State.whenRunning_eq _ h.running).trans ?_)
    simp only [State.takeAck, ontheair]
  have wait : exec (.ackWaitExpiry l) s = .next (s.missed l i) := by
    refine congrArg _ ((State.whenRunning_eq _ h.running).trans ?_)
    simp only [State.ackMissed, ontheair]
  have own : exec (.ack l m.position) s = .next (s.acked l i k) := by
    rw [ack, h.standsAt, if_pos (beq_self_eq_true _)]
  have acked : s.acked l i k = if k + 1 < frameCount j.content then s.updLine l (fun ln => ln.nextFrame i k)
      else s.updLine l (fun ln => ln.refreshing i (s.lineSetup l).refreshLimit) := by
    simp [State.acked, h.jobOf_eq, Job.isSending, sending]
  refine ⟨fun pos hpos => ?_, fun more => ?_, fun last => ?_, fun unsent => ?_, fun sent => ?_⟩
  · rw [ack, h.standsAt, if_neg (by simpa using hpos.symm)]
  · rw [own, acked, if_pos more, State.updLine_eq, LineRecord.nextFrame, LineRecord.updJob_eq]
  · rw [own, acked, if_neg (Nat.not_lt.2 last), State.updLine_eq, LineRecord.refreshing, LineRecord.updJob_eq]
  · rw [wait, State.missed_resent h unsent]
  · exact ⟨_, wait, State.missed_failed h sent⟩

/-! ### Polls -/

/-- R138: the round is unfinished. -/
theorem LineRecord.roundOpen_iff (a : LineRecord) :
    a.roundOpen = true ↔ a.round ≠ [] ∨ ∃ i b, a.transmitter = some (.poll i b) := by
  unfold LineRecord.roundOpen
  rcases a.transmitter with _ | ⟨_, _⟩ | ⟨_, _⟩ | _ <;> simp
/-- Settles O52. -/
theorem pollsGoRound : Obligations.PollsGoRound := by
  unfold Obligations.PollsGoRound
  intro s l hrun
  have timer : exec (.pollTimerExpiry l) s = .next (s.setLine l (s.line l).pollDue) :=
    congrArg _ (State.whenRunning_eq _ hrun)
  have poll : exec (.pollExchange l) s = .next (s.setLine l (pollNext (s.lineSetup l) (s.line l))) :=
    congrArg _ (State.whenRunning_eq _ hrun)
  refine ⟨fun runs round polled => ?_, fun h => ?_, fun h => ?_, fun i rest free roll quiet none round => ?_,
    fun i m j h onair => ?_, fun i onair => ?_⟩
  · have closed : (s.line l).roundOpen = false := by
      rw [Bool.eq_false_iff, ne_eq, LineRecord.roundOpen_iff]
      rintro (h | ⟨i, b, h⟩)
      · exact h round
      · exact polled i b h
    rw [timer, LineRecord.pollDue, if_pos (by rw [runs, closed]; rfl)]
    rfl
  · have shut : ((s.line l).pollTimer && !(s.line l).roundOpen) = false := by
      rcases h with h | h
      · rw [h, Bool.false_and]
      · rw [(LineRecord.roundOpen_iff _).2 (.inl h), Bool.not_true, Bool.and_false]
    rw [timer, LineRecord.pollDue, shut]
    exact congrArg _ (s.setLine_line_self l)
  · have same : pollNext (s.lineSetup l) (s.line l) = s.line l := by
      unfold pollNext
      split
      · next may =>
        simp only [Bool.and_eq_true, Option.isNone_iff_eq_none, Bool.not_eq_true', List.any_eq_false] at may
        obtain ⟨⟨⟨free, roll⟩, quiet⟩, -⟩ := may
        rcases h with h | h | ⟨j, hj, h⟩ | h
        · exact absurd free h
        · exact absurd roll h
        · exact absurd (by simp [Job.isSending, h]) (quiet j hj)
        · rw [h]
      · rfl
    rw [poll, same, State.setLine_line_self]
  · have calm : (s.line l).jobs.any Job.isSending = false :=
      List.any_eq_false.2 fun j hj => by simp [Job.isSending, quiet j hj]
    rw [poll]
    simp [pollNext, free, roll, calm, none, round]
  · have missed : exec (.pollAnswerWaitExpiry l) s = .next (s.missed l i) := by
      refine congrArg _ ((State.whenRunning_eq _ hrun).trans ?_)
      simp only [State.pollMissed, onair]
    have busy : exec (.busyAnswer l m.position) s =
        .next (s.updLine l fun ln => (ln.updJob i fun j => { j with resends := 0 }).free) := by
      refine congrArg _ ((State.whenRunning_eq _ hrun).trans ?_)
      simp only [State.takeBusy, onair, h.standsAt, beq_self_eq_true, if_true]
    refine ⟨⟨_, busy, ?_⟩, fun unsent => ?_, fun sent => ⟨_, missed, State.missed_failed h sent⟩⟩
    · rw [State.line_updLine_self, State.updLine_eq, LineRecord.free_eq, LineRecord.updJob_eq]
    · rw [missed, State.missed_resent h unsent]
  · refine congrArg _ ((State.whenRunning_eq _ hrun).trans ?_)
    simp only [State.pollMissed, onair, State.updLine_eq, LineRecord.free_eq]

/-! ### The end of a refresh -/

/-- R122: the sign of a job that is done. -/
def SignRecord.refreshed (g : SignRecord) (d : Option Digests) : SignRecord :=
  { g with delivered := d, failures := 0, pendingAbsent := none }

/-- R122, R139: a job that is done leaves the list, its sign's delivered digests are its target, and the sign is settled. -/
theorem State.retireDone_eq (h : HasJob s l i m j) : s.retireDone l j =
    ((s.updLine l fun a => a.dropJob i).updSign i fun g => g.refreshed j.target).updLine l fun a =>
      if ((s.sign i).refreshed j.target).matched then a.leave i else a.join i := by
  obtain ⟨-, hm, rfl, -, -, hf⟩ := id h
  obtain rfl := h.sign_eq
  have gone : (((s.updLine m.line fun a => a.dropJob j.sign).updSign j.sign
      fun g => g.refreshed j.target).line m.line).jobOf j.sign = none := by
    simp [LineRecord.jobOf, LineRecord.dropJob]
  have settled := State.settleSign_jobless (s := (s.updLine m.line fun a => a.dropJob j.sign).updSign j.sign
    fun g => g.refreshed j.target) (i := j.sign) hm gone (by simp [SignRecord.refreshed, hf])
  rw [State.sign_updSign_self] at settled
  exact settled

/-- R139: a poll whose answer is ignored from now on. -/
theorem LineRecord.stalePoll_transmitter (a : LineRecord) (i : SignId) : (a.stalePoll i).transmitter =
    if a.transmitter = some (.poll i true) then some (.poll i false) else a.transmitter := by
  unfold LineRecord.stalePoll
  split
  · next k e =>
    by_cases hk : k = i
    · subst hk
      rw [if_pos rfl, if_pos e]
    · rw [if_neg hk, if_neg (by simpa [e] using hk)]
  · next other => exact (if_neg fun e => other i e).symm

/-- Settles O53. -/
theorem refreshesEnd : Obligations.RefreshesEnd := by
  unfold Obligations.RefreshesEnd
  intro s l i m j h refreshing
  have done (digest : Digest) (onair : (s.line l).transmitter = some (.poll i true)) :
      exec (.doneOrIdle l m.position digest) s = .next
        (if j.target.map Digests.full = some digest then (s.updLine l LineRecord.free).retireDone l j
          else (s.updLine l LineRecord.free).retireFailed l j .mismatch) := by
    refine congrArg _ ((State.whenRunning_eq _ h.running).trans ?_)
    simp only [State.takeDone, onair, h.standsAt, beq_self_eq_true, if_true, State.judge, h.jobOf_eq]
  have freed : HasJob (s.updLine l LineRecord.free) l i m j := h.updLine (LineRecord.free_jobs _)
  have next : nextExchange ((s.line l).jobs.filter fun x => x.sign != i) = nextExchange (s.line l).jobs :=
    nextExchange_filter fun x hx hi => by rw [h.only hx hi, refreshing]; decide
  have stale : HasJob (s.updLine l fun a => a.stalePoll i) l i m j := h.updLine (by rw [LineRecord.stalePoll_eq])
  have hi := h.sign_eq
  refine ⟨fun d digest onair target equal => ⟨_, done digest onair, ?_⟩, fun digest onair other => ⟨_, done digest onair, ?_⟩,
    ⟨(s.updLine l fun a => a.stalePoll i).retireFailed l j .slow, congrArg _ ((State.whenRunning_eq _ h.running).trans ?_), ?_, ?_⟩⟩
  · rw [if_pos (by rw [target, equal]; rfl), State.retireDone_eq freed, target]
    generalize hg : ((s.updLine l LineRecord.free).sign i).refreshed (some d) = g
    have line : ((((s.updLine l LineRecord.free).updLine l fun a => a.dropJob i).updSign i
        fun g => g.refreshed (some d)).updLine l fun a => if g.matched then a.leave i else a.join i).line l =
        if g.matched then ((s.line l).free.dropJob i).leave i else ((s.line l).free.dropJob i).join i := by
      rw [State.line_updLine_self, State.updSign_line, State.line_updLine_self, State.line_updLine_self]
    have record : ((((s.updLine l LineRecord.free).updLine l fun a => a.dropJob i).updSign i
        fun g => g.refreshed (some d)).updLine l fun a => if g.matched then a.leave i else a.join i).sign i = g := by
      rw [State.updLine_sign, State.sign_updSign_self, ← hg]
      rfl
    rw [line, record]
    refine ⟨hg.symm, fun k hk => ?_, fun k hk => ?_, ?_⟩
    · rw [State.updLine_sign, State.sign_updSign_of_ne _ hk, State.updLine_sign, State.updLine_sign]
    · rw [State.line_updLine_of_ne _ hk, State.updSign_line, State.line_updLine_of_ne _ hk, State.line_updLine_of_ne _ hk]
    have jobs : ((s.line l).free.dropJob i).jobs = (s.line l).jobs.filter fun x => x.sign != i := by
      rw [LineRecord.free_eq]
      rfl
    have dirty : ((s.line l).free.dropJob i).dirty = (s.line l).dirty := by
      rw [LineRecord.free_eq]
      rfl
    have budget : ((s.line l).free.dropJob i).budget = (s.line l).budget := by
      rw [LineRecord.free_eq]
      rfl
    have onair : ((s.line l).free.dropJob i).transmitter = nextExchange (s.line l).jobs := by
      rw [LineRecord.free_eq]
      rfl
    generalize ((s.line l).free.dropJob i) = a at jobs dirty budget onair
    cases g.matched
    · refine ⟨(a.join_jobs i).trans jobs, (a.join_budget i).trans budget, ?_, nofun, fun _ => a.mem_join_self i,
        fun k hk => ?_, rfl⟩
      · simp only [Bool.false_eq_true, if_false, LineRecord.join_jobs, jobs, next]
        exact (by unfold LineRecord.join; split <;> rfl : (a.join i).transmitter = a.transmitter).trans onair
      · simp [LineRecord.mem_join, dirty, hk]
    · refine ⟨jobs, budget, ?_, fun _ => ?_, nofun, fun k hk => ?_, rfl⟩
      · exact onair.trans (next.symm.trans (congrArg _ jobs.symm))
      · simp [LineRecord.mem_leave]
      · simp [LineRecord.mem_leave, dirty, hk]
  · rw [if_neg other]
    have failed := State.retireFailed_failed freed .mismatch
    refine ⟨.of_updLine (fun a => by rw [LineRecord.free_eq]) failed, ?_⟩
    rw [failed.jobs, State.retireFailed_line freed, State.line_updLine_self, LineRecord.free_eq, hi]
    exact next.symm
  · simp [State.slow, h.jobOf_eq, Job.isRefreshing, refreshing]
  · exact .of_updLine (fun a => a.stalePoll_eq i) (State.retireFailed_failed stale .slow)
  · rw [State.retireFailed_line stale, State.line_updLine_self]
    exact (s.line l).stalePoll_transmitter i

end Sys2Proof.Machine
end

section
/-! PROOFS. Roll calls: their beginning, their moves, and the sign that a position's answer or silence finds (R134, R140 to
R142, R156, R157). -/

namespace Sys2Proof.Machine

variable {s : State} {l : LineId} {i : SignId} {m : Mapping}

/-! ### The moves of a roll call -/

/-- R174: a source raised on the SETUP ports changes the ports alone. -/
theorem State.raiseSetup_eq (s : State) (src : Source) : s.raiseSetup src = { s with ports := (s.raiseSetup src).ports } := by
  refine foldl_keeps (fun t => t = { s with ports := t.ports }) _ (fun t p h => ?_) allPorts s rfl
  split
  · exact congrArg (fun w : State => { w with ports := (t.raise p src).ports }) h
  · exact h

/-- R140, R142: what follows a position touches the lines and the ports alone. -/
theorem State.nextRoll_eq (s : State) (l : LineId) (pos : Position) (found : List Position) : s.nextRoll l pos found =
    { s with lines := (s.nextRoll l pos found).lines, ports := (s.nextRoll l pos found).ports } := by
  unfold State.nextRoll State.completeRoll
  split
  · rfl
  · dsimp only
    split
    · rfl
    · rw [State.raiseSetup_eq]
      rfl

/-- R141: a position at which no sign is mapped. -/
theorem State.signAt_none {pos : Position} (h : ∀ i m, s.mapping i = some m → m.line = l → m.position ≠ pos) :
    s.signAt l pos = none := by
  refine List.find?_eq_none.2 fun i _ => ?_
  cases hm : s.mapping i with
  | none => simp
  | some m => simpa using h i m hm

/-- R141: a position at which one sign is mapped. -/
theorem State.signAt_some {pos : Position} (hm : s.mapping i = some m) (hl : m.line = l) (hp : m.position = pos)
    (only : ∀ j n, s.mapping j = some n → n.line = l → n.position = pos → j = i) : s.signAt l pos = some i := by
  cases e : s.signAt l pos with
  | none => exact absurd (List.find?_eq_none.1 e i (by simp [allSigns])) (by simp [hm, hl, hp])
  | some j =>
    have stands := List.find?_some e
    cases hn : s.mapping j with
    | none => simp [hn] at stands
    | some n =>
      simp only [hn, Bool.and_eq_true, beq_iff_eq] at stands
      rw [only j n hn stands.1 stands.2]

/-! ### A sign found PRESENT -/

/-- R141, R156, R157: the record of a sign whose position answered. -/
def SignRecord.answered (g : SignRecord) (cls : SignClass) : SignRecord :=
  { g with
    link := .present, reported := some cls, pendingAbsent := none
    delivered := if g.link = .present then g.delivered else none
    fault := if g.link ≠ .present ∧ g.fault = .retryWait ∧ g.retry = .presence then .none else g.fault
    retry := if g.link ≠ .present ∧ g.fault = .retryWait ∧ g.retry = .presence then .stopped else g.retry }

/-- A sign's record is written, and the ports change; nothing else does. -/
structure State.Written (s x : State) (i : SignId) (g : SignRecord) : Prop where
  frame : x = { s with signs := x.signs, ports := x.ports }
  own : x.sign i = g
  others : ∀ j, j ≠ i → x.sign j = s.sign j

theorem State.Written.updSign {x : State} {g : SignRecord} (h : s.Written x i g) (f : SignRecord → SignRecord) :
    s.Written (x.updSign i f) i (f g) := by
  refine ⟨congrArg (fun w : State => { w with signs := (x.updSign i f).signs }) h.frame, ?_, fun j hj => ?_⟩
  · rw [State.sign_updSign_self, h.own]
  · rw [State.sign_updSign_of_ne _ hj, h.others j hj]

/-- R141: a sign that answers is stored as PRESENT with its class, a first wrong class raises LINE, and a sign that was not
PRESENT is settled. -/
theorem State.foundPresent_found (s : State) (i : SignId) (m : Mapping) (cls : SignClass) :
    ∃ x, s.Written x i ((s.sign i).answered cls) ∧
      (∀ q, x.port q = if (s.sign i).reported ≠ some cls ∧ cls ≠ m.cls ∧ (s.portSetup q).roles.setup = true then
        { s.port q with raised := (s.port q).raised ||| Source.flag .line } else s.port q) ∧
      s.foundPresent i m cls = if (s.sign i).link = .present then x else x.settleFound i := by
  let s1 := s.setSign i { s.sign i with link := .present, reported := some cls, pendingAbsent := none }
  have first : s.Written s1 i { s.sign i with link := .present, reported := some cls, pendingAbsent := none } :=
    ⟨rfl, State.sign_setSign_self s i _, fun j hj => State.sign_setSign_of_ne s hj _⟩
  obtain ⟨s2, hs2⟩ : ∃ s2, (if (s.sign i).reported ≠ some cls ∧ cls ≠ m.cls then s1.raiseSetup .line else s1) = s2 := ⟨_, rfl⟩
  have raised : s.Written s2 i { s.sign i with link := .present, reported := some cls, pendingAbsent := none } ∧
      ∀ q, s2.port q = if (s.sign i).reported ≠ some cls ∧ cls ≠ m.cls ∧ (s.portSetup q).roles.setup = true then
        { s.port q with raised := (s.port q).raised ||| Source.flag .line } else s.port q := by
    subst hs2
    split
    · next wrong =>
      refine ⟨⟨?_, ?_, fun j hj => ?_⟩, fun q => ?_⟩
      · rw [State.raiseSetup_eq] <;> rfl
      · rw [State.raiseSetup_eq]; exact first.own
      · rw [State.raiseSetup_eq]; exact first.others j hj
      · rw [State.raiseSetup_port]
        simp only [wrong, not_false_eq_true, ne_eq, true_and]
        rfl
    · next right => exact ⟨first, fun q => (if_neg fun h => right ⟨h.1, h.2.1⟩).symm⟩
  obtain ⟨stored, ports⟩ := raised
  have found : s.foundPresent i m cls = if (s.sign i).link = .present then s2 else
      (if (s.sign i).fault = .retryWait ∧ (s.sign i).retry = .presence then
        (s2.updSign i fun g => { g with delivered := none }).updSign i fun g => { g with fault := .none, retry := .stopped }
      else s2.updSign i fun g => { g with delivered := none }).settleFound i := by
    rw [← hs2]
    rfl
  by_cases present : (s.sign i).link = .present
  · refine ⟨s2, ?_, ports, ?_⟩
    · simpa [SignRecord.answered, present] using stored
    · rw [found, if_pos present, if_pos present]
  · by_cases waits : (s.sign i).fault = .retryWait ∧ (s.sign i).retry = .presence
    · refine ⟨_, ?_, ?_, by rw [found, if_neg present, if_neg present, if_pos waits]⟩
      · simpa [SignRecord.answered, present, waits] using (stored.updSign _).updSign _
      · exact ports
    · refine ⟨_, ?_, ?_, by rw [found, if_neg present, if_neg present, if_neg waits]⟩
      · simpa [SignRecord.answered, present, waits] using stored.updSign fun g => { g with delivered := none }
      · exact ports

/-- R141: settling a sign found PRESENT touches the lines alone, and keeps them still. -/
theorem State.settleFound_still (s : State) (i : SignId) :
    s.settleFound i = { s with lines := (s.settleFound i).lines } ∧ AllStill s (s.settleFound i) := by
  have settle : s.settleSign i = { s with lines := (s.settleSign i).lines } := by
    obtain ⟨ls, h⟩ := s.settleSign_eq i
    rw [h]
  unfold State.settleFound
  split
  · split
    · exact ⟨settle, s.settleSign_still i⟩
    · exact ⟨rfl, .refl s⟩
  · exact ⟨settle, s.settleSign_still i⟩

/-! ### A sign that is silent -/

/-- R153, R156: a fault of a sign whose fault state is not NONE and which has no job. -/
structure State.FaultedOut (s v : State) (l : LineId) (i : SignId) (k : FaultKind) (o : Origin) : Prop where
  record : v.sign i = (s.sign i).faulted k (s.setup.fault.modeOf k) s.setup.fault.retryTime
  others : ∀ j, j ≠ i → v.sign j = s.sign j
  attention : ∀ q, v.port q = if (s.sign i).reports (s.setup.fault.modeOf k) && s.faultPort o q then
    (s.port q).faultTaken i k else s.port q
  out : s.setup.fault.modeOf k = .latch ∨ s.setup.fault.modeOf k = .retry →
    v.lines = (s.updLine l fun ln => ln.leave i).lines
  kept : s.setup.fault.modeOf k = .report ∨ s.setup.fault.modeOf k = .ignore → v.lines = s.lines

theorem State.applyFault_out (hm : s.mapping i = some m) (hj : (s.line m.line).jobOf i = none)
    (hf : (s.sign i).fault ≠ .none) (k : FaultKind) (o : Origin) : s.FaultedOut (s.applyFault i k o) m.line i k o := by
  have others (f : SignRecord → SignRecord) (t : State) (j : SignId) (hj : j ≠ i) : (t.updSign i f).sign j = t.sign j :=
    t.sign_updSign_of_ne hj f
  have cap : Config.failureCap = 4 := rfl
  have leave (f : SignRecord → SignRecord) : ((s.updSign i fun g => g.countFault k).updSign i f).leaveQueue i =
      ((s.updSign i fun g => g.countFault k).updSign i f).updLine m.line fun ln => ln.leave i := by
    simp only [State.leaveQueue, State.updSign_mapping, hm]
  have latch (hr : (s.sign i).faulted k (s.setup.fault.modeOf k) s.setup.fault.retryTime =
        { (s.sign i).countFault k with fault := .latched, retry := .stopped })
      (ha : (s.sign i).reports (s.setup.fault.modeOf k) = true)
      (mode : s.setup.fault.modeOf k = .latch ∨ s.setup.fault.modeOf k = .retry) :
      s.FaultedOut (((s.updSign i fun g => g.countFault k).latchSign i).raiseFault o i k) m.line i k o := by
    rw [State.latchSign, leave]
    refine ⟨?_, fun j hj => ?_, fun q => ?_, fun _ => ?_, fun other => ?_⟩
    · rw [hr]; simp
    · simp [others, hj]
    · rw [State.raiseFault_port, ha]; rfl
    · rw [State.raiseFault_eq]; rfl
    · rcases mode with mode | mode <;> simp [mode] at other
  have settled : (s.updSign i fun g => g.countFault k).settleSign i = s.updSign i fun g => g.countFault k :=
    State.settleSign_faulty hm hj (by simpa [SignRecord.countFault] using hf)
  have calm (hr : (s.sign i).faulted k (s.setup.fault.modeOf k) s.setup.fault.retryTime = (s.sign i).countFault k)
      (v : State) (hv : v = { (s.updSign i fun g => g.countFault k) with ports := v.ports })
      (ports : ∀ q, v.port q = if (s.sign i).reports (s.setup.fault.modeOf k) && s.faultPort o q then
        (s.port q).faultTaken i k else s.port q)
      (mode : s.setup.fault.modeOf k = .report ∨ s.setup.fault.modeOf k = .ignore) : s.FaultedOut v m.line i k o := by
    have signs : ∀ j, v.sign j = (s.updSign i fun g => g.countFault k).sign j := fun j => by rw [hv]; rfl
    refine ⟨?_, fun j hj => ?_, ports, fun other => ?_, fun _ => by rw [hv]; rfl⟩
    · rw [signs, hr, State.sign_updSign_self]
    · rw [signs, others _ _ j hj]
    · rcases mode with mode | mode <;> simp [mode] at other
  unfold State.applyFault
  cases mode : s.setup.fault.modeOf k with
  | latch => exact latch (by rw [mode]; rfl) (by rw [mode]; rfl) (.inl mode)
  | retry =>
    have failures : ((s.updSign i fun g => g.countFault k).sign i).failures = min 4 ((s.sign i).failures + 1) := by
      simp [SignRecord.countFault, cap]
    dsimp only
    rw [failures, cap]
    by_cases full : min 4 ((s.sign i).failures + 1) = 4
    · rw [if_pos full]
      refine latch ?_ ?_ (.inr mode)
      · rw [mode]
        simp [SignRecord.faulted, full, SignRecord.countFault, cap]
      · rw [mode]
        simp only [SignRecord.reports, decide_eq_true_eq]
        omega
    · rw [if_neg full, State.waitSign, leave]
      refine ⟨?_, fun j hj => ?_, fun q => ?_, fun _ => rfl, fun other => ?_⟩
      · rw [mode]
        simp [SignRecord.faulted, full, SignRecord.countFault, cap]
      · simp [others, hj]
      · have unreported : (s.sign i).reports .retry = false := by
          simp only [SignRecord.reports, decide_eq_false_iff_not]
          omega
        rw [mode, unreported]
        rfl
      · simp [mode] at other
  | report =>
    dsimp only
    rw [settled]
    refine calm (by rw [mode]; rfl) _ (State.raiseFault_eq _ o i k) (fun q => ?_) (.inl mode)
    rw [State.raiseFault_port, mode]
    rfl
  | ignore =>
    dsimp only
    rw [settled]
    refine calm (by rw [mode]; rfl) _ rfl (fun q => ?_) (.inr mode)
    rw [mode]
    rfl

/-- R141, R125, R157: what silence does to a sign that was not ABSENT, by its job. -/
theorem State.foundSilent_eq (m : Mapping) (link : (s.sign i).link ≠ .absent) : s.foundSilent i m =
    match (s.line m.line).jobOf i with
    | none => (s.setSign i { s.sign i with link := .absent }).applyAbsent i (s.sign i).origin
    | some j =>
      if j.isReady then ((s.setSign i { s.sign i with link := .absent }).updLine m.line fun ln => ln.dropJob i).applyAbsent i
        (s.sign i).origin
      else s.setSign i { s.sign i with link := .absent, pendingAbsent := some (s.sign i).origin } := by
  unfold State.foundSilent
  rw [if_neg link]
  dsimp only
  cases (s.line m.line).jobOf i with
  | none => rfl
  | some j =>
    dsimp only
    split
    · rfl
    · rw [State.updSign, State.sign_setSign_self, State.setSign_setSign]

/-- R141: silence touches the signs, the lines and the ports alone. -/
theorem State.foundSilent_frame (s : State) (i : SignId) (m : Mapping) : s.foundSilent i m = { s with
    signs := (s.foundSilent i m).signs, lines := (s.foundSilent i m).lines, ports := (s.foundSilent i m).ports } := by
  have absent (t : State) (o : Origin) : t.applyAbsent i o = { t with
      signs := (t.applyAbsent i o).signs, lines := (t.applyAbsent i o).lines, ports := (t.applyAbsent i o).ports } := by
    unfold State.applyAbsent
    split
    · rfl
    · exact t.applyFault_eq i .absent o
  by_cases link : (s.sign i).link = .absent
  · unfold State.foundSilent
    rw [if_pos link]
  · rw [State.foundSilent_eq m link]
    cases (s.line m.line).jobOf i with
    | none => rw [absent] <;> rfl
    | some j =>
      dsimp only
      split
      · rw [absent] <;> rfl
      · rfl

/-- R141, R156: silence of a sign without a fault, with no job in flight. -/
theorem State.foundSilent_faulted (hm : s.mapping i = some m) (link : (s.sign i).link ≠ .absent)
    (hf : (s.sign i).fault = .none) (ready : ∀ j, (s.line m.line).jobOf i = some j → j.state = .ready) :
    Faulted s (s.foundSilent i m) m.line i { s.sign i with link := .absent } .absent (s.sign i).origin ∧
      ((s.foundSilent i m).line m.line).jobs = (s.line m.line).jobs.filter (fun j => j.sign != i) := by
  rw [State.foundSilent_eq m link]
  generalize hs1 : s.setSign i { s.sign i with link := .absent } = s1
  have own : s1.sign i = { s.sign i with link := .absent } := by rw [← hs1, State.sign_setSign_self]
  have others : ∀ j, j ≠ i → s1.sign j = s.sign j := fun j hj => by rw [← hs1, State.sign_setSign_of_ne s hj]
  have lines : ∀ k, s1.line k = s.line k := fun k => by rw [← hs1]; rfl
  have mapped : s1.mapping i = some m := by rw [← hs1]; exact hm
  have back {v : State} (h : Faulted s1 v m.line i { s.sign i with link := .absent } .absent (s.sign i).origin) :
      Faulted s v m.line i { s.sign i with link := .absent } .absent (s.sign i).origin := by
    obtain ⟨record, signs, out, queued, rest, attention, other⟩ := h
    refine ⟨?_, fun j hj => (signs j hj).trans (others j hj), out, queued, fun j hj => by rw [rest j hj, lines], ?_,
      fun k hk => (other k hk).trans (lines k)⟩
    · rw [← hs1] at record
      exact record
    · rw [← hs1] at attention
      exact attention
  have unlatched (t : State) (ht : t.sign i = s1.sign i) (o : Origin) : t.applyAbsent i o = t.applyFault i .absent o := by
    unfold State.applyAbsent
    rw [ht, own]
    simp [hf]
  have calm : (s1.sign i).fault = .none := by rw [own]; exact hf
  cases hj : (s.line m.line).jobOf i with
  | none =>
    have jobless : (s1.line m.line).jobOf i = none := by rw [lines]; exact hj
    dsimp only
    rw [unlatched s1 rfl]
    refine ⟨back (own ▸ State.applyFault_faulted mapped rfl jobless calm .absent (s.sign i).origin), ?_⟩
    rw [State.applyFault_line mapped jobless, lines]
    have absent : ∀ x ∈ (s.line m.line).jobs, x.sign ≠ i := by simpa [LineRecord.jobOf] using hj
    exact (List.filter_eq_self.2 fun x hx => by simpa using absent x hx).symm
  | some j =>
    dsimp only
    rw [if_pos (by simp [Job.isReady, ready j hj]), unlatched (s1.updLine m.line fun ln => ln.dropJob i) rfl]
    have jobless : ((s1.updLine m.line fun ln => ln.dropJob i).line m.line).jobOf i = none := by
      simp [LineRecord.jobOf, LineRecord.dropJob]
    have dropped := State.applyFault_faulted (s := s1.updLine m.line fun ln => ln.dropJob i) mapped rfl jobless calm .absent
      (s.sign i).origin
    rw [State.updLine_sign, own] at dropped
    refine ⟨back (.of_drop rfl dropped), ?_⟩
    rw [State.applyFault_line (s := s1.updLine m.line fun ln => ln.dropJob i) mapped jobless, State.line_updLine_self, lines]
    rfl

/-! ### The positions of a roll call -/

/-- Settles O54. -/
theorem rollCallsFindSigns : Obligations.RollCallsFindSigns := by
  unfold Obligations.RollCallsFindSigns
  intro s l hrun
  refine ⟨fun mode settle => ?_, fun mode interval roll => ?_, fun rc mode roll free quiet => ?_, fun rc pos roll onair => ?_⟩
  · refine congrArg _ ((State.whenRunning_eq _ hrun).trans ?_)
    rw [State.updLine_eq, LineRecord.settled, if_pos (by simp [mode, settle])]
    rfl
  · refine congrArg _ ((State.whenRunning_eq _ hrun).trans ?_)
    rw [State.updLine_eq, LineRecord.intervalDue, if_pos (by simp [mode, Option.isSome_iff_ne_none, interval]),
      if_pos (by simp [roll])]
    rfl
  · have calm : (s.line l).jobs.any Job.isSending = false :=
      List.any_eq_false.2 fun j hj => by simp [Job.isSending, quiet j hj]
    refine congrArg _ ((State.whenRunning_eq _ hrun).trans ?_)
    simp [State.updLine_eq, LineRecord.rollStart, roll, mode, free, calm]
  have missed : exec (.rollAnswerWaitExpiry l) s = .next (if rc.resent then s.rollSilent l pos rc.found
      else s.updLine l fun ln => { ln with roll := some { rc with resent := true } }) := by
    refine congrArg _ ((State.whenRunning_eq _ hrun).trans ?_)
    simp only [State.rollMissed, onair, roll]
  have answer (other : Position) (cls : SignClass) : exec (.classAnswer l other cls) s =
      .next (if pos = other then s.rollAnswered l other cls rc.found else s) := by
    refine congrArg _ ((State.whenRunning_eq _ hrun).trans ?_)
    simp only [State.takeClass, onair, roll]
  have answered (cls : SignClass) : exec (.classAnswer l pos cls) s = .next (s.rollAnswered l pos cls rc.found) := by
    rw [answer, if_pos rfl]
  have silent (resent : rc.resent = true) : exec (.rollAnswerWaitExpiry l) s = .next (s.rollSilent l pos rc.found) := by
    rw [missed, if_pos resent]
  refine ⟨fun fresh => ?_, fun cls other ne => ?_, fun empty => ?_, fun i m hm hl hp only => ?_⟩
  · rw [missed, fresh]
    rfl
  · rw [answer, if_neg ne.symm]
  · have none := State.signAt_none empty
    refine ⟨fun cls => ⟨_, answered cls, ?_⟩, fun resent => ⟨_, silent resent, ?_⟩⟩
    · simp only [State.rollAnswered, none]
      exact ⟨s.nextRoll_moved l pos _, s.nextRoll_eq l pos _⟩
    · simp only [State.rollSilent, none]
      exact ⟨s.nextRoll_moved l pos _, s.nextRoll_eq l pos _⟩
  have found := State.signAt_some hm hl hp only
  subst hl
  refine ⟨fun cls => ⟨s.foundPresent i m cls, _, answered cls, ?_⟩, fun resent =>
    ⟨s.foundSilent i m, _, silent resent, ?_⟩⟩
  · simp only [State.rollAnswered, found, hm]
    refine ⟨State.nextRoll_moved _ _ _ _, State.nextRoll_eq _ _ _ _, ?_⟩
    obtain ⟨x, stored, ports, present⟩ := s.foundPresent_found i m cls
    obtain ⟨settled, still⟩ := x.settleFound_still i
    have xlines : ∀ k, x.line k = s.line k := fun k => by rw [stored.frame]; rfl
    rw [present]
    by_cases was : (s.sign i).link = .present
    · rw [if_pos was]
      exact ⟨congrArg (fun w : State => { w with lines := x.lines }) stored.frame, stored.own, stored.others,
        fun k => xlines k ▸ .refl _, fun _ => by rw [stored.frame], fun other => absurd was other, ports⟩
    · rw [if_neg was]
      refine ⟨?_, ?_, fun j hj => ?_, fun k => ?_, fun other => absurd other was, fun _ jobless calm => ?_, fun q => ?_⟩
      · have signs : (x.settleFound i).signs = x.signs := by rw [settled]
        have same : (x.settleFound i).ports = x.ports := by rw [settled]
        rw [signs, same]
        exact settled.trans (congrArg (fun w : State => { w with lines := (x.settleFound i).lines }) stored.frame)
      · rw [settled]; exact stored.own
      · rw [settled]; exact stored.others j hj
      · exact xlines k ▸ still.lines k
      · have own : x.sign i = (s.sign i).answered cls := stored.own
        have mapped : x.mapping i = some m := by rw [stored.frame]; exact hm
        have free : (x.line m.line).jobOf i = none := by rw [xlines]; exact jobless
        have settle : x.settleFound i = x.settleSign i := by simp only [State.settleFound, State.jobOf, mapped, free]
        have clear : (x.sign i).fault = .none := by rw [settled] at calm; exact calm
        have dirty : (x.sign i).matched = false := by simp [own, SignRecord.answered, SignRecord.matched, was]
        rw [settle, State.settleSign_jobless mapped free clear, dirty, State.line_updLine_self]
        exact LineRecord.mem_join_self _ i
      · rw [settled]; exact ports q
  · simp only [State.rollSilent, found, hm]
    refine ⟨State.nextRoll_moved _ _ _ _, State.nextRoll_eq _ _ _ _, s.foundSilent_frame i m, fun absent => ?_,
      fun link calm _ => ⟨fun ready => State.foundSilent_faulted hm link calm ready, fun j hj flying => ?_⟩,
      fun link latched jobless => ?_, fun link waits jobless => ?_⟩
    · exact if_pos absent
    · rw [State.foundSilent_eq m link, hj]
      dsimp only
      rw [if_neg (by simpa [Job.isReady] using flying)]
      exact ⟨State.sign_setSign_self s i _, rfl, rfl, fun k hk => State.sign_setSign_of_ne s hk _⟩
    · rw [State.foundSilent_eq m link, jobless]
      dsimp only
      rw [State.applyAbsent, State.sign_setSign_self, if_pos latched, State.updSign, State.sign_setSign_self,
        State.setSign_setSign]
      exact ⟨by simp only [State.sign_setSign_self], rfl, rfl, fun k hk => State.sign_setSign_of_ne s hk _⟩
    · rw [State.foundSilent_eq m link, jobless]
      dsimp only
      rw [State.applyAbsent, State.sign_setSign_self, if_neg (by simp [waits])]
      have out := State.applyFault_out (s := s.setSign i { s.sign i with link := .absent }) hm jobless
        (by rw [State.sign_setSign_self]; simp [waits]) .absent (s.sign i).origin
      obtain ⟨record, others, attention, out, kept⟩ := out
      rw [State.sign_setSign_self] at record attention
      exact ⟨record, fun k hk => (others k hk).trans (State.sign_setSign_of_ne s hk _), attention, out, kept⟩

end Sys2Proof.Machine
end

section
/-! PROOFS. Trips, holds and the clearing of faults (R124, R143 to R145, R155, R159 to R161). -/

namespace Sys2Proof.Machine

variable {s : State} {l : LineId} {i : SignId}

/-! ### An answer with a change of one line -/

/-- R168: an OK whose only effect is on a line. -/
theorem State.request_onLine {h : Header} {need : Need} (a : Accepted s h need) {code : Nat} {cast : State → Option State}
    {serve : State → Served} {x : LineRecord} {r : Result} (hserve : serve (s.take h.port) = okWith ((s.take h.port).setLine l x) r) :
    s.request h code need cast serve = (s.answeredWith h code .ok r).setLine l x := by
  rw [State.request_accepted a, hserve]
  exact congrArg (fun t : State => t.setLine l x) (s.answer_unchanged h code (okWith (s.take h.port) r) rfl rfl)

/-- R168: an OK whose only effect is on a sign and a line. -/
theorem State.request_onSign {h : Header} {need : Need} (a : Accepted s h need) {code : Nat} {cast : State → Option State}
    {serve : State → Served} {g : SignRecord} {x : LineRecord} {r : Result}
    (hserve : serve (s.take h.port) = okWith (((s.take h.port).setSign i g).setLine l x) r) :
    s.request h code need cast serve = ((s.answeredWith h code .ok r).setSign i g).setLine l x := by
  rw [State.request_accepted a, hserve]
  exact congrArg (fun t : State => (t.setSign i g).setLine l x)
    (s.answer_unchanged h code (okWith (s.take h.port) r) rfl rfl)

/-! ### Sign faults -/

theorem LineRecord.join_eq (a : LineRecord) (i : SignId) :
    a.join i = { a with dirty := if i ∈ a.dirty then a.dirty else a.dirty ++ [i] } := by
  unfold LineRecord.join
  by_cases h : i ∈ a.dirty <;> simp [h]

/-- R160: a sign with no fault, or none at all, is left as it is. -/
theorem State.clearSign_idle (h : s.mapping i = none ∨ (s.sign i).fault = .none) : s.clearSign i = s := by
  unfold State.clearSign
  split
  · rfl
  · next m hm => exact if_pos (h.resolve_left (by simp [hm]))

/-- R160: a fault is cleared, and its sign queued. -/
theorem State.clearSign_faulty {m : Mapping} (hm : s.mapping i = some m) (hf : (s.sign i).fault ≠ .none) : s.clearSign i =
    (s.setSign i { s.sign i with fault := .none, retry := .stopped, failures := 0, delivered := none }).setLine m.line
      { s.line m.line with dirty := if i ∈ (s.line m.line).dirty then (s.line m.line).dirty
                                    else (s.line m.line).dirty ++ [i] } := by
  unfold State.clearSign
  rw [hm]
  dsimp only
  rw [if_neg hf, State.updLine_eq, LineRecord.join_eq]
  rfl

/-- R155: the end of a retry wait of a sign without a job. -/
theorem State.endRetry_eq {m : Mapping} (hm : s.mapping i = some m) (hj : (s.line m.line).jobOf i = none) : s.endRetry i =
    (s.setSign i { s.sign i with fault := .none, retry := .stopped }).setLine m.line { s.line m.line with
      dirty := if (s.sign i).matched = true then (s.line m.line).dirty.filter (fun k => k != i)
        else if i ∈ (s.line m.line).dirty then (s.line m.line).dirty else (s.line m.line).dirty ++ [i] } := by
  have settled := State.settleSign_jobless (s := s.updSign i fun g => { g with fault := .none, retry := .stopped }) hm hj
    (by rw [State.sign_updSign_self])
  have matched : ((s.updSign i fun g => { g with fault := .none, retry := .stopped }).sign i).matched = (s.sign i).matched := by
    rw [State.sign_updSign_self]
    rfl
  rw [State.endRetry, settled, matched]
  cases (s.sign i).matched
  · simp only [Bool.false_eq_true, if_false, State.updLine_eq, LineRecord.join_eq]
    rfl
  · rfl

/-- Settles O58. -/
theorem signFaultsEnd : Obligations.SignFaultsEnd := by
  unfold Obligations.SignFaultsEnd
  refine ⟨fun s h a => ⟨fun n hn => State.exec_refused a ?_, fun i => ⟨fun idle => ?_, fun m hm hf => ?_⟩⟩,
    fun s i m hrun hm hj => ⟨fun last => ?_, fun other => ?_⟩⟩
  · rw [serveClearSign, sign?_of_le hn]
  · refine congrArg _ (State.request_okWith a ?_)
    rw [serveClearSign, sign?_val]
    exact congrArg (okWith · .empty) (State.clearSign_idle (by simpa using idle))
  · refine congrArg _ (State.request_onSign a ?_)
    rw [serveClearSign, sign?_val]
    refine congrArg (okWith · .empty) ?_
    have cleared := State.clearSign_faulty (s := s.take h.port) (i := i) (m := m) (by simpa using hm) (by simpa using hf)
    simpa using cleared
  · refine congrArg _ ((State.whenRunning_eq _ hrun).trans ?_)
    rw [if_pos last, State.endRetry_eq hm hj]
  · refine congrArg _ ((State.whenRunning_eq _ hrun).trans (if_neg ?_))
    rcases other with h | h <;> simp [h]

/-! ### Holds -/

theorem State.restoreLine_held (h : (s.line l).hold ≠ .none) : s.restoreLine l = s.setLine l (restored (s.line l)) :=
  if_neg h

theorem State.restoreLine_free (h : (s.line l).hold = .none) : s.restoreLine l = s := if_pos h

/-! ### Trips -/

/-- R124: the failure of jobs by a trip touches the lines and the signs alone, and no line's trip count. -/
theorem retireTrip_list_frame (l : LineId) (is : List SignId) (s : State) :
    (is.foldl (fun s i => s.retireTrip l i) s) = { s with
      signs := (is.foldl (fun s i => s.retireTrip l i) s).signs, lines := (is.foldl (fun s i => s.retireTrip l i) s).lines } ∧
    ((is.foldl (fun s i => s.retireTrip l i) s).line l).trips = (s.line l).trips := by
  refine foldl_keeps (fun t => t = { s with signs := t.signs, lines := t.lines } ∧ (t.line l).trips = (s.line l).trips) _
    (fun t i h => ⟨?_, ?_⟩) is s ⟨rfl, rfl⟩
  · exact congrArg (fun w : State => { w with signs := (t.retireTrip l i).signs, lines := (t.retireTrip l i).lines }) h.1
  · rw [State.retireTrip, State.updSign_line, State.line_updLine_self, LineRecord.join_eq]
    exact h.2

theorem State.tripLine_frame (s : State) (l : LineId) :
    s.tripLine l = { s with signs := (s.tripLine l).signs, lines := (s.tripLine l).lines } :=
  congrArg (fun w : State => { w with lines := (s.tripLine l).lines }) (retireTrip_list_frame l _ s).1

theorem State.tripLine_trips (s : State) (l : LineId) : ((s.tripLine l).line l).trips = (s.line l).trips := by
  rw [State.tripLine, State.line_updLine_self]
  exact (retireTrip_list_frame l _ s).2

/-- R143: a trip touches no other line. -/
theorem State.tripLine_other (s : State) {l k : LineId} (hk : k ≠ l) : (s.tripLine l).line k = s.line k := by
  rw [State.tripLine, State.line_updLine_of_ne _ hk]
  exact (retireTrip_list l _ s).2.1 k hk

/-- R124: a trip leaves a sign's record, or makes its delivered digests unknown. -/
theorem State.tripLine_sign (s : State) (l : LineId) (i : SignId) : (s.tripLine l).sign i = s.sign i ∨
    (s.tripLine l).sign i = { s.sign i with delivered := none, pendingAbsent := none } := by
  obtain ⟨-, -, -, -, -, -, sign⟩ := retireTrip_list l (((s.line l).jobs.filter Job.inFlight).map Job.sign) s
  have here := sign i
  rw [State.tripLine, State.updLine_sign]
  split at here
  · exact .inr here
  · exact .inl here

theorem partner_ne (l : LineId) : partner l ≠ l := by
  revert l
  decide

theorem LineRecord.powered_iff (a : LineRecord) : a.powered = true ↔ a.mode = .waking ∨ a.mode = .active := by
  simp [LineRecord.powered]

/-- R143: what follows a trip adds to the line's trips, and may trip its signs again. -/
theorem TrippedFrom.then {a t : State} {n : Nat} (h : TrippedFrom s a l) (line : t.line l = { a.line l with trips := n })
    (sign : ∀ i, t.sign i = a.sign i ∨ t.sign i = { a.sign i with delivered := none, pendingAbsent := none }) :
    TrippedFrom s t l := by
  obtain ⟨mode, still, hold, jobs, budget, extras, queue, signs⟩ := h
  refine ⟨by rw [line]; exact mode, by rw [line]; exact still, by rw [line]; exact hold, by rw [line]; exact jobs,
    by rw [line]; exact budget, by rw [line]; exact extras, by rw [line]; exact queue, fun j hj hstate => ?_⟩
  rcases sign j.sign with e | e <;> rw [e, signs j hj hstate]

/-- R144: what comes before a trip of another line. -/
theorem TrippedFrom.after {b t : State} (h : TrippedFrom b t l) (line : b.line l = s.line l) (setup : b.setup = s.setup)
    (sign : ∀ i, b.sign i = s.sign i ∨ b.sign i = { s.sign i with delivered := none, pendingAbsent := none }) :
    TrippedFrom s t l := by
  obtain ⟨mode, still, hold, jobs, budget, extras, queue, signs⟩ := h
  rw [line] at jobs budget extras queue signs
  rw [setup] at hold
  refine ⟨mode, still, hold, jobs, budget, extras, queue, fun j hj hstate => ?_⟩
  rw [signs j hj hstate]
  rcases sign j.sign with e | e <;> rw [e]

/-- R147: the check of the quiet state touches it alone, and in SETTLING alone. -/
theorem State.quietSettled_eq (s : State) :
    s.quietSettled = { s with quiet := s.quietSettled.quiet } ∧ (s.quiet ≠ .settling → s.quietSettled.quiet = s.quiet) := by
  unfold State.quietSettled
  split
  · next h => exact ⟨rfl, fun other => absurd h.1 other⟩
  · exact ⟨rfl, fun _ => rfl⟩

/-- R143: a line has tripped, its trips are counted, and LINE is raised. -/
structure State.TripRaised (s b : State) (l : LineId) : Prop where
  frame : b = { s with signs := b.signs, lines := b.lines, ports := b.ports }
  tripped : TrippedFrom s b l
  trips : (b.line l).trips = min 255 ((s.line l).trips + 1)
  others : ∀ k, k ≠ l → b.line k = s.line k
  sign : ∀ i, b.sign i = s.sign i ∨ b.sign i = { s.sign i with delivered := none, pendingAbsent := none }
  ports : ∀ q, b.port q = if (s.portSetup q).roles.setup = true then
    { s.port q with raised := (s.port q).raised ||| Source.flag .line } else s.port q

theorem State.tripRaised (s : State) (l : LineId) (once : ((s.line l).jobs.map Job.sign).Nodup) :
    s.TripRaised (((s.tripLine l).updLine l fun ln => { ln with trips := min 255 (ln.trips + 1) }).raiseSetup .line) l := by
  obtain ⟨a, ha⟩ : ∃ a, s.tripLine l = a := ⟨_, rfl⟩
  have tripped := s.tripLine_tripped l once
  have frame := s.tripLine_frame l
  have trips := s.tripLine_trips l
  have others := fun k (hk : k ≠ l) => s.tripLine_other hk
  have sign := s.tripLine_sign l
  rw [ha] at tripped frame trips others sign
  obtain ⟨c, hc⟩ : ∃ c, (a.updLine l fun ln => { ln with trips := min 255 (ln.trips + 1) }) = c := ⟨_, rfl⟩
  have counted : c = { s with signs := c.signs, lines := c.lines } := by
    rw [← hc]
    exact congrArg (fun w : State => { w with
      lines := (a.updLine l fun ln => { ln with trips := min 255 (ln.trips + 1) }).lines }) frame
  have line : c.line l = { a.line l with trips := min 255 ((a.line l).trips + 1) } := by
    rw [← hc, State.line_updLine_self]
  have other : ∀ k, k ≠ l → c.line k = s.line k := fun k hk => by
    rw [← hc, State.line_updLine_of_ne _ hk, others k hk]
  have same : ∀ i, c.sign i = a.sign i := fun i => by rw [← hc]; rfl
  have raised : c.raiseSetup .line = { c with ports := (c.raiseSetup .line).ports } := c.raiseSetup_eq .line
  have flags := c.raiseSetup_port .line
  rw [ha, hc]
  generalize c.raiseSetup .line = b at raised flags
  have lines : ∀ k, b.line k = c.line k := fun k => by rw [raised]; rfl
  have signs : ∀ i, b.sign i = a.sign i := fun i => by rw [raised]; exact same i
  refine ⟨?_, tripped.then ((lines l).trans line) fun i => .inl (signs i), ?_, fun k hk => (lines k).trans (other k hk),
    fun i => signs i ▸ sign i, fun q => ?_⟩
  · have bsigns : b.signs = c.signs := by rw [raised]
    have blines : b.lines = c.lines := by rw [raised]
    rw [bsigns, blines]
    exact raised.trans (congrArg (fun w : State => { w with ports := b.ports }) counted)
  · rw [lines, line]
    exact congrArg (fun n => min 255 (n + 1)) trips
  · rw [flags q, counted]
    rfl

theorem State.exec_trip (hrun : s.run = .running) (powered : (s.line l).powered = true) (excess : (s.line l).excess = true) :
    exec (.trip l) s = .next (s.trip l) := by
  show execTrip l s = _
  rw [execTrip, State.whenRunning_eq _ hrun, if_pos (by rw [powered, excess, Bool.and_self])]

/-- Settles O57. -/
theorem linesTripAndAreRestored : Obligations.LinesTripAndAreRestored := by
  unfold Obligations.LinesTripAndAreRestored
  refine ⟨fun s l hrun => ⟨fun mode => ⟨?_, fun excess once oncePartner => ?_⟩, fun waking active => ⟨?_, ?_⟩, ?_, fun last => ?_,
      fun free => ?_⟩, fun s h a => ⟨fun n hn => State.exec_refused a ?_, fun l => ⟨fun free => ?_, fun held => ?_⟩⟩⟩
  · refine congrArg _ ((State.whenRunning_eq _ hrun).trans ?_)
    exact if_pos ((LineRecord.powered_iff _).2 mode)
  · refine ⟨_, State.exec_trip hrun ((LineRecord.powered_iff _).2 mode) excess, ?_⟩
    unfold State.trip
    have raised := s.tripRaised l once
    dsimp only
    generalize (((s.tripLine l).updLine l fun ln => { ln with trips := min 255 (ln.trips + 1) }).raiseSetup .line) = b at raised
    obtain ⟨frame, tripped, trips, others, sign, ports⟩ := raised
    have apart := partner_ne l
    have setup : b.setup = s.setup := by rw [frame]
    have bquiet : b.quiet = s.quiet := by rw [frame]
    have partnerLine := others _ apart
    obtain ⟨settled, quiet⟩ := (b.tripPartner l).quietSettled_eq
    by_cases joint : s.setup.grouping = .paired ∧ ((s.line (partner l)).mode = .waking ∨ (s.line (partner l)).mode = .active)
    · have both : b.tripPartner l = b.tripLine (partner l) :=
        if_pos ⟨by rw [setup]; exact joint.1, (LineRecord.powered_iff _).2 (by rw [partnerLine]; exact joint.2)⟩
      rw [both] at settled quiet ⊢
      rw [settled]
      have second := b.tripLine_frame (partner l)
      have line : (b.tripLine (partner l)).line l = b.line l := b.tripLine_other apart.symm
      refine ⟨tripped.then (n := (b.line l).trips) line (b.tripLine_sign _), (congrArg LineRecord.trips line).trans trips,
        fun _ _ => ⟨?_, (b.tripLine_trips _).trans (congrArg LineRecord.trips partnerLine)⟩, fun other => ?_,
        fun k hk hp => (b.tripLine_other hp).trans (others k hk), fun q => ?_, fun calm => ?_, ?_⟩
      · have again := (b.tripLine_tripped (partner l) (by rw [partnerLine]; exact oncePartner)).after partnerLine setup sign
        exact again.then (n := ((b.tripLine (partner l)).line (partner l)).trips) rfl fun i => .inl rfl
      · rcases other with h | ⟨h, h'⟩
        · rw [joint.1] at h
          cases h
        · exact absurd joint.2 (not_or.2 ⟨h, h'⟩)
      · rw [← ports q, second]
        rfl
      · refine (quiet ?_).trans ?_ <;> rw [second]
        · rw [← bquiet] at calm
          exact calm
        · exact bquiet
      · have ports : (b.tripLine (partner l)).ports = b.ports := by rw [second]
        refine (congrArg (fun w : State => { w with quiet := (b.tripLine (partner l)).quietSettled.quiet }) second).trans ?_
        dsimp only
        rw [ports]
        exact congrArg (fun w : State => { w with
          signs := (b.tripLine (partner l)).signs, lines := (b.tripLine (partner l)).lines
          quiet := (b.tripLine (partner l)).quietSettled.quiet }) frame
    · have alone : b.tripPartner l = b := if_neg fun h => joint ⟨setup ▸ h.1, by
        rw [partnerLine, LineRecord.powered_iff] at h
        exact h.2⟩
      rw [alone] at settled quiet ⊢
      rw [settled]
      refine ⟨tripped.then (n := (b.line l).trips) rfl fun i => .inl rfl, trips, fun h h' => absurd ⟨h, h'⟩ joint,
        fun _ => partnerLine, fun k hk _ => others k hk, ports, fun calm => ?_, ?_⟩
      · rw [← bquiet] at calm ⊢
        exact quiet calm
      · exact congrArg (fun w : State => { w with quiet := b.quietSettled.quiet }) frame
  · refine congrArg _ ((State.whenRunning_eq _ hrun).trans (if_neg ?_))
    rw [Bool.and_eq_true, LineRecord.powered_iff]
    rintro ⟨h | h, -⟩
    · exact waking h
    · exact active h
  · refine congrArg _ ((State.whenRunning_eq _ hrun).trans (if_neg ?_))
    rw [LineRecord.powered_iff]
    exact not_or.2 ⟨waking, active⟩
  · exact congrArg _ (State.whenRunning_eq _ hrun)
  · refine congrArg _ ((State.whenRunning_eq _ hrun).trans ?_)
    rw [if_pos last, State.restoreLine_held (by simp [last])]
  · refine congrArg _ ((State.whenRunning_eq _ hrun).trans (if_neg ?_))
    simp [free]
  · rw [serveClearLine, line?_of_le hn]
  · refine congrArg _ (State.request_okWith a ?_)
    rw [serveClearLine, line?_val]
    exact congrArg (okWith · .empty) (State.restoreLine_free (by simpa using free))
  · refine congrArg _ (State.request_onLine a ?_)
    rw [serveClearLine, line?_val]
    refine congrArg (okWith · .empty) ?_
    rw [State.restoreLine_held (by simpa using held), State.take_line]

end Sys2Proof.Machine
end

section
/-! PROOFS. The settings of the quiet controller and of a line, and the sleep of lines (R126, R127, R130, R133, R140, R146 to
R148). -/

namespace Sys2Proof.Machine

variable {s : State} {l : LineId}

/-! ### A request that leaves the ports alone -/

/-- R163, R168: what the port does for a request whose block touches neither the ports nor the pressure level. -/
structure State.PortServed (s : State) (h : Header) (code : Nat) (v : Served) : Prop where
  replied : Replied s ((s.take h.port).answer h.port code v) h code v.status v.clamped v.result
  unpressed : Unpressed s ((s.take h.port).answer h.port code v)
  ports : PortsAnswered s ((s.take h.port).answer h.port code v) h.port

theorem State.portServed (s : State) (h : Header) (code : Nat) {v : Served} (hports : v.st.ports = (s.take h.port).ports)
    (level : v.st.pressure = (s.take h.port).pressure) : s.PortServed h code v := by
  have hport (q : Port) : v.st.port q = (s.take h.port).port q := congrArg (·[portIndex q]) hports
  have hpress : Unpressed (s.take h.port) v.st := ⟨level, fun q => by rw [hport]⟩
  refine ⟨s.answer_replied h code v, hpress.of_take.updPort _ fun _ => rfl, State.answer_portsAnswered (fun q => ?_) _ _⟩
  show v.st.port q = { (s.take h.port).port q with raised := (v.st.port q).raised }
  rw [hport]

/-! ### The quiet state -/

theorem QuietState.asleep_iff (q : QuietState) : q.asleep = true ↔ q = .settling ∨ q = .quiet := by
  cases q <;> simp [QuietState.asleep]

theorem QuietState.asleep_eq_false (q : QuietState) : q.asleep = false ↔ q = .disabled ∨ q = .awake := by
  cases q <;> simp [QuietState.asleep]

/-- R148: some enabled room gives a wake cause. -/
theorem State.anyRoomWakes_iff (s : State) :
    (allRooms.any fun r => (s.roomSetup r).enabled && roomWakes s.setup.quiet (s.eval r)) = true ↔
      ∃ r, (s.roomSetup r).enabled = true ∧ roomWakes s.setup.quiet (s.eval r) = true := by
  simp [allRooms]

/-- R148: the exit check, whole. -/
theorem State.exitCheck_eq (s : State) : s.exitCheck =
    if s.quiet.asleep = true ∧ ∃ r, (s.roomSetup r).enabled = true ∧ roomWakes s.setup.quiet (s.eval r) = true then s.wakeLines
    else s :=
  if_congr (by rw [Bool.and_eq_true, s.anyRoomWakes_iff]) rfl rfl

theorem State.exitCheck_awake (h : s.quiet.asleep = false) : s.exitCheck = s := by
  rw [State.exitCheck_eq, if_neg (by simp [h])]

/-- R146: the move touches the quiet state and the lines alone. -/
theorem State.moveQuiet_eq (s : State) (enable : Bool) :
    s.moveQuiet enable = { s with quiet := (s.moveQuiet enable).quiet, lines := (s.moveQuiet enable).lines } := by
  have exit : s.exitCheck = { s with quiet := s.exitCheck.quiet, lines := s.exitCheck.lines } := by
    rw [State.exitCheck_eq]
    split <;> rfl
  unfold State.moveQuiet
  split
  · rfl
  · rfl
  · rfl
  · rfl
  · exact exit

/-- R146: what the move does, by the enable value and the state. -/
structure State.QuietMoved (s t : State) (enable : Bool) : Prop where
  on : enable = true → s.quiet = .disabled → t.quiet = .awake ∧ t.lines = s.lines
  off : enable = false → t.quiet = .disabled
  offAwake : enable = false → s.quiet = .disabled ∨ s.quiet = .awake → t.lines = s.lines
  offAsleep : enable = false → s.quiet = .settling ∨ s.quiet = .quiet → WokenFrom s t
  stays : enable = true → s.quiet = .awake → t.quiet = .awake ∧ t.lines = s.lines
  wakes : enable = true → s.quiet = .settling ∨ s.quiet = .quiet →
    (∃ r, (s.roomSetup r).enabled = true ∧ roomWakes s.setup.quiet (s.eval r) = true) → t.quiet = .awake ∧ WokenFrom s t
  rests : enable = true → s.quiet = .settling ∨ s.quiet = .quiet →
    (∀ r, (s.roomSetup r).enabled = true → roomWakes s.setup.quiet (s.eval r) = false) → t.quiet = s.quiet ∧ t.lines = s.lines

theorem State.moveQuiet_moved (s : State) (enable : Bool) : s.QuietMoved (s.moveQuiet enable) enable := by
  have asleepMove (h : s.quiet = .settling ∨ s.quiet = .quiet) : s.moveQuiet true = s.exitCheck := by
    rcases h with h | h <;> simp only [State.moveQuiet, h]
  have offMove (h : s.quiet = .settling ∨ s.quiet = .quiet) : s.moveQuiet false = { s.wakeLines with quiet := .disabled } := by
    rcases h with h | h <;> simp only [State.moveQuiet, h]
  refine ⟨?_, ?_, ?_, ?_, ?_, ?_, ?_⟩
  · rintro rfl h
    simp [State.moveQuiet, h]
  · rintro rfl
    cases h : s.quiet
    · have move : s.moveQuiet false = s.exitCheck := by simp only [State.moveQuiet, h]
      rw [move, State.exitCheck_awake (by rw [h]; rfl), h]
    · simp only [State.moveQuiet, h]
    · simp only [State.moveQuiet, h]
    · simp only [State.moveQuiet, h]
  · rintro rfl (h | h)
    · have move : s.moveQuiet false = s.exitCheck := by simp only [State.moveQuiet, h]
      rw [move, State.exitCheck_awake (by rw [h]; rfl)]
    · simp only [State.moveQuiet, h]
  · rintro rfl h
    rw [offMove h]
    exact s.wakeLines_woken
  · rintro rfl h
    have move : s.moveQuiet true = s.exitCheck := by simp only [State.moveQuiet, h]
    rw [move, State.exitCheck_awake (by rw [h]; rfl)]
    exact ⟨h, rfl⟩
  · rintro rfl h some
    rw [asleepMove h, State.exitCheck_eq, if_pos ⟨(QuietState.asleep_iff _).2 h, some⟩]
    exact ⟨rfl, s.wakeLines_woken⟩
  · rintro rfl h none
    rw [asleepMove h, State.exitCheck_eq, if_neg]
    · exact ⟨rfl, rfl⟩
    · rintro ⟨-, r, enabled, wakes⟩
      rw [none r enabled] at wakes
      cases wakes

/-! ### Sleep -/

theorem LineRecord.maySleep_iff (a : LineRecord) :
    a.maySleep = true ↔ a.mode = .active ∧ a.jobs = [] ∧ a.dirty = [] ∧ a.roll = none := by
  simp [LineRecord.maySleep, and_assoc]

/-- R147: every enabled line is QUIET or TRIPPED. -/
theorem State.quietSettled_quiet (s : State) : s.quietSettled.quiet =
    if s.quiet = .settling ∧ ∀ k, (s.lineSetup k).enabled = true → (s.line k).mode = .quiet ∨ (s.line k).mode = .tripped then
      .quiet else s.quiet := by
  have all : (allLines.all fun l => !(s.lineSetup l).enabled || (s.line l).mode == .quiet || (s.line l).mode == .tripped) = true ↔
      ∀ k, (s.lineSetup k).enabled = true → (s.line k).mode = .quiet ∨ (s.line k).mode = .tripped := by
    simp only [allLines, List.all_eq_true, List.mem_finRange, forall_const]
    refine forall_congr' fun k => ?_
    cases (s.lineSetup k).enabled <;> simp
  rw [State.quietSettled, if_congr (and_congr_right fun _ => all) rfl rfl]
  split <;> rfl

/-- R147: a line is put to sleep, and the check of the quiet state follows. -/
theorem State.sleepLine_eq (asleep : s.quiet.asleep = true) (enabled : (s.lineSetup l).enabled = true)
    (may : (s.line l).maySleep = true) :
    s.sleepLine l = (s.updLine l fun ln => ln.powerOff .quiet).quietSettled := by
  rw [State.sleepLine, asleep, enabled, may]
  rfl

/-- R146: SET_QUIET on a value that passes its check. -/
theorem serveQuiet_ok {enable x y : Nat} (low : enable ≤ 1) (s : State) : serveQuiet enable x y s =
    { st := ({ s with setup := { s.setup with
        quiet := { enable := enable == 1, qEnter := (clampQuiet x y).1, qExit := (clampQuiet x y).2 } } }).moveQuiet (enable == 1)
      status := .ok, clamped := decide ((clampQuiet x y).1 ≠ x ∨ (clampQuiet x y).2 ≠ y) } := by
  have clamped : (clampQuiet x y != (x, y)) = decide ((clampQuiet x y).1 ≠ x ∨ (clampQuiet x y).2 ≠ y) := by
    rw [Bool.eq_iff_iff, bne_iff_ne, decide_eq_true_eq, ne_eq, Prod.ext_iff, not_and_or]
  simp only [serveQuiet, yesNo?_eq low, clamped, State.storeQuiet]

/-- R148: WAKE_LINES. -/
theorem State.wakeCause_asleep (h : s.quiet.asleep = true) : s.wakeCause = s.wakeLines := if_pos h

theorem State.wakeCause_awake (h : s.quiet.asleep = false) : s.wakeCause = s := if_neg (by simp [h])

theorem WokenFrom.of_lines {b t u : State} (h : WokenFrom b u) (before : b.lines = s.lines) (after : t.lines = u.lines) :
    WokenFrom s t := fun k => by
  have hk : b.line k = s.line k := congrArg (·[k]) before
  have ht : t.line k = u.line k := congrArg (·[k]) after
  rw [ht, ← hk]
  exact h k

/-- Settles O56. -/
theorem linesSleepAndWake : Obligations.LinesSleepAndWake := by
  unfold Obligations.LinesSleepAndWake
  refine ⟨fun s h a => ⟨fun enable x y high => State.exec_refused a ?_, fun enable x y en ex low hen hex => ?_, fun awake => ?_,
    fun asleep => ?_⟩, fun s l hrun => ⟨fun asleep enabled mode jobs dirty roll => ?_, fun h => ?_⟩⟩
  · rw [serveQuiet, yesNo?_none high]
  · have clamp : clampQuiet x y = (en, ex) := by rw [clampQuiet, hex, hen]
    obtain ⟨b, hb⟩ : ∃ b, { s.take h.port with setup := { (s.take h.port).setup with
      quiet := { enable := enable == 1, qEnter := en, qExit := ex } } } = b := ⟨_, rfl⟩
    have serve := serveQuiet_ok (x := x) (y := y) low (s.take h.port)
    rw [clamp, hb] at serve
    have moved := b.moveQuiet_moved (enable == 1)
    have frame := b.moveQuiet_eq (enable == 1)
    generalize b.moveQuiet (enable == 1) = u at serve moved frame
    have served := State.portServed s h 0x34 (v := serveQuiet enable x y (s.take h.port)) (by rw [serve, frame, ← hb])
      (by rw [serve, frame, ← hb])
    rw [State.take_eq] at hb
    have quiet : b.quiet = s.quiet := by rw [← hb]
    have lines : b.lines = s.lines := by rw [← hb]
    have on : enable = 1 → (enable == 1) = true := fun h => beq_iff_eq.2 h
    have off : enable = 0 → (enable == 1) = false := fun h => by rw [h]; rfl
    have setup : u.setup = b.setup := by rw [frame]
    have room : ∀ r, b.roomSetup r = s.roomSetup r := fun r => by rw [← hb]; rfl
    have eval : ∀ r, b.eval r = s.eval r := fun r => by rw [← hb]; rfl
    refine ⟨_, congrArg Host.Outcome.next (State.request_accepted a _ _ _), ?_⟩
    rw [serve] at served ⊢
    obtain ⟨replied, unpressed, ports⟩ := served
    refine ⟨replied, ?_, fun h1 disabled => ?_, fun h0 => moved.off (off h0), fun h0 awake => ?_, fun h0 asleep => ?_,
      fun h1 awake => ?_, fun h1 asleep => ⟨fun wakes => ?_, fun rests => ?_⟩, unpressed, ports, ?_⟩
    · exact setup.trans (by rw [← hb])
    · exact lines ▸ moved.on (on h1) (quiet.trans disabled)
    · exact lines ▸ moved.offAwake (off h0) (quiet ▸ awake)
    · exact (moved.offAsleep (off h0) (quiet ▸ asleep)).of_lines lines rfl
    · exact lines ▸ moved.stays (on h1) (quiet.trans awake)
    · obtain ⟨r, enabled, wake⟩ := wakes
      obtain ⟨awake, woken⟩ := moved.wakes (on h1) (quiet ▸ asleep)
        ⟨r, by rw [room]; exact enabled, by rw [eval, ← setup]; exact wake⟩
      exact ⟨awake, woken.of_lines lines rfl⟩
    · have kept := moved.rests (on h1) (quiet ▸ asleep) fun r enabled => by
        rw [eval, ← setup]
        exact rests r (room r ▸ enabled)
      rw [quiet, lines] at kept
      exact kept
    · have whole : u = { s with arb := s.arb.restarted h.port s.setup.arbiter.idleCode, ports := u.ports, setup := u.setup
                                quiet := u.quiet, lines := u.lines } := by
        have same : u.ports = b.ports := by rw [frame]
        rw [setup, same]
        subst hb
        exact frame
      exact congrArg (fun w : State => { w with ports := ((s.take h.port).answer h.port 0x34
        { st := u, status := .ok, clamped := decide (en ≠ x ∨ ex ≠ y) }).ports }) whole
  · have same : QuietState.asleep (s.take h.port).quiet = false := by
      rw [State.take_quiet]
      exact (QuietState.asleep_eq_false _).2 awake
    refine congrArg _ (State.request_okWith a ?_)
    rw [serveWake, State.wakeCause_awake same, same]
    rfl
  · have same : QuietState.asleep (s.take h.port).quiet = true := by
      rw [State.take_quiet]
      exact (QuietState.asleep_iff _).2 asleep
    have serve : serveWake (s.take h.port) = okWith (s.take h.port).wakeLines (.smallCount (s.take h.port).quietLines) := by
      rw [serveWake, State.wakeCause_asleep same, same]
      rfl
    have served := State.portServed s h 0x35 (v := serveWake (s.take h.port)) (by rw [serve]; rfl) (by rw [serve]; rfl)
    refine ⟨_, congrArg Host.Outcome.next (State.request_accepted a _ _ _), ?_⟩
    rw [serve] at served ⊢
    obtain ⟨replied, unpressed, ports⟩ := served
    refine ⟨?_, rfl, ?_, unpressed, ports, ?_⟩
    · rw [State.take_eq] at replied ⊢
      exact replied
    · exact (s.take h.port).wakeLines_woken.of_lines (s.take_lines h.port) rfl
    · have taken : s.take h.port = { s with
          arb := s.arb.restarted h.port s.setup.arbiter.idleCode, ports := (s.take h.port).ports } := by
        rw [State.take_eq]
      exact congrArg (fun w : State => { w with
        quiet := .awake, lines := (s.take h.port).wakeLines.lines
        ports := ((s.take h.port).answer h.port 0x35
          (okWith (s.take h.port).wakeLines (.smallCount (s.take h.port).quietLines))).ports }) taken
  · have may : (s.line l).maySleep = true := (LineRecord.maySleep_iff _).2 ⟨mode, jobs, dirty, roll⟩
    obtain ⟨b, hb⟩ : ∃ b, (s.updLine l fun ln => ln.powerOff .quiet) = b := ⟨_, rfl⟩
    have own : b.line l = (s.line l).powerOff .quiet := by rw [← hb, State.line_updLine_self]
    have others : ∀ k, k ≠ l → b.line k = s.line k := fun k hk => by rw [← hb, State.line_updLine_of_ne _ hk]
    have frame : b = { s with lines := b.lines } := by rw [← hb]; rfl
    have quiet : b.quiet = s.quiet := by rw [frame]
    have settled := b.quietSettled_quiet
    refine ⟨_, congrArg Host.Outcome.next ((State.whenRunning_eq _ hrun).trans
      (State.sleepLine_eq ((QuietState.asleep_iff _).2 asleep) enabled may)), ?_⟩
    rw [hb, b.quietSettled_eq.1]
    refine ⟨?_, others, ?_, congrArg (fun w : State => { w with quiet := b.quietSettled.quiet }) frame⟩
    · refine own.trans ?_
      rw [LineRecord.powerOff, ← roll]
    · refine settled.trans ?_
      have all : (∀ k, (b.lineSetup k).enabled = true → (b.line k).mode = .quiet ∨ (b.line k).mode = .tripped) ↔
          ∀ k, (s.lineSetup k).enabled = true → k = l ∨ (s.line k).mode = .quiet ∨ (s.line k).mode = .tripped := by
        refine forall_congr' fun k => ?_
        have setup : b.lineSetup k = s.lineSetup k := by rw [frame]; rfl
        rw [setup]
        by_cases hk : k = l
        · simp [hk, own, LineRecord.powerOff]
        · simp [hk, others k hk]
      rw [quiet, if_congr (and_congr_right fun _ => all) rfl rfl]
      rcases asleep with h | h <;> simp [h]
  · have idle : s.sleepLine l = s := by
      refine if_neg ?_
      simp only [Bool.and_eq_true, QuietState.asleep_iff, LineRecord.maySleep_iff]
      rintro ⟨⟨asleep, -⟩, mode, jobs, dirty, roll⟩
      rcases h with h | h | h | h | h | h
      · simp [h] at asleep
      · simp [h] at asleep
      · exact h mode
      · exact h jobs
      · exact h dirty
      · exact h roll
    exact congrArg _ ((State.whenRunning_eq _ hrun).trans idle)

end Sys2Proof.Machine
end

section
/-! PROOFS. SET_LINE (R126, R127, R130, R133, R140). The settings are checked and stored, the budget is clamped, the interval timer
follows a changed interval, and the line is switched. -/

namespace Sys2Proof.Machine

variable {s : State} {l : LineId} {f : LineFields}

/-! ### The checks -/

theorem grouping?_eq {n : Nat} (h : n ≤ 1) : grouping? n = some (if n = 0 then .separate else .paired) := by
  match n, h with
  | 0, _ | 1, _ => rfl

theorem grouping?_isSome (n : Nat) : (grouping? n).isSome = decide (n ≤ 1) := by
  match n with
  | 0 | 1 => rfl
  | n + 2 => simp [grouping?]

/-- R126, check 1. -/
theorem LineFields.valuesOk_iff (f : LineFields) : LineFields.valuesOk f = true ↔
    f.enabled ≤ 1 ∧ f.refreshLimit ∈ [2, 4, 8, 16] ∧ f.interval ≤ 60 ∧ f.filter ∈ [1, 2, 4, 8] ∧ f.grouping ≤ 1 := by
  simp only [LineFields.valuesOk, yesNo?_isSome, grouping?_isSome, Bool.and_eq_true, decide_eq_true_eq, List.contains_iff_mem,
    and_assoc]

/-- R126: a value out of range. -/
theorem State.lineCheck_badValue (h : LineFields.valuesOk f = false) : s.lineCheck l f = some .badValue := by
  rw [State.lineCheck, h]
  rfl

/-- R126: the line has jobs in flight that the settings leave no room for. -/
theorem State.lineCheck_busy (ok : LineFields.valuesOk f = true)
    (h : (f.enabled = 0 ∧ 0 < (s.line l).inFlight) ∨ (LineFields.setup f).limit < (s.line l).inFlight) : s.lineCheck l f = some .busy := by
  rw [State.lineCheck, ok]
  by_cases idle : f.enabled = 0 ∧ 0 < (s.line l).inFlight
  · rw [if_neg (by simp), if_pos idle]
  · rw [if_neg (by simp), if_neg idle, if_pos (h.resolve_left idle)]

theorem State.lineCheck_ok (ok : LineFields.valuesOk f = true) (idle : f.enabled = 0 → (s.line l).inFlight = 0)
    (room : (s.line l).inFlight ≤ (LineFields.setup f).limit) : s.lineCheck l f = none := by
  rw [State.lineCheck, ok, if_neg (by simp), if_neg (fun h => by have := idle h.1; omega), if_neg (Nat.not_lt.2 room)]

/-! ### The settings on a line -/

/-- R127, R140: the clamp of the budget, and the interval timer. -/
def LineRecord.limited (a : LineRecord) (old new : LineSetup) : LineRecord :=
  { a with budget := clampBudget new.capacity a.budget
           interval := if old.interval = new.interval then a.interval
             else if a.mode = .active ∧ new.interval ≠ 0 then some new.interval else none }

theorem LineRecord.reconfigure_limited (a : LineRecord) (old new : LineSetup) :
    a.reconfigure old new = (a.limited old new).switched new.enabled := by
  have timer : (if a.mode == .active then startInterval new else none) =
      if a.mode = .active ∧ new.interval ≠ 0 then some new.interval else none := by
    unfold startInterval
    by_cases h : new.interval = 0 <;> by_cases m : a.mode = .active <;> simp [h, m]
  unfold LineRecord.reconfigure LineRecord.limited LineRecord.switched
  by_cases h : old.interval = new.interval
  · simp only [if_pos h]
  · simp only [if_neg h, timer]

/-- R133: the removal of jobs, each with its sign queued. -/
theorem disable_list (is : List SignId) : ∀ a : LineRecord,
    (is.foldl (fun a i => (a.dropJob i).join i) a).budget = a.budget ∧
    (is.foldl (fun a i => (a.dropJob i).join i) a).trips = a.trips ∧
    (is.foldl (fun a i => (a.dropJob i).join i) a).extras = a.extras ∧
    (is.foldl (fun a i => (a.dropJob i).join i) a).jobs = a.jobs.filter (fun j => !is.contains j.sign) ∧
    ∀ i, i ∈ (is.foldl (fun a i => (a.dropJob i).join i) a).dirty ↔ i ∈ a.dirty ∨ i ∈ is := by
  induction is with
  | nil => intro a; simp
  | cons i is ih =>
    intro a
    obtain ⟨budget, trips, extras, jobs, dirty⟩ := ih ((a.dropJob i).join i)
    have joined := (a.dropJob i).join_eq i
    simp only [List.foldl_cons]
    refine ⟨budget.trans (by rw [joined]; rfl), trips.trans (by rw [joined]; rfl), extras.trans (by rw [joined]; rfl),
      jobs.trans ?_, fun k => (dirty k).trans ?_⟩
    · rw [joined]
      simp only [LineRecord.dropJob, List.filter_filter]
      refine List.filter_congr fun j _ => ?_
      by_cases hj : j.sign = i <;> simp [hj]
    · rw [LineRecord.mem_join, List.mem_cons]
      exact or_assoc

/-- R133: a line that is disabled, with no job in flight. -/
structure LineRecord.Disabled (a b : LineRecord) : Prop where
  mode : b.mode = .off
  still : b.transmitter = none ∧ b.settle = false ∧ b.pollTimer = false ∧ b.roll = none ∧ b.interval = none ∧ b.hold = .none
  jobs : b.jobs = []
  dirty : ∀ i, i ∈ b.dirty ↔ i ∈ a.dirty ∨ i ∈ a.jobs.map Job.sign
  kept : b.budget = a.budget ∧ b.trips = a.trips ∧ b.extras = a.extras

theorem LineRecord.disable_disabled {a : LineRecord} (idle : a.inFlight = 0) : a.Disabled a.disable := by
  have ready : a.jobs.filter Job.isReady = a.jobs := by
    refine List.filter_eq_self.2 fun j hj => ?_
    have := List.countP_eq_zero.1 idle j hj
    simpa [Job.inFlight, Job.isReady] using this
  obtain ⟨budget, trips, extras, jobs, dirty⟩ := disable_list (a.jobs.map Job.sign) a
  have gone : a.jobs.filter (fun j => !(a.jobs.map Job.sign).contains j.sign) = [] :=
    List.filter_eq_nil_iff.2 fun j hj => by simpa using ⟨j, hj, rfl⟩
  unfold LineRecord.disable
  rw [ready]
  exact ⟨rfl, ⟨rfl, rfl, rfl, rfl, rfl, rfl⟩, jobs.trans gone, dirty, budget, trips, extras⟩

/-! A line that is switched, by its enable value and its state. -/

theorem LineRecord.switched_stays {a : LineRecord} (h : a.mode ≠ .off) : a.switched true = a := by
  simp [LineRecord.switched, h]

theorem LineRecord.switched_wakes {a : LineRecord} (h : a.mode = .off) : a.switched true = a.wake := by
  simp [LineRecord.switched, h]

theorem LineRecord.switched_off {a : LineRecord} (h : a.mode = .off) : a.switched false = a := by
  simp [LineRecord.switched, h]

theorem LineRecord.switched_disable {a : LineRecord} (h : a.mode ≠ .off) : a.switched false = a.disable := by
  simp [LineRecord.switched, h]

theorem LineRecord.switched_kept {a : LineRecord} {enabled : Bool} (idle : enabled = false → a.inFlight = 0) :
    (a.switched enabled).budget = a.budget ∧ (a.switched enabled).trips = a.trips ∧
      (a.switched enabled).extras = a.extras := by
  by_cases h : a.mode = .off <;> cases enabled
  · rw [LineRecord.switched_off h]
    exact ⟨rfl, rfl, rfl⟩
  · rw [LineRecord.switched_wakes h]
    exact ⟨rfl, rfl, rfl⟩
  · rw [LineRecord.switched_disable h]
    exact (LineRecord.disable_disabled (idle rfl)).kept
  · rw [LineRecord.switched_stays h]
    exact ⟨rfl, rfl, rfl⟩

/-! ### The settings that are stored -/

/-- R126, R131: what a SET_LINE that passes its checks stores. -/
structure State.LineStored (s t : State) (l : LineId) (f : LineFields) : Prop where
  own : t.line l = ((s.line l).limited (s.lineSetup l) (LineFields.setup f)).switched (f.enabled == 1)
  others : ∀ k, k ≠ l → t.line k = s.line k
  stored : t.lineSetup l = LineFields.setup f
  kept : ∀ k, k ≠ l → t.lineSetup k = s.lineSetup k
  grouping : t.setup.grouping = if f.grouping = 0 then .separate else .paired
  settings : t.setup = { s.setup with lines := t.setup.lines, grouping := t.setup.grouping }
  quiet : s.quiet ≠ .settling → t.quiet = s.quiet
  frame : t = { s with lines := t.lines, quiet := t.quiet, setup := t.setup }

theorem State.storeLine_stored (s : State) (l : LineId) {f : LineFields} (grouping : f.grouping ≤ 1) :
    s.LineStored (s.storeLine l f) l f := by
  obtain ⟨b, hb⟩ : ∃ b, s.setGrouping ((grouping? f.grouping).getD .separate) = b := ⟨_, rfl⟩
  obtain ⟨c, hc⟩ : ∃ c, b.setLineSetup l (LineFields.setup f) = c := ⟨_, rfl⟩
  have group : b.setup.grouping = if f.grouping = 0 then .separate else .paired := by
    rw [← hb, grouping?_eq grouping]
    rfl
  have lines : ∀ k, c.line k = s.line k := fun k => by rw [← hc, ← hb]; rfl
  have old : ∀ k, b.lineSetup k = s.lineSetup k := fun k => by rw [← hb]; rfl
  obtain ⟨d, hd⟩ : ∃ d, (c.updLine l fun a => a.reconfigure (s.lineSetup l) (LineFields.setup f)) = d := ⟨_, rfl⟩
  have own : d.line l = ((s.line l).limited (s.lineSetup l) (LineFields.setup f)).switched (f.enabled == 1) := by
    rw [← hd, State.line_updLine_self, lines, LineRecord.reconfigure_limited]
    rfl
  have others : ∀ k, k ≠ l → d.line k = s.line k := fun k hk => by rw [← hd, State.line_updLine_of_ne _ hk, lines]
  have setup : d.setup = c.setup := by rw [← hd]; rfl
  have calm : d.quiet = s.quiet := by rw [← hd, ← hc, ← hb]; rfl
  have frame : d = { s with lines := d.lines, setup := d.setup } := by rw [← hd, ← hc, ← hb]; rfl
  have store : s.storeLine l f = d.quietSettled := by
    rw [State.storeLine, State.reconfigureLine, hb, hc, old, hd]
  obtain ⟨settled, quiet⟩ := d.quietSettled_eq
  rw [store, settled]
  refine ⟨own, others, ?_, fun k hk => ?_, ?_, ?_, fun h => (quiet (by rw [calm]; exact h)).trans calm,
    congrArg (fun w : State => { w with quiet := d.quietSettled.quiet }) frame⟩
  · show d.lineSetup l = _
    rw [State.lineSetup, setup]
    exact hc ▸ State.lineSetup_setLineSetup_self b l _
  · show d.lineSetup k = _
    rw [State.lineSetup, setup]
    exact (hc ▸ State.lineSetup_setLineSetup_of_ne b hk _ : c.lineSetup k = b.lineSetup k).trans (old k)
  · show d.setup.grouping = _
    rw [setup, ← hc, State.setLineSetup_setup_grouping, group]
  · show d.setup = { s.setup with lines := d.setup.lines, grouping := d.setup.grouping }
    rw [setup, ← hc, ← hb]
    rfl

/-- R126: a value out of range refuses the request, and so does a line that is none. -/
theorem serveLine_badValue {line : Nat} (h : 5 < line ∨ LineFields.valuesOk f = false) : serveLine line f s = refuse s .badValue := by
  unfold serveLine
  cases hl : line? line with
  | none => rfl
  | some l =>
    have values : LineFields.valuesOk f = false := h.resolve_left fun high => by rw [line?_of_le high] at hl; cases hl
    dsimp only
    rw [State.lineCheck_badValue values]

/-- Settles O55. -/
theorem lineSettingsTakeEffect : Obligations.LineSettingsTakeEffect := by
  unfold Obligations.LineSettingsTakeEffect
  intro s h f a
  refine ⟨fun line bad => State.exec_refused a (serveLine_badValue ?_),
    fun l c enabled refresh interval filter grouping hc => ⟨fun busy => State.exec_refused a ?_, fun idle room => ?_⟩⟩
  · rcases bad with h | h
    · exact .inl h
    · refine .inr (Bool.eq_false_iff.2 fun ok => ?_)
      obtain ⟨enabled, refresh, interval, filter, grouping⟩ := (LineFields.valuesOk_iff f).1 ok
      rcases h with h | h | h | h | h
      · omega
      · exact h refresh
      · omega
      · exact h filter
      · omega
  · have ok := (LineFields.valuesOk_iff f).2 ⟨enabled, refresh, interval, filter, grouping⟩
    have limit : c.limit = (LineFields.setup f).limit := by rw [hc]; rfl
    rw [limit] at busy
    rw [serveLine, line?_val]
    dsimp only
    rw [State.lineCheck_busy ok (by rw [State.take_line]; exact busy)]
  have ok := (LineFields.valuesOk_iff f).2 ⟨enabled, refresh, interval, filter, grouping⟩
  have setup : c = LineFields.setup f := hc
  rw [setup] at room ⊢
  have stored := (s.take h.port).storeLine_stored l grouping
  have serve : serveLine l.val f (s.take h.port) = { st := (s.take h.port).storeLine l f, status := .ok, clamped := LineFields.clamped f
                                                     result := .budget (((s.take h.port).storeLine l f).line l).budget } := by
    rw [serveLine, line?_val]
    dsimp only
    rw [State.lineCheck_ok ok (by rw [State.take_line]; exact idle) (by rw [State.take_line]; exact room)]
  generalize (s.take h.port).storeLine l f = u at stored serve
  obtain ⟨own, others, new, kept, group, settings, quiet, frame⟩ := stored
  have hports : u.ports = (s.take h.port).ports := by rw [frame]
  have hlevel : u.pressure = (s.take h.port).pressure := by rw [frame]
  have served := State.portServed s h 0x33 (v := serveLine l.val f (s.take h.port)) (by rw [serve]; exact hports)
    (by rw [serve]; exact hlevel)
  refine ⟨_, congrArg Host.Outcome.next (State.request_accepted a _ _ _), ?_⟩
  rw [serve] at served ⊢
  obtain ⟨replied, unpressed, ports⟩ := served
  rw [State.take_line, State.take_lineSetup] at own
  have clamped : LineFields.clamped f = decide (f.capacity < 8 ∨ 31 < f.refill ∨ f.limit < 1 ∨ 4 < f.limit) := by
    rw [LineFields.clamped, Bool.eq_iff_iff]
    simp only [Bool.or_eq_true, decide_eq_true_eq, or_assoc]
  have zero : f.enabled = 0 ↔ (f.enabled == 1) = false := by
    rw [beq_eq_false_iff_ne]
    omega
  obtain ⟨budget, trips, extras⟩ := LineRecord.switched_kept (a := (s.line l).limited (s.lineSetup l) (LineFields.setup f))
    (enabled := f.enabled == 1) fun h => idle (zero.2 h)
  refine ⟨clamped ▸ replied, new, fun k hk => (kept k hk).trans (State.take_lineSetup _ _ _), group, ?budget,
    fun k hk => (others k hk).trans (State.take_line _ _ _), fun on mode => ?stays, fun on mode => ?wakes, fun off => ?off,
    fun off mode => ?disabled, ?trips, ?extras, fun calm => ?quiet, unpressed, ports, ?frame⟩
  case budget => exact (congrArg LineRecord.budget own).trans budget
  case stays =>
    have line : u.line l = (s.line l).limited (s.lineSetup l) (LineFields.setup f) := by
      rw [own, beq_iff_eq.2 on, LineRecord.switched_stays (show ((s.line l).limited _ _).mode ≠ .off from mode)]
    exact line.trans (congrArg (fun b => { (s.line l).limited (s.lineSetup l) (LineFields.setup f) with budget := b })
      (congrArg LineRecord.budget line).symm)
  case wakes =>
    have line : u.line l = ((s.line l).limited (s.lineSetup l) (LineFields.setup f)).wake := by
      rw [own, beq_iff_eq.2 on, LineRecord.switched_wakes (show ((s.line l).limited _ _).mode = .off from mode)]
    exact line.symm ▸ ⟨rfl, rfl, rfl, rfl, rfl, rfl, rfl⟩
  case off =>
    show (u.line l).mode = .off
    rw [own, zero.1 off]
    by_cases mode : (s.line l).mode = .off
    · rw [LineRecord.switched_off (show ((s.line l).limited _ _).mode = .off from mode)]
      exact mode
    · rw [LineRecord.switched_disable (show ((s.line l).limited _ _).mode ≠ .off from mode)]
      exact (LineRecord.disable_disabled (idle off)).mode
  case disabled =>
    have line : u.line l = ((s.line l).limited (s.lineSetup l) (LineFields.setup f)).disable := by
      rw [own, zero.1 off, LineRecord.switched_disable (show ((s.line l).limited _ _).mode ≠ .off from mode)]
    have disabled := LineRecord.disable_disabled
      (a := (s.line l).limited (s.lineSetup l) (LineFields.setup f)) (idle off)
    rw [← line] at disabled
    obtain ⟨-, ⟨transmitter, settle, pollTimer, roll, interval, hold⟩, jobs, dirty, -⟩ := disabled
    exact ⟨transmitter, settle, pollTimer, roll, interval, hold, jobs, dirty⟩
  case trips => exact (congrArg LineRecord.trips own).trans trips
  case extras => exact (congrArg LineRecord.extras own).trans extras
  case quiet => exact (quiet (by rw [State.take_quiet]; exact calm)).trans (State.take_quiet _ _)
  case frame =>
    have whole : u = { s with
        arb := s.arb.restarted h.port s.setup.arbiter.idleCode, ports := u.ports, lines := u.lines, quiet := u.quiet
        setup := { s.setup with lines := u.setup.lines, grouping := u.setup.grouping } } := by
      rw [State.take_eq] at frame settings hports
      rw [← settings, hports]
      exact frame
    exact congrArg (fun w : State => { w with ports := ((s.take h.port).answer h.port 0x33
      { st := u, status := .ok, clamped := LineFields.clamped f, result := .budget (u.line l).budget }).ports }) whole

end Sys2Proof.Machine
end

section
/-! PROOFS. The forced evaluation (R39, R99): every sign that is handed its board without a READY job takes the hand, joins its
queue, and leaves the rest of its line. -/

namespace Sys2Proof.Machine

variable {s : State} {i : SignId}

/-! ### A forced hand -/

/-- R99, R108: the record of a sign that takes a forced hand. -/
def SignRecord.forcedTo (g : SignRecord) (d : Option Digests) (o : Origin) : SignRecord :=
  if g.test = none then { g with wanted := d, origin := o, delivered := none } else { g with delivered := none }

theorem SignRecord.forcedTo_fault (g : SignRecord) (d : Option Digests) (o : Origin) : (g.forcedTo d o).fault = g.fault := by
  unfold SignRecord.forcedTo
  split <;> rfl

theorem SignRecord.forcedTo_unmatched (g : SignRecord) (d : Option Digests) (o : Origin) :
    (g.forcedTo d o).matched = false := by
  unfold SignRecord.forcedTo
  split <;> rfl

theorem State.hand_forced (s : State) (i : SignId) (d : Option Digests) (o : Origin) :
    s.hand i d o true = (s.setSign i ((s.sign i).forcedTo d o)).settleSign i := by
  unfold State.hand SignRecord.forcedTo
  cases h : (s.sign i).test <;> simp [h]

/-- No job of any line is READY. -/
def State.ReadyFree (s : State) : Prop := ∀ l, ∀ j ∈ (s.line l).jobs, j.state ≠ .ready

/-- A line that changes in its queue alone, where no sign is lost. -/
def LineRecord.Joins (a b : LineRecord) : Prop := b = { a with dirty := b.dirty } ∧ ∀ i ∈ a.dirty, i ∈ b.dirty

theorem LineRecord.Joins.refl (a : LineRecord) : a.Joins a := ⟨rfl, fun _ h => h⟩

theorem LineRecord.Joins.trans {a b c : LineRecord} (h : a.Joins b) (k : b.Joins c) : a.Joins c :=
  ⟨k.1.trans (congrArg (fun x => { x with dirty := c.dirty }) h.1), fun i hi => k.2 i (h.2 i hi)⟩

theorem LineRecord.join_joins (a : LineRecord) (i : SignId) : a.Joins (a.join i) := by
  refine ⟨by rw [LineRecord.join_eq], fun k hk => (a.mem_join i k).2 (.inl hk)⟩

theorem State.ReadyFree.of_joins {t : State} (h : s.ReadyFree) (lines : ∀ l, (s.line l).Joins (t.line l)) : t.ReadyFree := by
  intro l j hj
  rw [(lines l).1] at hj
  exact h l j hj

/-- R98: the settling of a sign that is not CLEAN, where no job is READY: it joins its queue, or nothing changes. -/
theorem State.settleSign_joins (free : s.ReadyFree) (dirty : (s.sign i).matched = false) (l : LineId) :
    (s.line l).Joins ((s.settleSign i).line l) := by
  have joins (m : Mapping) : (s.line l).Joins ((s.updLine m.line fun a => a.join i).line l) := by
    rw [State.line_updLine]
    split
    · next h => exact h ▸ (s.line m.line).join_joins i
    · exact .refl _
  cases hm : s.mapping i with
  | none => rw [State.settleSign, hm]; exact .refl _
  | some m =>
    cases hj : (s.line m.line).jobOf i with
    | some j =>
      rw [State.settleSign_flying hm hj (free m.line j (LineRecord.mem_of_jobOf hj).1)]
      exact joins m
    | none =>
      by_cases hf : (s.sign i).fault = .none
      · rw [State.settleSign_jobless hm hj hf, dirty]
        exact joins m
      · rw [State.settleSign_faulty hm hj hf]
        exact .refl _

/-- R98, R110: a sign that is not CLEAN and has no fault joins its queue. -/
theorem State.mem_settleSign {m : Mapping} (free : s.ReadyFree) (dirty : (s.sign i).matched = false)
    (hm : s.mapping i = some m) (hf : (s.sign i).fault = .none) : i ∈ ((s.settleSign i).line m.line).dirty := by
  cases hj : (s.line m.line).jobOf i with
  | some j =>
    rw [State.settleSign_flying hm hj (free m.line j (LineRecord.mem_of_jobOf hj).1), State.line_updLine_self]
    exact LineRecord.mem_join_self _ i
  | none =>
    rw [State.settleSign_jobless hm hj hf, dirty, State.line_updLine_self]
    exact LineRecord.mem_join_self _ i

/-! ### The signs of a room -/

/-- R39, R56: a sign's step in the forced hands of a room. -/
def State.forceSign (s : State) (r : RoomId) (new : EvalRecord) (o : Origin) (i : SignId) : State :=
  match s.mapping i with
  | none => s
  | some m => if m.room = r then s.hand i (new.digests m.role) o true else s

theorem State.handRoom_forced (s : State) (r : RoomId) (old new : EvalRecord) (o : Origin) :
    s.handRoom r old new o true = allSigns.foldl (fun s i => s.forceSign r new o i) s := by
  unfold State.handRoom
  refine congrArg (fun f => allSigns.foldl f s) (funext fun t => funext fun i => ?_)
  unfold State.forceSign
  cases t.mapping i with
  | none => rfl
  | some m => simp

/-- R39, R99: the forced hands of a room's signs in a list. -/
structure State.RoomForced (s t : State) (is : List SignId) (r : RoomId) (new : EvalRecord) (o : Origin) : Prop where
  frame : t = { s with signs := t.signs, lines := t.lines }
  lines : ∀ l, (s.line l).Joins (t.line l)
  forced : ∀ k ∈ is, ∀ m, s.mapping k = some m → m.room = r → t.sign k = (s.sign k).forcedTo (new.digests m.role) o ∧
    ((s.sign k).fault = .none → k ∈ (t.line m.line).dirty)
  others : ∀ k, (k ∉ is ∨ ∀ m, s.mapping k = some m → m.room ≠ r) → t.sign k = s.sign k

theorem State.forceSign_forced (free : s.ReadyFree) (r : RoomId) (new : EvalRecord) (o : Origin) (i : SignId) :
    s.RoomForced (s.forceSign r new o i) [i] r new o := by
  by_cases here : ∃ m, s.mapping i = some m ∧ m.room = r
  · obtain ⟨m, hm, hr⟩ := here
    have step : s.forceSign r new o i = (s.setSign i ((s.sign i).forcedTo (new.digests m.role) o)).settleSign i := by
      rw [State.forceSign, hm]
      dsimp only
      rw [if_pos hr, State.hand_forced]
    obtain ⟨u, hu⟩ : ∃ u, s.setSign i ((s.sign i).forcedTo (new.digests m.role) o) = u := ⟨_, rfl⟩
    have own : u.sign i = (s.sign i).forcedTo (new.digests m.role) o := by rw [← hu, State.sign_setSign_self]
    have line : ∀ l, u.line l = s.line l := fun l => by rw [← hu]; rfl
    have ufree : u.ReadyFree := fun l => line l ▸ free l
    have dirty : (u.sign i).matched = false := own ▸ SignRecord.forcedTo_unmatched _ _ _
    obtain ⟨ls, settled⟩ := u.settleSign_eq i
    have sign : ∀ k, (u.settleSign i).sign k = u.sign k := fun k => by rw [settled]; rfl
    rw [step, hu]
    refine ⟨?_, fun l => line l ▸ State.settleSign_joins ufree dirty l, fun k hk n hn _ => ?_, fun k hk => ?_⟩
    · rw [settled, ← hu]
      rfl
    · obtain rfl := List.mem_singleton.1 hk
      obtain rfl := Option.some.inj (hm.symm.trans hn)
      refine ⟨(sign k).trans own, fun hf => State.mem_settleSign ufree dirty (by rw [← hu]; exact hm) ?_⟩
      rw [own, SignRecord.forcedTo_fault, hf]
    · have hne : k ≠ i := by
        rintro rfl
        exact hk.elim (fun h => h (List.mem_singleton.2 rfl)) fun h => h m hm hr
      rw [sign, ← hu, State.sign_setSign_of_ne _ hne]
  · have same : s.forceSign r new o i = s := by
      unfold State.forceSign
      split
      · rfl
      · next m hm => exact if_neg fun hr => here ⟨m, hm, hr⟩
    rw [same]
    refine ⟨rfl, fun _ => .refl _, fun k hk m hm hr => ?_, fun _ _ => rfl⟩
    exact absurd ⟨m, List.mem_singleton.1 hk ▸ hm, hr⟩ here

theorem forced_signs (r : RoomId) (new : EvalRecord) (o : Origin) (is : List SignId) (once : is.Nodup) : ∀ {s : State},
    s.ReadyFree → s.RoomForced (is.foldl (fun s i => s.forceSign r new o i) s) is r new o := by
  induction is with
  | nil => exact fun _ => ⟨rfl, fun _ => .refl _, nofun, fun _ _ => rfl⟩
  | cons i is ih =>
    intro s free
    obtain ⟨absent, once⟩ := List.nodup_cons.1 once
    have first := State.forceSign_forced free r new o i
    rw [List.foldl_cons]
    generalize s.forceSign r new o i = u at first
    obtain ⟨frame, lines, forced, others⟩ := ih once (free.of_joins first.lines)
    generalize is.foldl (fun s i => s.forceSign r new o i) u = t at frame lines forced others
    have mapping : ∀ k, u.mapping k = s.mapping k := fun k => by rw [first.frame]; rfl
    refine ⟨?_, fun l => (first.lines l).trans (lines l), fun k hk m hm hr => ?_, fun k hk => ?_⟩
    · exact frame.trans (congrArg (fun w : State => { w with signs := t.signs, lines := t.lines }) first.frame)
    · by_cases hi : k = i
      · subst hi
        obtain ⟨own, queued⟩ := first.forced k (List.mem_singleton.2 rfl) m hm hr
        exact ⟨(others k (.inl absent)).trans own, fun hf => (lines m.line).2 k (queued hf)⟩
      · have same : u.sign k = s.sign k := first.others k (.inl (by simpa using hi))
        rw [← same]
        exact forced k ((List.mem_cons.1 hk).resolve_left hi) m ((mapping k).trans hm) hr
    · rcases hk with hk | hk
      · obtain ⟨hi, hk⟩ : k ≠ i ∧ k ∉ is := by simpa using hk
        exact (others k (.inl hk)).trans (first.others k (.inl (by simpa using hi)))
      · exact (others k (.inr fun m hm => hk m ((mapping k).symm.trans hm))).trans (first.others k (.inr hk))

/-! ### The rooms -/

/-- A line that grows in its queue, and may be woken. -/
def LineRecord.Grows (a b : LineRecord) : Prop :=
  (∀ i ∈ a.dirty, i ∈ b.dirty) ∧ (b = { a with dirty := b.dirty } ∨ (a.mode = .quiet ∧ b = { a with dirty := b.dirty }.wake))

theorem LineRecord.Grows.refl (a : LineRecord) : a.Grows a := ⟨fun _ h => h, .inl rfl⟩

theorem LineRecord.Joins.grows {a b : LineRecord} (h : a.Joins b) : a.Grows b := ⟨h.2, .inl h.1⟩

theorem LineRecord.Grows.trans {a b c : LineRecord} (h : a.Grows b) (k : b.Grows c) : a.Grows c := by
  obtain ⟨hdirty, h⟩ := h
  obtain ⟨kdirty, k⟩ := k
  refine ⟨fun i hi => kdirty i (hdirty i hi), ?_⟩
  rcases h with h | ⟨mode, h⟩
  · have same : b.mode = a.mode := by rw [h]
    rcases k with k | ⟨kmode, k⟩
    · exact .inl (k.trans (congrArg (fun x => { x with dirty := c.dirty }) h))
    · exact .inr ⟨same ▸ kmode, k.trans (congrArg (fun x => LineRecord.wake { x with dirty := c.dirty }) h)⟩
  · rcases k with k | ⟨kmode, -⟩
    · exact .inr ⟨mode, k.trans (congrArg (fun x => { x with dirty := c.dirty }) h)⟩
    · rw [h] at kmode
      cases kmode

/-- R39, R99, R148: the forced evaluation of rooms in a list. -/
structure State.RoomsForced (s t : State) (rs : List RoomId) : Prop where
  lines : ∀ l, (s.line l).Grows (t.line l)
  forced : ∀ k m, s.mapping k = some m → m.room ∈ rs → (s.roomSetup m.room).enabled = true →
    t.sign k = (s.sign k).forcedTo ((s.computed m.room).digests m.role) .setup ∧
      ((s.sign k).fault = .none → k ∈ (t.line m.line).dirty)
  others : ∀ k, (∀ m, s.mapping k = some m → m.room ∈ rs → (s.roomSetup m.room).enabled = false) → t.sign k = s.sign k
  quiet : s.quiet.asleep = false ∨ (∀ r, (s.roomSetup r).enabled = true → roomWakes s.setup.quiet (s.computed r) = false) →
    t.quiet = s.quiet

theorem LineRecord.Grows.jobs {a b : LineRecord} (h : a.Grows b) : b.jobs = a.jobs := by
  rcases h.2 with e | ⟨-, e⟩ <;> rw [e] <;> rfl

theorem State.ReadyFree.of_grows {t : State} (h : s.ReadyFree) (lines : ∀ l, (s.line l).Grows (t.line l)) : t.ReadyFree :=
  fun l => (lines l).jobs ▸ h l

/-- R148: a wake cause wakes lines, and nothing else of them changes. -/
theorem State.wakeCause_grows (s : State) (l : LineId) : (s.line l).Grows (s.wakeCause.line l) := by
  unfold State.wakeCause
  split
  · rw [State.wakeLines_line]
    split
    · next quiet => exact ⟨fun _ h => h, .inr ⟨by simpa using quiet, rfl⟩⟩
    · exact .refl _
  · exact .refl _

/-- R39: the forced evaluation of one room. -/
theorem State.evaluateRoom_forced (free : s.ReadyFree) (r : RoomId) :
    s.RoomsForced (s.evaluateRoom r .setup true) [r] := by
  by_cases enabled : (s.roomSetup r).enabled = true
  · obtain ⟨b, hb⟩ : ∃ b, s.setEval r (s.computed r) = b := ⟨_, rfl⟩
    have line : ∀ l, b.line l = s.line l := fun l => by rw [← hb]; rfl
    have mapping : ∀ k, b.mapping k = s.mapping k := fun k => by rw [← hb]; rfl
    have sign : ∀ k, b.sign k = s.sign k := fun k => by rw [← hb]; rfl
    have hands := forced_signs r (s.computed r) .setup allSigns (List.nodup_finRange 96) (s := b) fun l => line l ▸ free l
    rw [← State.handRoom_forced b r (s.eval r)] at hands
    obtain ⟨u, hu⟩ : ∃ u, b.handRoom r (s.eval r) (s.computed r) .setup true = u := ⟨_, rfl⟩
    have room : s.evaluateRoom r .setup true = if roomWakes u.setup.quiet (s.computed r) then u.wakeCause else u := by
      have new : evaluation (s.roomSetup r) (s.timetable r) (shownNotice s.notices r) s.clock = s.computed r := rfl
      simp only [State.evaluateRoom, enabled, if_true, new, hb, hu]
    rw [hu] at hands
    have calm : u.quiet = s.quiet := by rw [hands.frame, ← hb]; rfl
    have setup : u.setup = s.setup := by rw [hands.frame, ← hb]; rfl
    have forced : ∀ k m, s.mapping k = some m → m.room ∈ [r] → (s.roomSetup m.room).enabled = true →
        u.sign k = (s.sign k).forcedTo ((s.computed m.room).digests m.role) .setup ∧
          ((s.sign k).fault = .none → k ∈ (u.line m.line).dirty) := by
      intro k m hm hr _
      obtain rfl := List.mem_singleton.1 hr
      rw [← sign]
      exact hands.forced k (List.mem_finRange k) m ((mapping k).trans hm) rfl
    have others : ∀ k, (∀ m, s.mapping k = some m → m.room ∈ [r] → (s.roomSetup m.room).enabled = false) →
        u.sign k = s.sign k := by
      refine fun k hk => (hands.others k (.inr fun m hm hr => ?_)).trans (sign k)
      have off := hk m ((mapping k).symm.trans hm) (List.mem_singleton.2 hr)
      rw [hr, enabled] at off
      cases off
    have grows : ∀ l, (s.line l).Grows (u.line l) := fun l => line l ▸ (hands.lines l).grows
    rw [room]
    split
    · next wakes =>
      refine ⟨fun l => (grows l).trans (u.wakeCause_grows l), fun k m hm hr on => ?_, fun k hk => ?_, fun h => ?_⟩
      · obtain ⟨own, queued⟩ := forced k m hm hr on
        exact ⟨(u.wakeCause_sign k).trans own, fun hf => (u.wakeCause_grows m.line).1 k (queued hf)⟩
      · exact (u.wakeCause_sign k).trans (others k hk)
      · rcases h with awake | none
        · rw [State.wakeCause_awake (by rw [calm]; exact awake)]
          exact calm
        · rw [setup, none r enabled] at wakes
          cases wakes
    · exact ⟨grows, forced, others, fun _ => calm⟩
  · have room : s.evaluateRoom r .setup true = s.setEval r .disabled := by
      rw [State.evaluateRoom, if_neg enabled]
      rfl
    rw [room]
    refine ⟨fun _ => .refl _, fun k m hm hr on => ?_, fun _ _ => rfl, fun _ => rfl⟩
    rw [List.mem_singleton.1 hr] at on
    exact absurd on enabled

theorem forced_rooms (rs : List RoomId) (once : rs.Nodup) : ∀ {s : State}, s.ReadyFree →
    s.RoomsForced (rs.foldl (fun s r => s.evaluateRoom r .setup true) s) rs := by
  induction rs with
  | nil => exact fun _ => ⟨fun _ => .refl _, nofun, fun _ _ => rfl, fun _ => rfl⟩
  | cons r rs ih =>
    intro s free
    obtain ⟨absent, once⟩ := List.nodup_cons.1 once
    have first := State.evaluateRoom_forced free r
    have desk := s.evaluateRoom_desk r .setup true
    rw [List.foldl_cons]
    generalize s.evaluateRoom r .setup true = u at first desk
    obtain ⟨lines, forced, others, quiet⟩ := ih once (free.of_grows first.lines)
    generalize rs.foldl (fun s r => s.evaluateRoom r .setup true) u = t at lines forced others quiet
    have mapping := mapping_of_desk desk
    have room := roomSetup_of_desk desk
    have computed := computed_of_desk desk
    refine ⟨fun l => (first.lines l).trans (lines l), fun k m hm hr on => ?_, fun k hk => ?_, fun h => ?_⟩
    · by_cases here : m.room = r
      · obtain ⟨own, queued⟩ := first.forced k m hm (List.mem_singleton.2 here) on
        have later : t.sign k = u.sign k := others k fun n hn hrs => by
          obtain rfl := Option.some.inj (((mapping k).symm.trans hn).symm.trans hm)
          exact absurd (here ▸ hrs) absent
        exact ⟨later.trans own, fun hf => (lines m.line).1 k (queued hf)⟩
      · have before : u.sign k = s.sign k := first.others k fun n hn hr1 => by
          obtain rfl := Option.some.inj (hn.symm.trans hm)
          exact absurd (List.mem_singleton.1 hr1) here
        have after := forced k m ((mapping k).trans hm) ((List.mem_cons.1 hr).resolve_left here) (by rw [room]; exact on)
        rw [before, computed] at after
        exact after
    · have before : u.sign k = s.sign k := first.others k fun m hm hr =>
        hk m hm (List.mem_cons.2 (.inl (List.mem_singleton.1 hr)))
      refine (others k fun m hm hr => ?_).trans before
      rw [room]
      exact hk m ((mapping k).symm.trans hm) (List.mem_cons.2 (.inr hr))
    · have before : u.quiet = s.quiet := first.quiet h
      refine (quiet ?_).trans before
      rw [before, setup_of_desk desk]
      simp only [room, computed]
      exact h

/-- R39, R99: the forced evaluation of every room, where no job is READY. -/
theorem State.forcedEvaluation_forced (free : s.ReadyFree) : s.RoomsForced s.forcedEvaluation allRooms :=
  forced_rooms allRooms (List.nodup_finRange 64) free

end Sys2Proof.Machine
end

section
/-! PROOFS. SOFT_CLEAR, the start-up sequence, the reset pin and the loss of power (R91, R181, R182). -/

namespace Sys2Proof.Machine

variable {s : State}

/-! ### An evaluation of an empty timetable -/

/-- R46: without entries and notices a board is OPEN, or UNTIMED while the clock is UNSET. -/
theorem evaluation_empty (rs : RoomSetup) (clock : Clock) :
    (evaluation rs [] none clock).phase = (if clock.isSet then .opened else .untimed) ∧ (evaluation rs [] none clock).gap = none := by
  cases h : clock.isSet <;> simp [evaluation, session, h, untimedSession, openSession, currentEntry, nextEntry, overlay, sessionBoard]

/-- R148: such a board is no wake cause. -/
theorem roomWakes_empty (q : QuietSetup) (rs : RoomSetup) (clock : Clock) : roomWakes q (evaluation rs [] none clock) = false := by
  obtain ⟨phase, gap⟩ := evaluation_empty rs clock
  unfold roomWakes
  rw [phase, gap]
  cases clock.isSet <;> rfl

theorem State.computed_empty {r : RoomId} (empty : s.timetable r = []) (none : s.notices = []) :
    s.computed r = evaluation (s.roomSetup r) [] .none s.clock := by
  rw [State.computed, empty, none]
  rfl

/-! ### Lines that keep still through a forced evaluation -/

/-- R148: a forced evaluation that leaves the quiet state keeps every line still. -/
theorem State.forcedEvaluation_still (h : s.forcedEvaluation.quiet = s.quiet) : AllStill s s.forcedEvaluation := by
  have stirred : Stirred s s.forcedEvaluation :=
    foldl_keeps (Stirred s) _ (fun t r ht => ht.trans (t.evaluateRoom_stirred r .setup true)) allRooms s (.refl s)
  rcases stirred with still | ⟨asleep, awake, -⟩
  · exact still
  · rw [← h, awake] at asleep
    cases asleep

/-! ### The start-up sequence -/

/-- R181: the hub at the end of the start-up sequence. -/
theorem State.startUp_started (s : State) (cause : StartCause) (baud : Baud) (address : Nat) (programmed : Bool) :
    Started s (s.startUp cause baud address programmed) cause baud address programmed := by
  obtain ⟨setup, hsetup⟩ : ∃ x, (if s.stored.valid = true then s.stored.image else .blank) = x := ⟨_, rfl⟩
  obtain ⟨store, hstore⟩ : ∃ x, (if s.stored.valid = true then StoreState.idle else .blank) = x := ⟨_, rfl⟩
  obtain ⟨c, hc⟩ : ∃ c, State.cold s.stored setup store cause baud address programmed s.pending = c := ⟨_, rfl⟩
  have start : s.startUp cause baud address programmed = c.forcedEvaluation := by
    rw [State.startUp, hsetup, hstore, hc]
  have clines : ∀ l, c.line l = LineRecord.fresh setup.lines[l] := fun l => by
    rw [← hc]
    simp [State.line, State.cold]
  have csign : ∀ i, c.sign i = SignRecord.fresh := fun i => by
    rw [← hc]
    simp [State.sign, State.cold]
  have cports : ∀ q, c.port q = PortRecord.fresh := fun q => by
    rw [← hc]
    simp [State.port, State.cold]
  have ctimetable : ∀ r, c.timetable r = [] := fun r => by
    rw [← hc]
    exact State.cold_timetable ..
  have cnotices : c.notices = [] := by rw [← hc]; rfl
  have cclock : c.clock = .unset := by rw [← hc]; rfl
  have csetup : c.setup = setup := by rw [← hc]; rfl
  have cquiet : c.quiet = if setup.quiet.enable then .awake else .disabled := by rw [← hc]; rfl
  have computed : ∀ r, c.computed r = evaluation (c.roomSetup r) [] none c.clock := fun r =>
    State.computed_empty (ctimetable r) cnotices
  have free : c.ReadyFree := fun l j hj => by
    rw [clines] at hj
    cases hj
  have boards := c.forcedEvaluation_eval
  obtain ⟨grows, forced, others, quiet⟩ := State.forcedEvaluation_forced free
  have quiet := quiet (.inl (by rw [cquiet]; cases setup.quiet.enable <;> rfl))
  have still := (State.forcedEvaluation_still quiet).lines
  have frame := State.eq_of_offBoard c.forcedEvaluation_offBoard
  rw [start]
  generalize c.forcedEvaluation = t at *
  have room : ∀ r, t.roomSetup r = c.roomSetup r := fun r => by rw [frame]; rfl
  have mapping : ∀ i, t.mapping i = c.mapping i := fun i => by rw [frame]; rfl
  have setup_eq : t.setup = setup := by rw [frame]; exact csetup
  have clock : t.clock = .unset := by rw [frame]; exact cclock
  have board : ∀ r, (t.roomSetup r).enabled = true → t.eval r = c.computed r := fun r on => by
    rw [boards, if_pos (room r ▸ on)]
  have kept : t = { State.cold s.stored setup store cause baud address programmed s.pending with
      evals := t.evals, signs := t.signs, lines := t.lines, quiet := t.quiet } := by
    rw [hc]
    exact frame
  refine ⟨congrArg State.run kept, congrArg State.resetPin kept, setup_eq.trans hsetup.symm,
    (congrArg State.store kept).trans hstore.symm, ⟨(congrArg State.stored kept :), (congrArg State.pending kept :)⟩,
    ⟨congrArg State.startCause kept, congrArg State.baud kept, congrArg State.address kept, congrArg State.programmed kept⟩,
    clock, ⟨fun r => by rw [frame]; exact ctimetable r, congrArg State.notices kept, congrArg State.pressure kept⟩,
    congrArg State.arb kept, fun r => ?_, fun r on => ?_, fun i m hm on => ?_, fun i hm => ?_, fun l => ?_, ?_, fun q => ?_⟩
  · rw [boards, computed, room, clock, cclock]
  · rw [board r on, computed, (evaluation_empty _ _).1, cclock]
    rfl
  · obtain ⟨own, queued⟩ := forced i m (mapping i ▸ hm) (List.mem_finRange _) (room m.room ▸ on)
    refine ⟨?_, queued (by rw [csign]; rfl)⟩
    rw [own, csign, board m.room on]
    rfl
  · rw [others i fun m hn => ?_, csign]
    rw [← mapping, hm] at hn
    cases hn
  · have line := still l
    have setting : t.lineSetup l = setup.lines[l] := congrArg (fun x : Setup => x.lines[l]) setup_eq
    rw [setting]
    have jobs := (grows l).jobs
    rw [clines] at line jobs
    exact ⟨line.mode, line.settle, line.budget, jobs, line.transmitter, line.roll, line.hold, line.extras, line.trips⟩
  · rw [quiet, cquiet, setup_eq]
  · have same : t.port q = c.port q := by rw [frame]; rfl
    rw [same, cports]
    rfl

/-! ### A hub that stops -/

theorem State.halt_line (s : State) (run : RunState) (pin : Bool) (l : LineId) : ((s.halt run pin).line l).mode = .off := by
  simp [State.line, State.halt, State.cold, Setup.blank, LineRecord.fresh]

/-! ### SOFT_CLEAR -/

/-- R182, steps 5 and 6, seen at a sign and at a line. -/
theorem State.untested_sign (s : State) (i : SignId) : s.untested.sign i = { s.sign i with test := none } := by
  simp [State.sign, State.untested]

theorem State.untested_line (s : State) (l : LineId) :
    s.untested.line l = { s.line l with jobs := (s.line l).jobs.filter Job.inFlight } := by
  simp only [State.line, State.untested, Fin.getElem_fin, Vector.getElem_map]
  rfl

/-- R182: what SOFT_CLEAR leaves of a hub, but for the answer. -/
structure State.SoftCleared (s t : State) : Prop where
  frame : t = { s with
    arb := s.arb.cleared, ports := t.ports, timetables := t.timetables, notices := t.notices, pressure := t.pressure
    evals := t.evals, signs := t.signs, lines := t.lines, startCause := .soft }
  timetables : ∀ r, t.timetable r = []
  notices : t.notices = []
  pressed : Repressed s t
  ports : ∀ q, t.port q = { s.port q with raised := (t.port q).raised }
  boards : ∀ r, t.eval r = if (s.roomSetup r).enabled = true then evaluation (s.roomSetup r) [] none s.clock else .disabled
  signs : ∀ i m, s.mapping i = some m → (s.roomSetup m.room).enabled = true → t.sign i = { s.sign i with
    test := none, wanted := (t.eval m.room).digests m.role, delivered := none, origin := .setup }
  jobs : ∀ l, (t.line l).jobs = (s.line l).jobs.filter Job.inFlight
  lines : ∀ l, (t.line l).mode = (s.line l).mode ∧ (t.line l).budget = (s.line l).budget ∧
    (t.line l).transmitter = (s.line l).transmitter ∧ (t.line l).trips = (s.line l).trips

theorem State.softClear_cleared (s : State) : s.SoftCleared s.softClear := by
  obtain ⟨e, he⟩ : ∃ e, s.emptied = e := ⟨_, rfl⟩
  have pressed := e.repress_repressed
  have ports := e.repress_port
  have repressed := e.repress_eq
  obtain ⟨p, hp⟩ : ∃ p, e.repress = p := ⟨_, rfl⟩
  rw [hp] at pressed ports repressed
  obtain ⟨u, hu⟩ : ∃ u, p.untested = u := ⟨_, rfl⟩
  have soft : s.softClear = { u.forcedEvaluation with startCause := .soft } := by rw [State.softClear, he, hp, hu]
  have uframe : u = { p with signs := u.signs, lines := u.lines } := by rw [← hu]; rfl
  have pframe : p = { s with
      arb := s.arb.cleared, timetables := p.timetables, notices := p.notices, pressure := p.pressure, ports := p.ports } := by
    have same : p.timetables = e.timetables ∧ p.notices = e.notices := by rw [repressed]; exact ⟨rfl, rfl⟩
    rw [same.1, same.2]
    refine repressed.trans ?_
    rw [← he]
    rfl
  have ptimetable : ∀ r, p.timetable r = [] := fun r => by
    rw [repressed, ← he]
    simp [State.timetable, State.emptied]
  have pnotices : p.notices = [] := by rw [repressed, ← he]; rfl
  have timetable : ∀ r, u.timetable r = [] := fun r => by rw [uframe]; exact ptimetable r
  have notices : u.notices = [] := by rw [uframe]; exact pnotices
  have roomSetup : ∀ r, u.roomSetup r = s.roomSetup r := fun r => by rw [uframe, pframe]; rfl
  have mapping : ∀ i, u.mapping i = s.mapping i := fun i => by rw [uframe, pframe]; rfl
  have clock : u.clock = s.clock := by rw [uframe, pframe]
  have sign : ∀ i, u.sign i = { s.sign i with test := none } := fun i => by
    rw [← hu, State.untested_sign, pframe]
    rfl
  have line : ∀ l, u.line l = { s.line l with jobs := (s.line l).jobs.filter Job.inFlight } := fun l => by
    rw [← hu, State.untested_line, pframe]
    rfl
  have computed : ∀ r, u.computed r = evaluation (s.roomSetup r) [] none s.clock := fun r => by
    rw [State.computed_empty (timetable r) notices, roomSetup, clock]
  have free : u.ReadyFree := fun l j hj => by
    rw [line] at hj
    simpa [Job.inFlight] using (List.mem_filter.1 hj).2
  have boards := u.forcedEvaluation_eval
  obtain ⟨grows, forced, -, quiet⟩ := State.forcedEvaluation_forced free
  have quiet := quiet (.inr fun r _ => by rw [computed]; exact roomWakes_empty _ _ _)
  have still := (State.forcedEvaluation_still quiet).lines
  have frame := State.eq_of_offBoard u.forcedEvaluation_offBoard
  rw [soft]
  generalize u.forcedEvaluation = t at *
  have tframe : t = { p with evals := t.evals, signs := t.signs, lines := t.lines } := by
    rw [quiet] at frame
    exact frame.trans (congrArg (fun w : State => { w with evals := t.evals, signs := t.signs, lines := t.lines }) uframe)
  have tports : t.ports = p.ports := by rw [tframe]
  have pressure : e.pressure = s.pressure := by rw [← he]; rfl
  have port : ∀ q, e.port q = s.port q := fun q => by rw [← he]; rfl
  refine ⟨?_, fun r => by rw [tframe]; exact ptimetable r, by rw [tframe]; exact pnotices, ⟨?_, fun q => ?_⟩, fun q => ?_,
    fun r => ?_, fun i m hm on => ?_, fun l => ?_, fun l => ?_⟩
  · have kept : t.timetables = p.timetables ∧ t.notices = p.notices ∧ t.pressure = p.pressure := by
      rw [tframe]
      exact ⟨rfl, rfl, rfl⟩
    refine Eq.trans (congrArg (fun w : State => { w with startCause := .soft }) tframe) ?_
    dsimp only
    rw [tports, kept.1, kept.2.1, kept.2.2]
    exact congrArg (fun w : State => { w with
      evals := t.evals, signs := t.signs, lines := t.lines, startCause := .soft }) pframe
  · have level := pressed.level
    rw [pressure] at level
    rw [tframe]
    exact level
  · have pace := pressed.pace q
    rw [pressure, port] at pace
    rw [tframe]
    exact pace
  · have here := ports q
    rw [port] at here
    rw [tframe]
    exact here
  · exact (boards r).trans (by rw [computed, roomSetup])
  · have own := (forced i m ((mapping i).trans hm) (List.mem_finRange _) (by rw [roomSetup]; exact on)).1
    have board : t.eval m.room = u.computed m.room := by rw [boards, if_pos (by rw [roomSetup]; exact on)]
    refine own.trans ?_
    rw [sign, ← board]
    rfl
  · exact (grows l).jobs.trans (by rw [line])
  · have same := still l
    rw [line] at same
    exact ⟨same.mode, same.budget, same.transmitter, same.trips⟩

/-- Settles O60. -/
theorem hubIsClearedStartedAndStopped : Obligations.HubIsClearedStartedAndStopped := by
  unfold Obligations.HubIsClearedStartedAndStopped
  refine ⟨fun s h a => ?_, fun s straps baud => ⟨fun off pin => ?_, fun off pin => ?_, fun on => ?_⟩,
    fun s => ⟨fun held => ?_, fun free => ?_, fun running => ?_, fun stopped => ?_⟩, fun s on => ?_⟩
  · have cleared := (s.take h.port).softClear_cleared
    obtain ⟨u, hu⟩ : ∃ u, (s.take h.port).softClear = u := ⟨_, rfl⟩
    have serve : serveClear (s.take h.port) = okWith u .empty := by rw [serveClear, hu]
    rw [hu] at cleared
    obtain ⟨frame, timetables, notices, pressed, ports, boards, signs, jobs, lines⟩ := cleared
    refine ⟨(s.take h.port).answer h.port 0x3D (okWith u .empty), congrArg Host.Outcome.next ?_, ?_, ?_, ?_, timetables, notices,
      pressed.of_take.updPort _ fun _ => rfl, ?_, ?_, ?_, ?_, State.answer_portsAnswered ports _ _, ?_⟩
    · rw [State.request_accepted a, serve]
    · exact s.answer_replied h 0x3D (okWith u .empty)
    · exact congrArg State.startCause frame
    · refine (congrArg State.arb frame : u.arb = (s.take h.port).arb.cleared).trans ?_
      rw [State.take_eq]
      dsimp only
      unfold Arbiter.restarted
      split <;> rfl
    · intro r
      have here := boards r
      have clock : (s.take h.port).clock = s.clock := by rw [State.take_eq]
      rw [State.take_roomSetup, clock] at here
      exact here
    · intro i m hm on
      have here := signs i m ((s.take_mapping h.port i).trans hm) (by rw [State.take_roomSetup]; exact on)
      rw [State.take_sign] at here
      exact here
    · intro l _
      exact (jobs l).trans (by rw [State.take_line])
    · intro l
      have := lines l
      rw [State.take_line] at this
      exact this
    · have whole : u = { s with
          arb := u.arb, ports := u.ports, timetables := u.timetables, notices := u.notices, pressure := u.pressure
          evals := u.evals, signs := u.signs, lines := u.lines, startCause := u.startCause } := by
        have arb : u.arb = (s.take h.port).arb.cleared := congrArg State.arb frame
        have cause : u.startCause = .soft := congrArg State.startCause frame
        rw [State.take_eq] at frame arb
        rw [arb, cause]
        exact frame
      exact congrArg (fun w : State => { w with ports := ((s.take h.port).answer h.port 0x3D (okWith u .empty)).ports }) whole
  · refine ⟨_, congrArg Host.Outcome.next ?_, s.startUp_started .power baud straps.val false⟩
    rw [if_neg (not_not.2 off), pin]
    rfl
  · refine congrArg Host.Outcome.next ?_
    rw [if_neg (not_not.2 off), if_pos pin]
  · exact congrArg Host.Outcome.next (if_pos on)
  · exact ⟨_, congrArg Host.Outcome.next (if_pos held), s.startUp_started .pin s.baud s.address s.programmed⟩
  · exact congrArg Host.Outcome.next (if_neg free)
  · exact ⟨_, congrArg Host.Outcome.next (if_pos running), rfl, rfl, rfl, rfl, rfl, rfl, rfl, s.halt_line .held true⟩
  · exact congrArg Host.Outcome.next (if_neg stopped)
  · exact ⟨_, congrArg Host.Outcome.next (if_neg on), rfl, rfl, rfl, rfl, rfl, s.halt_line .off s.resetPin⟩

end Sys2Proof.Machine
end

section
/-! PROOFS. SAVE_SETUP and LOAD_SETUP with their completions (R5, R105, R177 to R180). A load is followed through its steps: rooms
and signs, lines, settings, quiet controller, forced evaluation. -/

namespace Sys2Proof.Machine

variable {s : State}

/-! ### Saves and refused loads -/

/-- R179: some job list holds a job. -/
theorem State.anyJob_iff (s : State) : s.anyJob = true ↔ ∃ l, (s.line l).jobs ≠ [] := by
  constructor
  · intro h
    by_contra none
    have : s.anyJob = false := by
      rw [State.anyJob, List.any_eq_false]
      intro a ha
      obtain ⟨l, hl, rfl⟩ := List.mem_iff_getElem.1 ha
      have jobless := not_exists.1 none ⟨l, by simpa using hl⟩
      simpa [State.line] using jobless
    rw [this] at h
    cases h
  · rintro ⟨l, hl⟩
    by_contra none
    exact hl (State.jobless_of_anyJob (by simpa using none) l)

theorem State.take_holder (s : State) (p : Port) : (s.take p).arb.holder = s.arb.holder := by
  rw [State.take_eq]
  dsimp only
  unfold Arbiter.restarted
  split <;> rfl

/-- R174: the outcome of a save or a load at its port. -/
theorem State.storeOutcome_eq (s : State) (p : Port) (op : StoreOp) (st : Status) : s.storeOutcome p op st =
    s.setPort p { s.port p with outcome := some (op, st), raised := (s.port p).raised ||| Source.flag .store } := by
  simp [State.storeOutcome, State.raise, State.updPort, State.setPort, State.port]

/-- R179: the block's answer to LOAD_SETUP while a grant or a job stands. -/
theorem serveLoad_busy {p : Port} (h : s.arb.holder ≠ none ∨ ∃ l, (s.line l).jobs ≠ []) : serveLoad p s = refuse s .busy := by
  unfold serveLoad
  rw [← s.anyJob_iff] at h
  by_cases held : s.arb.holder.isSome = true
  · rw [if_pos held]
  · rw [if_neg held, if_pos (h.resolve_left fun other => held (Option.isSome_iff_ne_none.2 other))]

theorem serveLoad_ok {p : Port} (holder : s.arb.holder = none) (jobless : ∀ l, (s.line l).jobs = []) :
    serveLoad p s = okWith { s with store := .loading p } .empty := by
  have none : ¬ s.anyJob = true := by
    rw [s.anyJob_iff]
    rintro ⟨l, hl⟩
    exact hl (jobless l)
  rw [serveLoad, if_neg (by simp [holder]), if_neg none]

/-! ### The lines of a load -/

/-- R127, R180 step 3: lines of a list take their settings. -/
structure State.LinesLoaded (b t : State) (ls : List LineId) (new : Setup) : Prop where
  frame : t = { b with setup := { b.setup with lines := t.setup.lines }, lines := t.lines }
  own : ∀ l ∈ ls, t.lineSetup l = new.lines[l] ∧ t.line l = (b.line l).reconfigure (b.lineSetup l) new.lines[l]
  others : ∀ l, l ∉ ls → t.lineSetup l = b.lineSetup l ∧ t.line l = b.line l

theorem loaded_lines (new : Setup) (ls : List LineId) (once : ls.Nodup) : ∀ b : State,
    b.LinesLoaded (ls.foldl (fun s l => s.reconfigureLine l new.lines[l]) b) ls new := by
  induction ls with
  | nil => exact fun b => ⟨rfl, nofun, fun _ _ => ⟨rfl, rfl⟩⟩
  | cons l ls ih =>
    intro b
    obtain ⟨absent, once⟩ := List.nodup_cons.1 once
    obtain ⟨c, hc⟩ : ∃ c, b.reconfigureLine l new.lines[l] = c := ⟨_, rfl⟩
    have cframe : c = { b with setup := { b.setup with lines := c.setup.lines }, lines := c.lines } := by rw [← hc]; rfl
    have here : c.lineSetup l = new.lines[l] ∧ c.line l = (b.line l).reconfigure (b.lineSetup l) new.lines[l] := by
      rw [← hc]
      exact ⟨State.lineSetup_setLineSetup_self b l _, State.line_updLine_self _ l _⟩
    have there : ∀ k, k ≠ l → c.lineSetup k = b.lineSetup k ∧ c.line k = b.line k := fun k hk => by
      rw [← hc]
      exact ⟨State.lineSetup_setLineSetup_of_ne b hk _, State.line_updLine_of_ne _ hk _⟩
    rw [List.foldl_cons, hc]
    obtain ⟨frame, own, others⟩ := ih once c
    generalize ls.foldl (fun s l => s.reconfigureLine l new.lines[l]) c = t at frame own others
    refine ⟨?_, fun k hk => ?_, fun k hk => ?_⟩
    · exact frame.trans (congrArg (fun w : State => { w with
        setup := { w.setup with lines := t.setup.lines }, lines := t.lines }) cframe)
    · by_cases hl : k = l
      · subst hl
        obtain ⟨set, line⟩ := others k absent
        exact ⟨set.trans here.1, line.trans here.2⟩
      · obtain ⟨set, line⟩ := own k ((List.mem_cons.1 hk).resolve_left hl)
        rw [(there k hl).1, (there k hl).2] at line
        exact ⟨set, line⟩
    · obtain ⟨hl, hk⟩ := not_or.1 (mt List.mem_cons.2 hk)
      obtain ⟨set, line⟩ := others k hk
      exact ⟨set.trans (there k hl).1, line.trans (there k hl).2⟩

theorem State.loadLines_eq (s : State) (new : Setup) : s.loadLines new = { s with
      setup := { s.setup with lines := new.lines, grouping := new.grouping }, lines := (s.loadLines new).lines } ∧
    ∀ l, (s.loadLines new).line l = (s.line l).reconfigure (s.lineSetup l) new.lines[l] := by
  obtain ⟨frame, own, -⟩ := loaded_lines new allLines (List.nodup_finRange 6) (s.setGrouping new.grouping)
  have fold : s.loadLines new = allLines.foldl (fun s l => s.reconfigureLine l new.lines[l]) (s.setGrouping new.grouping) := rfl
  rw [← fold] at frame own
  generalize s.loadLines new = t at frame own
  have lines : t.setup.lines = new.lines := Vector.ext fun n hn => (own ⟨n, hn⟩ (List.mem_finRange _)).1
  refine ⟨?_, fun l => (own l (List.mem_finRange l)).2⟩
  rw [lines] at frame
  exact frame

/-! ### The ports of a load -/

/-- R170, R180 step 5: ports of a list take their settings. -/
structure State.PortsLoaded (b t : State) (ps : List Port) (new : Setup) : Prop where
  frame : t = { b with setup := { b.setup with ports := t.setup.ports }, ports := t.ports }
  own : ∀ p ∈ ps, t.portSetup p = new.ports[portIndex p]
  others : ∀ p, p ∉ ps → t.portSetup p = b.portSetup p
  raised : ∀ q, (t.port q).raised = (b.port q).raised

theorem State.loadPort_loaded (b : State) (new : Setup) (p : Port) : b.PortsLoaded (b.loadPort new p) [p] new := by
  have stored : b.PortsLoaded (b.setPortSetup p new.ports[portIndex p]) [p] new := by
    refine ⟨rfl, fun q hq => ?_, fun q hq => ?_, fun _ => rfl⟩
    · rw [State.portSetup_setPortSetup, if_pos (List.mem_singleton.1 hq), List.mem_singleton.1 hq]
    · rw [State.portSetup_setPortSetup, if_neg (by simpa using hq)]
  unfold State.loadPort
  dsimp only
  split
  · exact stored
  · obtain ⟨frame, own, others, raised⟩ := stored
    refine ⟨?_, own, others, fun q => (State.updPort_raised _ p (fun x => ?_) q).trans (raised q)⟩
    · rfl
    · split <;> rfl

theorem loaded_ports (new : Setup) (ps : List Port) (once : ps.Nodup) : ∀ b : State,
    b.PortsLoaded (ps.foldl (fun s p => s.loadPort new p) b) ps new := by
  induction ps with
  | nil => exact fun b => ⟨rfl, nofun, fun _ _ => rfl, fun _ => rfl⟩
  | cons p ps ih =>
    intro b
    obtain ⟨absent, once⟩ := List.nodup_cons.1 once
    obtain ⟨cframe, here, there, craised⟩ := b.loadPort_loaded new p
    rw [List.foldl_cons]
    generalize b.loadPort new p = c at cframe here there craised
    obtain ⟨frame, own, others, raised⟩ := ih once c
    generalize ps.foldl (fun s p => s.loadPort new p) c = t at frame own others raised
    refine ⟨?_, fun q hq => ?_, fun q hq => ?_, fun q => (raised q).trans (craised q)⟩
    · exact frame.trans (congrArg (fun w : State => { w with
        setup := { w.setup with ports := t.setup.ports }, ports := t.ports }) cframe)
    · by_cases hp : q ∈ ps
      · exact own q hp
      · exact (others q hp).trans (here q (List.mem_singleton.2 ((List.mem_cons.1 hq).resolve_right hp)))
    · obtain ⟨hp, hq⟩ := not_or.1 (mt List.mem_cons.2 hq)
      exact (others q hq).trans (there q (by simpa using hp))

theorem State.loadSettings_eq (s : State) (new : Setup) : s.loadSettings new = { s with
      setup := { s.setup with fault := new.fault, ports := new.ports, arbiter := new.arbiter }
      ports := (s.loadSettings new).ports } ∧
    ∀ q, ((s.loadSettings new).port q).raised = (s.port q).raised := by
  obtain ⟨frame, own, -, raised⟩ := loaded_ports new allPorts (by decide) { s with setup := { s.setup with fault := new.fault } }
  obtain ⟨t, ht⟩ : ∃ t, allPorts.foldl (fun s p => s.loadPort new p) { s with setup := { s.setup with fault := new.fault } } = t :=
    ⟨_, rfl⟩
  have load : s.loadSettings new = { t with setup := { t.setup with arbiter := new.arbiter } } := by rw [← ht]; rfl
  rw [ht] at frame own raised
  have ports : t.setup.ports = new.ports := by
    refine Vector.ext fun n hn => ?_
    match n, hn with
    | 0, _ => exact own .mp0 (by decide)
    | 1, _ => exact own .mp1 (by decide)
    | 2, _ => exact own .mp2 (by decide)
  rw [load]
  rw [ports] at frame
  exact ⟨congrArg (fun w : State => { w with setup := { w.setup with arbiter := new.arbiter } }) frame, raised⟩

/-! ### The quiet controller of a load -/

theorem State.wakeLines_grows (s : State) (l : LineId) : (s.line l).Grows (s.wakeLines.line l) := by
  rw [State.wakeLines_line]
  split
  · next quiet => exact ⟨fun _ h => h, .inr ⟨by simpa using quiet, rfl⟩⟩
  · exact .refl _

/-- R146: the move of the quiet controller may wake lines, and nothing else of them changes. -/
theorem State.moveQuiet_grows (s : State) (enable : Bool) (l : LineId) : (s.line l).Grows ((s.moveQuiet enable).line l) := by
  unfold State.moveQuiet
  split
  · exact .refl _
  · exact .refl _
  · exact s.wakeLines_grows l
  · exact s.wakeLines_grows l
  · rw [State.exitCheck_eq]
    split
    · exact s.wakeLines_grows l
    · exact .refl _

/-! ### A load that is applied -/

/-- R180: a line of a load before any waking: its queue is empty, its lists forget the mapped positions, and its settings are
taken. -/
def State.loadedLine (s : State) (new : Setup) (l : LineId) : LineRecord :=
  ({ (s.line l).unlist (new.places l) with dirty := [] } : LineRecord).reconfigure (s.lineSetup l) new.lines[l]

/-- R180: the hub before the forced evaluation of a load. -/
structure State.Loaded (s t : State) (new : Setup) : Prop where
  frame : t = { s with
    setup := new, timetables := t.timetables, evals := t.evals, signs := t.signs, lines := t.lines, pressure := t.pressure
    ports := t.ports, quiet := t.quiet }
  timetables : ∀ r, t.timetable r = if new.rooms[r].enabled then s.timetable r else []
  signs : ∀ i, t.sign i = (s.sign i).loaded (s.mapping i) new.signMap[i]
  lines : ∀ l, (s.loadedLine new l).Grows (t.line l)
  pressed : Repressed s t

theorem freeEntries_of_timetables {s t : State} (h : t.timetables = s.timetables) : t.freeEntries = s.freeEntries := by
  rw [State.freeEntries, State.usedEntries, h]
  rfl

theorem freeCells_of_texts {s t : State} (rooms : t.setup.rooms = s.setup.rooms) (timetables : t.timetables = s.timetables)
    (notices : t.notices = s.notices) : t.freeCells = s.freeCells := by
  rw [State.freeCells, State.usedCells, State.entryCells, State.noticeCells, rooms, timetables, notices]
  rfl

theorem State.load_loaded (s : State) (new : Setup) : s.Loaded
    (((((s.loadRooms new).loadSigns new).loadLines new).loadSettings new).storeQuiet new.quiet).quietSettled new := by
  have first := s.loaded_frame new
  have timetable := s.loaded_timetable new
  obtain ⟨a, ha⟩ : ∃ a, (s.loadRooms new).loadSigns new = a := ⟨_, rfl⟩
  rw [ha] at first timetable
  obtain ⟨bframe, blines⟩ := a.loadLines_eq new
  obtain ⟨cframe, craised⟩ := (a.loadLines new).loadSettings_eq new
  rw [ha]
  generalize (a.loadLines new).loadSettings new = c at cframe craised
  generalize a.loadLines new = b at bframe blines cframe craised
  have dframe := ({ c with setup := { c.setup with quiet := new.quiet } } : State).moveQuiet_eq new.quiet.enable
  have dlines := ({ c with setup := { c.setup with quiet := new.quiet } } : State).moveQuiet_grows new.quiet.enable
  have eframe := (c.storeQuiet new.quiet).quietSettled_eq.1
  have dfold : ({ c with setup := { c.setup with quiet := new.quiet } } : State).moveQuiet new.quiet.enable =
    c.storeQuiet new.quiet := rfl
  rw [dfold] at dframe dlines
  have elines : (c.storeQuiet new.quiet).quietSettled.lines = (c.storeQuiet new.quiet).lines :=
    (c.storeQuiet new.quiet).quietSettled_lines
  generalize (c.storeQuiet new.quiet).quietSettled = e at eframe elines
  generalize c.storeQuiet new.quiet = d at dframe dlines eframe elines
  have afull : a = { s with
      setup := { s.setup with rooms := new.rooms, signMap := new.signMap }, timetables := a.timetables, evals := a.evals
      signs := a.signs, lines := a.lines, pressure := a.pressure, ports := a.ports } := by
    rw [first]
  have efull : e = { s with
      setup := new, timetables := a.timetables, evals := a.evals, signs := a.signs, lines := d.lines, pressure := a.pressure
      ports := c.ports, quiet := e.quiet } := by
    have bfull := bframe.trans (congrArg (fun w : State => { w with
      setup := { w.setup with lines := new.lines, grouping := new.grouping }, lines := b.lines }) afull)
    have cfull := cframe.trans (congrArg (fun w : State => { w with
      setup := { w.setup with fault := new.fault, ports := new.ports, arbiter := new.arbiter }, ports := c.ports }) bfull)
    have dfull := dframe.trans (congrArg (fun w : State => { w with
      setup := { w.setup with quiet := new.quiet }, quiet := d.quiet, lines := d.lines }) cfull)
    exact eframe.trans (congrArg (fun w : State => { w with quiet := e.quiet }) dfull)
  have timetables : e.timetables = a.timetables := (congrArg State.timetables efull :)
  have signs : e.signs = a.signs := (congrArg State.signs efull :)
  have evals : e.evals = a.evals := (congrArg State.evals efull :)
  have pressure : e.pressure = a.pressure := (congrArg State.pressure efull :)
  have ports : e.ports = c.ports := (congrArg State.ports efull :)
  refine ⟨?_, fun r => ?_, fun i => ?_, fun l => ?_, ?_⟩
  · rw [timetables, signs, evals, pressure, ports, elines]
    exact efull
  · rw [← timetable, State.timetable, timetables]
    rfl
  · rw [State.sign, signs, first]
    simp
  · have line : c.line l = s.loadedLine new l := by
      have same : c.line l = b.line l := by rw [cframe]; rfl
      have old : a.lineSetup l = s.lineSetup l := by rw [first]; rfl
      have before : a.line l = { (s.line l).unlist (new.places l) with dirty := [] } := by
        rw [State.line, first]
        simp
      rw [same, blines, old, before]
      rfl
    have grows := dlines l
    rw [State.line, elines, ← line]
    exact grows
  · obtain ⟨x, hx⟩ : ∃ x : State, { s with
        setup := { s.setup with rooms := new.rooms }
        timetables := Vector.ofFn (fun r : RoomId => if new.rooms[r].enabled then s.timetable r else [])
        evals := Vector.ofFn (fun r : RoomId => if new.rooms[r].enabled then s.eval r else .disabled) } = x := ⟨_, rfl⟩
    have rooms : s.loadRooms new = x.repress := by rw [← hx]; rfl
    have apressure : a.pressure = x.repress.pressure := by rw [first, rooms]
    have aports : a.ports = x.repress.ports := by rw [first, rooms]
    have repressed := x.repress_eq
    obtain ⟨level, pace⟩ := x.repress_repressed
    have entries : e.freeEntries = x.repress.freeEntries := freeEntries_of_timetables (by
      rw [timetables, first, repressed, ← hx])
    have cells : e.freeCells = x.repress.freeCells := freeCells_of_texts (by rw [efull, repressed, ← hx])
      (by rw [timetables, first, repressed, ← hx]) (by rw [efull, repressed, ← hx])
    have flags : ∀ q, (e.port q).raised = (x.repress.port q).raised := fun q => by
      have port : e.port q = c.port q := congrArg (·[portIndex q]) ports
      have bport : b.port q = a.port q := by rw [bframe]; rfl
      have aport : a.port q = x.repress.port q := congrArg (·[portIndex q]) aports
      rw [port, craised, bport, aport]
    have before : x.pressure = s.pressure := by rw [← hx]
    have bports : ∀ q, x.port q = s.port q := fun q => by rw [← hx]; rfl
    refine ⟨?_, fun q => ?_⟩
    · rw [pressure, apressure, entries, cells, level, before]
    · rw [flags, pressure, apressure, pace, before, bports]

end Sys2Proof.Machine
end

section
/-! PROOFS. The outcome of a load, and SAVE_SETUP and LOAD_SETUP as a whole (R5, R105, R177 to R180). -/

namespace Sys2Proof.Machine

variable {s : State}

/-! ### The outcome -/

/-- R179: the conditions of a load, in their order. -/
theorem State.loadStatus_badStore (h : s.stored.valid = false) : s.loadStatus = .badStore := by
  unfold State.loadStatus
  exact if_pos (by rw [h]; rfl)

theorem State.loadStatus_busy (valid : s.stored.valid = true) (h : s.arb.holder ≠ none ∨ ∃ l, (s.line l).jobs ≠ []) :
    s.loadStatus = .busy := by
  unfold State.loadStatus
  dsimp only
  rw [if_neg (by simp [valid]), if_pos (by rw [Bool.or_eq_true, s.anyJob_iff, Option.isSome_iff_ne_none]; exact h)]

theorem State.loadStatus_free (valid : s.stored.valid = true) (holder : s.arb.holder = none) (jobless : s.Jobless) :
    s.loadStatus = if s.freeCells + nameCells s.setup.rooms + s.doomedCells s.stored.image < nameCells s.stored.image.rooms then
      .textFull else .ok := by
  have free : ¬ (s.arb.holder.isSome || s.anyJob) = true := by
    rw [Bool.or_eq_true, s.anyJob_iff, holder]
    rintro (h | ⟨l, hl⟩)
    · cases h
    · exact hl (jobless l)
  unfold State.loadStatus
  dsimp only
  rw [if_neg (by simp [valid]), if_neg free]

/-- R179: the completion of a load that fails. -/
theorem State.completeLoad_failed {p : Port} (loading : s.store = .loading p) (h : s.loadStatus ≠ .ok) :
    s.completeLoad = { s.setPort p { s.port p with
      outcome := some (.load, s.loadStatus), raised := (s.port p).raised ||| Source.flag .store } with
      store := if s.loadStatus = Status.badStore then .blank else .idle } := by
  simp only [State.completeLoad, loading, if_neg h, State.storeOutcome_eq]
  rfl

theorem State.completeLoad_applied {p : Port} (loading : s.store = .loading p) (h : s.loadStatus = .ok) :
    s.completeLoad = { (s.applySetup s.stored.image).setPort p { (s.applySetup s.stored.image).port p with
      outcome := some (.load, .ok), raised := ((s.applySetup s.stored.image).port p).raised ||| Source.flag .store } with
      store := .idle } := by
  have complete : s.completeLoad =
      ({ s.applySetup s.stored.image with store := .idle } : State).storeOutcome p .load .ok := by
    simp only [State.completeLoad, loading, h, if_true]
    rw [if_neg nofun]
  rw [complete, State.storeOutcome_eq]
  generalize s.applySetup s.stored.image = a
  rfl

/-! ### What a load leaves of a line -/

theorem LineRecord.Grows.kept {a b : LineRecord} (h : a.Grows b) :
    b.budget = a.budget ∧ b.trips = a.trips ∧ b.extras = a.extras := by
  rcases h.2 with e | ⟨-, e⟩ <;> rw [e] <;> exact ⟨rfl, rfl, rfl⟩

theorem LineRecord.Grows.mode {a b : LineRecord} (h : a.Grows b) (awake : a.mode ≠ .quiet) : b.mode = a.mode := by
  rcases h.2 with e | ⟨quiet, -⟩
  · rw [e]
  · exact absurd quiet awake

/-- R105: the loaded map places a sign at a position of a line. -/
theorem Setup.places_eq_false (new : Setup) (l : LineId) (pos : Position) :
    new.places l pos = false ↔ ∀ (i : SignId) m, new.signMap[i] = some m → m.line = l → m.position ≠ pos := by
  simp [Setup.places, allSigns, List.any_eq_false, Option.any_eq_false]

/-- R127, R133, R180 step 3: a line without jobs under its loaded settings. -/
theorem State.loadedLine_kept (jobless : s.Jobless) (new : Setup) (l : LineId) :
    (s.loadedLine new l).jobs = [] ∧ (s.loadedLine new l).trips = (s.line l).trips ∧
    (∀ pos, pos ∈ (s.loadedLine new l).extras ↔ pos ∈ (s.line l).extras ∧ new.places l pos = false) ∧
    (s.loadedLine new l).budget = clampBudget new.lines[l].capacity (s.line l).budget ∧
    (new.lines[l].enabled = false → (s.loadedLine new l).mode = .off) ∧
    (new.lines[l].enabled = true → (s.line l).mode = .off → (s.loadedLine new l).mode = .waking) := by
  obtain ⟨a, ha⟩ : ∃ a, ({ (s.line l).unlist (new.places l) with dirty := [] } : LineRecord).limited (s.lineSetup l)
    new.lines[l] = a := ⟨_, rfl⟩
  have load : s.loadedLine new l = a.switched new.lines[l].enabled := by
    rw [State.loadedLine, LineRecord.reconfigure_limited, ha]
  have jobs : a.jobs = [] := by rw [← ha]; exact jobless l
  have mode : a.mode = (s.line l).mode := by rw [← ha]; rfl
  have idle : a.inFlight = 0 := by simp [LineRecord.inFlight, jobs]
  obtain ⟨budget, trips, extras⟩ := LineRecord.switched_kept (enabled := new.lines[l].enabled) fun _ => idle
  have none : (s.loadedLine new l).jobs = [] := LineRecord.reconfigure_jobs
    (a := { (s.line l).unlist (new.places l) with dirty := [] }) (jobless l) (s.lineSetup l) new.lines[l]
  refine ⟨none, ?_, fun pos => ?_, ?_, fun off => ?_, fun on was => ?_⟩
  · rw [load, trips, ← ha]
    rfl
  · rw [load, extras, ← ha]
    exact (s.line l).mem_unlist_extras _ pos
  · rw [load, budget, ← ha]
    rfl
  · rw [load, off]
    by_cases was : a.mode = .off
    · rw [LineRecord.switched_off was, was]
    · rw [LineRecord.switched_disable was]
      exact (LineRecord.disable_disabled idle).mode
  · rw [load, on, LineRecord.switched_wakes (mode.trans was)]
    rfl

/-! ### What a load leaves of a sign -/

theorem SignRecord.loaded_test (g : SignRecord) (old : Option Mapping) (m : Mapping) : (g.loaded old (some m)).test = g.test := by
  unfold SignRecord.loaded
  dsimp only
  split <;> rfl

theorem SignRecord.loaded_same {g : SignRecord} {n m : Mapping} (line : n.line = m.line) (position : n.position = m.position) :
    g.loaded (some n) (some m) = g := by
  simp [SignRecord.loaded, samePlace, line, position]

theorem SignRecord.loaded_moved {g : SignRecord} {old : Option Mapping} {m : Mapping}
    (h : ∀ n, old = some n → n.line = m.line → n.position ≠ m.position) : g.loaded old (some m) = g.replaced := by
  have moved : samePlace old m = false := by
    cases old with
    | none => rfl
    | some n => simpa [samePlace] using h n rfl
  simp [SignRecord.loaded, moved]

theorem SignRecord.loaded_none (g : SignRecord) (old : Option Mapping) :
    g.loaded old none = { SignRecord.fresh with lastFault := g.lastFault } := rfl

theorem SignRecord.forcedTo_eq (g : SignRecord) (d : Option Digests) (o : Origin) :
    (g.forcedTo d o).delivered = none ∧ (g.forcedTo d o).test = g.test ∧ (g.forcedTo d o).link = g.link ∧
      ((g.forcedTo d o).test = none → (g.forcedTo d o).wanted = d ∧ (g.forcedTo d o).origin = o) := by
  unfold SignRecord.forcedTo
  split
  · exact ⟨rfl, rfl, rfl, fun _ => ⟨rfl, rfl⟩⟩
  · next tested => exact ⟨rfl, rfl, rfl, fun none => absurd none tested⟩

/-! ### A load that is applied -/

/-- R180: the hub after the steps of a load. -/
structure State.Applied (s t : State) (new : Setup) : Prop where
  frame : t = { s with
    setup := new, timetables := t.timetables, evals := t.evals, signs := t.signs, lines := t.lines, pressure := t.pressure
    ports := t.ports, quiet := t.quiet }
  timetables : ∀ r, t.timetable r = if new.rooms[r].enabled = true then s.timetable r else []
  pressed : Repressed s t
  boards : ∀ r, t.eval r = if new.rooms[r].enabled = true then
    evaluation new.rooms[r] (t.timetable r) (shownNotice s.notices r) s.clock else .disabled
  forced : ∀ i m, new.signMap[i] = some m → new.rooms[m.room].enabled = true →
    t.sign i = ((s.sign i).loaded (s.mapping i) (some m)).forcedTo ((t.eval m.room).digests m.role) .setup ∧
      ((t.sign i).fault = .none → i ∈ (t.line m.line).dirty)
  unmapped : ∀ i, new.signMap[i] = none → t.sign i = { SignRecord.fresh with lastFault := (s.sign i).lastFault }
  lines : ∀ l, (s.loadedLine new l).Grows (t.line l)

theorem State.applySetup_applied (jobless : s.Jobless) (new : Setup) : s.Applied (s.applySetup new) new := by
  obtain ⟨frame, timetables, signs, lines, pressed⟩ := s.load_loaded new
  obtain ⟨e, he⟩ : ∃ e,
    (((((s.loadRooms new).loadSigns new).loadLines new).loadSettings new).storeQuiet new.quiet).quietSettled = e := ⟨_, rfl⟩
  have apply_ : s.applySetup new = e.forcedEvaluation := by rw [State.applySetup, he]
  rw [he] at frame timetables signs lines pressed
  have free : e.ReadyFree := fun l j hj => by
    rw [(lines l).jobs, (s.loadedLine_kept jobless new l).1] at hj
    cases hj
  have setup : e.setup = new := (congrArg State.setup frame :)
  have room : ∀ r, e.roomSetup r = new.rooms[r] := fun r => congrArg (fun x : Setup => x.rooms[r]) setup
  have mapping : ∀ i, e.mapping i = new.signMap[i] := fun i => congrArg (fun x : Setup => x.signMap[i]) setup
  have boards := e.forcedEvaluation_eval
  obtain ⟨grows, forced, others, -⟩ := State.forcedEvaluation_forced free
  have later := State.eq_of_offBoard e.forcedEvaluation_offBoard
  have offBoard := e.forcedEvaluation_offBoard
  rw [apply_]
  generalize e.forcedEvaluation = t at *
  have same : t.timetables = e.timetables := (congrArg State.timetables later :)
  have board : ∀ r, new.rooms[r].enabled = true → t.eval r = e.computed r := fun r on => by
    rw [boards, if_pos (by rw [room]; exact on)]
  refine ⟨?_, fun r => ?_, ?_, fun r => ?_, fun i m hm on => ?_, fun i hm => ?_, fun l => (lines l).trans (grows l)⟩
  · have pressure : t.pressure = e.pressure := (congrArg State.pressure later :)
    have ports : t.ports = e.ports := (congrArg State.ports later :)
    rw [same, pressure, ports]
    exact later.trans (congrArg (fun w : State => { w with
      evals := t.evals, signs := t.signs, lines := t.lines, quiet := t.quiet }) frame)
  · rw [← timetables, State.timetable, same]
    rfl
  · rw [later]
    exact ⟨pressed.level, pressed.pace⟩
  · have timetable : t.timetable r = e.timetable r := by rw [State.timetable, same]; rfl
    have notices : e.notices = s.notices := (congrArg State.notices frame :)
    have clock : e.clock = s.clock := (congrArg State.clock frame :)
    rw [boards, timetable, State.computed, room, notices, clock]
  · obtain ⟨own, queued⟩ := forced i m ((mapping i).trans hm) (List.mem_finRange _) (by rw [room]; exact on)
    rw [signs, hm] at own queued
    refine ⟨own.trans (by rw [board m.room on]), fun clear => queued ?_⟩
    rw [own, SignRecord.forcedTo_fault] at clear
    exact clear
  · rw [others i fun m hn => ?_, signs, hm, SignRecord.loaded_none]
    rw [mapping, hm] at hn
    cases hn

/-- Settles O59. -/
theorem setupIsSavedAndLoaded : Obligations.SetupIsSavedAndLoaded := by
  unfold Obligations.SetupIsSavedAndLoaded
  refine ⟨fun s h a => ⟨?_, fun busy => State.exec_refused a (serveLoad_busy ?_), fun holder jobless => ?_⟩,
    fun s p hrun => ⟨fun saving => ⟨s.stored.sealed, ?_, rfl, s.stored.sealed_valid⟩, fun loading => ⟨fun invalid => ?_,
      fun valid => ⟨fun busy => ?_, fun holder jobless => ⟨fun full => ?_, fun room => ?_⟩⟩⟩⟩⟩
  · have served := State.portServed s h 0x3B (v := serveSave h.port (s.take h.port)) rfl rfl
    refine ⟨_, congrArg Host.Outcome.next (State.request_accepted a _ _ _), served.replied, rfl, ?_, rfl, served.unpressed,
      served.ports, ?_⟩
    · have setup : (s.take h.port).setup = s.setup := by rw [State.take_eq]
      exact congrArg (fun x : Setup => ({ image := x, check := none } : StoredCopy)) setup
    · have taken : s.take h.port = { s with
          arb := s.arb.restarted h.port s.setup.arbiter.idleCode, ports := (s.take h.port).ports } := by
        rw [State.take_eq]
      exact congrArg (fun w : State => { w with
        store := .saving h.port, stored := { image := (s.take h.port).setup, check := none }
        ports := ((s.take h.port).answer h.port 0x3B (serveSave h.port (s.take h.port))).ports }) taken
  · rw [State.take_holder]
    simpa only [State.take_line] using busy
  · refine congrArg Host.Outcome.next ?_
    rw [State.request_accepted a, serveLoad_ok (by rw [State.take_holder]; exact holder)
      fun l => by rw [State.take_line]; exact jobless l]
    exact congrArg (fun w : State => { w with store := .loading h.port })
      (s.answer_unchanged h 0x3C (okWith (s.take h.port) .empty) rfl rfl)
  · refine congrArg Host.Outcome.next ((State.whenRunning_eq _ hrun).trans ?_)
    simp only [State.completeSave, saving, State.storeOutcome_eq]
    rfl
  · have status := State.loadStatus_badStore invalid
    refine congrArg Host.Outcome.next ((State.whenRunning_eq _ hrun).trans ?_)
    rw [State.completeLoad_failed loading (by rw [status]; decide), status]
    rfl
  · have status := State.loadStatus_busy valid busy
    refine congrArg Host.Outcome.next ((State.whenRunning_eq _ hrun).trans ?_)
    rw [State.completeLoad_failed loading (by rw [status]; decide), status]
    rfl
  · have status := (State.loadStatus_free valid holder jobless).trans (if_pos full)
    refine congrArg Host.Outcome.next ((State.whenRunning_eq _ hrun).trans ?_)
    rw [State.completeLoad_failed loading (by rw [status]; decide), status]
    rfl
  have status := (State.loadStatus_free valid holder jobless).trans (if_neg (Nat.not_lt.2 room))
  have applied := State.applySetup_applied jobless s.stored.image
  have complete := State.completeLoad_applied loading status
  generalize s.applySetup s.stored.image = a at applied complete
  generalize s.stored.image = new at applied
  obtain ⟨frame, timetables, pressed, boards, forced, unmapped, lines⟩ := applied
  have setup : a.setup = new := (congrArg State.setup frame :)
  have mapping : ∀ i, a.mapping i = new.signMap[i] := fun i => congrArg (fun x : Setup => x.signMap[i]) setup
  have roomSetup : ∀ r, a.roomSetup r = new.rooms[r] := fun r => congrArg (fun x : Setup => x.rooms[r]) setup
  have lineSetup : ∀ l, a.lineSetup l = new.lines[l] := fun l => congrArg (fun x : Setup => x.lines[l]) setup
  refine ⟨_, congrArg Host.Outcome.next ((State.whenRunning_eq _ hrun).trans complete), setup, rfl, ?_, fun q => ?_, fun r => ?_, pressed.level,
    fun r => ?_, fun i m hm on => ?_, fun i hm => ?_, fun l => ?_, ?_⟩
  · exact congrArg PortRecord.outcome (State.port_setPort_self a p _)
  · by_cases hq : q = p
    · subst hq
      refine (congrArg PortRecord.raised (State.port_setPort_self a q _)).trans ?_
      rw [if_pos rfl]
      exact congrArg (· ||| Source.flag .store) (pressed.pace q)
    · refine (congrArg PortRecord.raised (State.port_setPort_of_ne a hq _)).trans ?_
      rw [if_neg hq, BitVec.or_zero]
      exact pressed.pace q
  · exact roomSetup r ▸ timetables r
  · exact roomSetup r ▸ boards r
  · have hm : new.signMap[i] = some m := (mapping i).symm.trans hm
    have on : new.rooms[m.room].enabled = true := by rw [← roomSetup]; exact on
    obtain ⟨own, queued⟩ := forced i m hm on
    obtain ⟨delivered, test, link, taken⟩ :=
      ((s.sign i).loaded (s.mapping i) (some m)).forcedTo_eq ((a.eval m.room).digests m.role) .setup
    have fault := ((s.sign i).loaded (s.mapping i) (some m)).forcedTo_fault ((a.eval m.room).digests m.role) .setup
    rw [← own] at delivered test link taken fault
    refine ⟨delivered, test.trans (SignRecord.loaded_test _ _ m), taken, ?_, fun moved => ?_, queued⟩
    · rintro ⟨n, hn, line, position⟩
      rw [hn, SignRecord.loaded_same line position] at fault link
      exact ⟨fault, link⟩
    · rw [SignRecord.loaded_moved moved] at fault link
      exact ⟨fault, link⟩
  · exact unmapped i ((mapping i).symm.trans hm)
  · obtain ⟨jobs, trips, extras, budget, off, wakes⟩ := s.loadedLine_kept jobless new l
    obtain ⟨sameBudget, sameTrips, sameExtras⟩ := (lines l).kept
    refine ⟨(lines l).jobs.trans jobs, sameTrips.trans trips, fun pos => ?_, ?_, fun disabled => ?_, fun enabled was => ?_⟩
    · refine (sameExtras ▸ extras pos : pos ∈ (a.line l).extras ↔ _).trans (and_congr_right fun _ => ?_)
      rw [Setup.places_eq_false]
      exact forall_congr' fun i => forall_congr' fun m => by rw [← mapping]; rfl
    · exact lineSetup l ▸ sameBudget.trans budget
    · have mode := off ((congrArg LineSetup.enabled (lineSetup l)).symm.trans disabled)
      exact ((lines l).mode (by rw [mode]; decide)).trans mode
    · have mode := wakes ((congrArg LineSetup.enabled (lineSetup l)).symm.trans enabled) was
      exact ((lines l).mode (by rw [mode]; decide)).trans mode
  · have whole : a = { s with
        setup := a.setup, timetables := a.timetables, evals := a.evals, signs := a.signs, lines := a.lines
        pressure := a.pressure, ports := a.ports, quiet := a.quiet } := by
      rw [setup]
      exact frame
    exact congrArg (fun w : State => { w with
      store := .idle
      ports := (a.setPort p { a.port p with
        outcome := some (.load, .ok), raised := (a.port p).raised ||| Source.flag .store }).ports }) whole

end Sys2Proof.Machine
end

section
/-! PROOFS. What an evaluation writes (R41 to R56): the entries that the clock names, the session they give, and the notice over it. -/

namespace Sys2Proof.Machine

/-! ### Which notice a room shows -/

theorem Notice.targets_eq_false {n : Notice} {r : RoomId} (h : ¬ n.AimsAt r) : n.targets r = false :=
  Bool.eq_false_iff.2 (mt (n.targets_iff r).1 h)

theorem latestOf_none {lvl : Level} {l : List Notice} (h : ∀ x ∈ l, x.level ≠ lvl) : latestOf lvl l = none := by
  have none : l.filter (fun n => n.level == lvl) = [] := List.filter_eq_nil_iff.2 fun x hx => by simpa using h x hx
  rw [latestOf, none]
  rfl

/-- R51: a room that no notice targets shows none. -/
theorem shownNotice_none {l : List Notice} {r : RoomId} (h : ∀ x ∈ l, ¬ x.AimsAt r) : shownNotice l r = none := by
  have none : l.filter (fun n => n.targets r) = [] :=
    List.filter_eq_nil_iff.2 fun x hx => by rw [Notice.targets_eq_false (h x hx)]; exact Bool.false_ne_true
  unfold shownNotice
  rw [none]
  rfl

/-- R51: a room shows the latest notice of the highest level among those that target it. -/
theorem shownNotice_some {l : List Notice} {r : RoomId} {n : Notice} (h : ShownOf l r n) : shownNotice l r = some n := by
  obtain ⟨aims, highest, before, after, split, latest⟩ := h
  have aimed : l.filter (fun n => n.targets r) =
      before.filter (fun n => n.targets r) ++ n :: after.filter (fun n => n.targets r) := by
    rw [split, List.filter_append, List.filter_cons_of_pos (p := fun n : Notice => n.targets r) ((n.targets_iff r).2 aims)]
  have found : latestOf n.level (l.filter fun n => n.targets r) = some n := by
    rw [aimed]
    refine latestOf_append rfl fun x hx => ?_
    obtain ⟨hx, targets⟩ := List.mem_filter.1 hx
    exact latest x hx ((x.targets_iff r).1 targets)
  have above : ∀ lvl, Level.code n.level < Level.code lvl → latestOf lvl (l.filter fun n => n.targets r) = none := by
    refine fun lvl hlvl => latestOf_none fun x hx hl => ?_
    obtain ⟨hx, targets⟩ := List.mem_filter.1 hx
    have := highest x hx ((x.targets_iff r).1 targets)
    rw [hl] at this
    omega
  unfold shownNotice
  cases level : n.level <;> rw [level] at found above
  · simp only [above .urgent (by decide), above .direct (by decide), found]
  · simp only [above .urgent (by decide), found]
  · simp only [found]

/-! ### The entries that the clock names -/

theorem find_first {p : Entry → Bool} {q : Entry → Prop} (hq : ∀ x, p x = true ↔ q x) {tt : List Entry} {x : Entry}
    (h : FirstOf q tt x) : tt.find? p = some x := by
  obtain ⟨before, after, split, here, first⟩ := h
  refine List.find?_eq_some_iff_append.2 ⟨(hq x).2 here, before, after, split, fun y hy => ?_⟩
  rw [Bool.not_eq_true', Bool.eq_false_iff]
  exact mt (hq y).1 (first y hy)

theorem find_none {p : Entry → Bool} {q : Entry → Prop} (hq : ∀ x, p x = true ↔ q x) {tt : List Entry}
    (h : ∀ x ∈ tt, ¬ q x) : tt.find? p = none :=
  List.find?_eq_none.2 fun x hx => by simpa [hq] using h x hx

theorem Entry.isCurrent_iff (t : Nat) (x : Entry) : x.isCurrent t = true ↔ x.Current t := by
  simp only [Entry.isCurrent, Bool.and_eq_true, Bool.not_eq_true', decide_eq_true_eq]
  exact ⟨fun ⟨⟨⟨a, b⟩, c⟩, d⟩ => ⟨a, b, c, d⟩, fun ⟨a, b, c, d⟩ => ⟨⟨⟨a, b⟩, c⟩, d⟩⟩

/-- R43: today ends with the minute of day 1439. -/
theorem tomorrow_eq {day minute : Nat} (h : minute ≤ 1439) : tomorrow (day * 1440 + minute) = day * 1440 + 1440 := by
  unfold tomorrow
  omega

theorem Entry.follows_iff {day minute : Nat} (h : minute ≤ 1439) (ref : Nat) (x : Entry) :
    x.follows ref (day * 1440 + minute) = true ↔ x.Ahead ref day := by
  simp only [Entry.follows, tomorrow_eq h, Bool.and_eq_true, Bool.not_eq_true', decide_eq_true_eq]
  exact ⟨fun ⟨⟨a, b⟩, c⟩ => ⟨a, b, c⟩, fun ⟨a, b, c⟩ => ⟨⟨a, b⟩, c⟩⟩

theorem followList_eq {day minute : Nat} (h : minute ≤ 1439) (tt : List Entry) (ref f : Nat) :
    followList tt ref (day * 1440 + minute) f = followed tt ref day f := by
  unfold followList followed Entry.follows
  rw [tomorrow_eq h]
  rfl

/-! ### The board of a session -/

section Board
variable {rs : RoomSetup} {tt : List Entry} {n : Option Notice} {k : Clock}

/-- R51 to R54: the board of an evaluation. -/
theorem evaluation_board (rs : RoomSetup) (tt : List Entry) (n : Option Notice) (k : Clock) :
    (evaluation rs tt n k).board = overlay rs.name (session rs tt k) n := rfl

theorem overlay_named (name : Option Text) (x : Session) (n : Option Notice) :
    (overlay name x n).name = name ∧ (overlay name x n).notice = n.map fun n => (n.level, n.text) := by
  unfold overlay
  cases n with
  | none => exact ⟨rfl, rfl⟩
  | some n =>
    dsimp only
    split <;> exact ⟨rfl, rfl⟩

/-- R49, R53: without an URGENT notice the board is the session's. -/
theorem overlay_session (name : Option Text) (x : Session) (h : ∀ y, n = some y → y.level ≠ .urgent) :
    overlay name x n = sessionBoard name x n := by
  cases n with
  | none => rfl
  | some y => exact if_neg (h y rfl)

theorem overlay_urgent (name : Option Text) (x : Session) {y : Notice} (h : y.level = .urgent) :
    overlay name x (some y) = noticeBoard name y := if_pos h

/-- What an evaluation takes from its session, whatever notice lies over it, and what it takes where none hides it. -/
theorem evaluation_session {x : Session} (hx : session rs tt k = x) :
    ((evaluation rs tt n k).current = x.current ∧ (evaluation rs tt n k).next = x.next ∧ (evaluation rs tt n k).gap = x.gap) ∧
    ((∀ y, n = some y → y.level ≠ .urgent) → (evaluation rs tt n k).phase = x.phase ∧
      (evaluation rs tt n k).board.headline = x.headline.map Entry.title ∧
      (evaluation rs tt n k).board.subline = x.headline.bind Entry.presenter ∧
      (evaluation rs tt n k).board.time = x.time ∧
      (evaluation rs tt n k).board.cancelled = x.headline.any (fun e => e.marks.cancelled) ∧
      (evaluation rs tt n k).board.closedDoor = x.headline.any (fun e => e.marks.closedDoor) ∧
      (evaluation rs tt n k).board.follow = x.follow) := by
  subst hx
  refine ⟨⟨rfl, rfl, rfl⟩, fun calm => ?_⟩
  have board := (evaluation_board rs tt n k).trans (overlay_session rs.name (session rs tt k) calm)
  have phase : (evaluation rs tt n k).phase = (evaluation rs tt n k).board.phase := rfl
  rw [phase, board]
  exact ⟨rfl, rfl, rfl, rfl, rfl, rfl, rfl⟩

/-- R41 to R46: the session by the entries that the clock names. -/
theorem session_unset (h : k.isSet = false) : session rs tt k = untimedSession := if_neg (by simp [h])

theorem session_live {c : Entry} (h : k.isSet = true) (current : currentEntry tt k.absolute = some c) :
    session rs tt k = liveSession rs tt k.absolute c := by
  simp only [session, h, if_true, current]

theorem session_ahead {m : Entry} (h : k.isSet = true) (none : currentEntry tt k.absolute = none)
    (next : nextEntry tt k.absolute = some m) : session rs tt k = aheadSession rs tt k.absolute m := by
  simp only [session, h, if_true, none, next]

theorem session_open (h : k.isSet = true) (none : currentEntry tt k.absolute = none)
    (last : nextEntry tt k.absolute = .none) : session rs tt k = openSession := by
  simp only [session, h, if_true, none, last]

/-- R45: a room is SOON before an entry that stands, within the lead time. -/
theorem aheadSession_soon (rs : RoomSetup) (tt : List Entry) (t : Nat) (m : Entry) :
    (aheadSession rs tt t m).phase = (if m.marks.cancelled = false ∧ m.absStart - t ≤ rs.lead then .soon else .between) ∧
    (aheadSession rs tt t m).time = if m.marks.cancelled = false ∧ m.absStart - t ≤ rs.lead then
      countTo (m.absStart - t) m.start else .clock (m.start / 60) (m.start % 60) := by
  have soon : (!m.marks.cancelled && decide (m.absStart - t ≤ rs.lead)) = true ↔
      m.marks.cancelled = false ∧ m.absStart - t ≤ rs.lead := by simp
  exact ⟨if_congr soon rfl rfl, if_congr soon rfl rfl⟩

/-- R43: the next entry that an evaluation names, with a current entry and without. -/
theorem evaluation_next (h : k.isSet = true) :
    (evaluation rs tt n k).next = (nextEntry tt k.absolute).map Entry.tag := by
  cases current : currentEntry tt k.absolute with
  | some c => exact (evaluation_session (session_live h current)).1.2.1
  | none =>
    cases next : nextEntry tt k.absolute with
    | some m => exact (evaluation_session (session_ahead h current next)).1.2.1
    | none => exact (evaluation_session (session_open h current next)).1.2.1

/-- R42: no current entry is named where there is none. -/
theorem evaluation_current_none (h : k.isSet = true) (none : currentEntry tt k.absolute = .none) :
    (evaluation rs tt n k).current = .none := by
  cases next : nextEntry tt k.absolute with
  | some m => exact (evaluation_session (session_ahead h none next)).1.1
  | none => exact (evaluation_session (session_open h none next)).1.1

end Board

/-- Settles O30. -/
theorem boardsFollowTimetableAndNotices : Obligations.BoardsFollowTimetableAndNotices := by
  unfold Obligations.BoardsFollowTimetableAndNotices
  refine ⟨fun l r => ⟨shownNotice_none, fun n => shownNotice_some⟩, fun rs tt n k e he minute => ?_⟩
  subst he
  obtain ⟨name, notice⟩ := overlay_named rs.name (session rs tt k) n
  refine ⟨⟨rfl, rfl, rfl, name, rfl, notice⟩, fun x hn urgent => ?_, fun unset => ?_, fun set => ?_⟩
  · subst hn
    have board := (evaluation_board rs tt (some x) k).trans (overlay_urgent rs.name (session rs tt k) urgent)
    have phase : (evaluation rs tt (some x) k).phase = (evaluation rs tt (some x) k).board.phase := rfl
    rw [phase, board]
    exact ⟨rfl, rfl, rfl, rfl, rfl, rfl, rfl⟩
  · obtain ⟨⟨current, next, gap⟩, board⟩ := evaluation_session (n := n) (session_unset (rs := rs) (tt := tt) unset)
    exact ⟨current, next, gap, board⟩
  have current {c : Entry} (h : FirstOf (Entry.Current (k.day * 1440 + k.minute)) tt c) :
      currentEntry tt k.absolute = some c := find_first (Entry.isCurrent_iff _) h
  have next {m : Entry} (h : FirstOf (Entry.Ahead (k.day * 1440 + k.minute) k.day) tt m) :
      nextEntry tt k.absolute = some m := find_first (Entry.follows_iff minute _) h
  have last (h : ∀ x ∈ tt, ¬ Entry.Ahead (k.day * 1440 + k.minute) k.day x) : nextEntry tt k.absolute = none :=
    find_none (Entry.follows_iff minute _) h
  refine ⟨fun m h => ?_, fun h => ?_, fun c left h hleft => ?_, fun none => ?_⟩
  · rw [evaluation_next set, next h]
    rfl
  · rw [evaluation_next set, last h]
    rfl
  · obtain ⟨⟨tag, -, gap⟩, board⟩ := evaluation_session (n := n) (session_live (rs := rs) set (current h))
    obtain ⟨-, -, -, here, -⟩ := h
    refine ⟨tag, gap, fun calm => ?_⟩
    obtain ⟨phase, headline, subline, time, cancelled, closedDoor, follow⟩ := board calm
    subst hleft
    exact ⟨phase, headline, subline, cancelled.trans here.stands, closedDoor, time, follow.trans (followList_eq minute tt _ _)⟩
  have none := find_none (Entry.isCurrent_iff _) none
  refine ⟨evaluation_current_none set none, fun m gap h hgap => ?_, fun h => ?_⟩
  · obtain ⟨⟨-, -, named⟩, board⟩ := evaluation_session (n := n) (session_ahead (rs := rs) set none (next h))
    subst hgap
    refine ⟨named, fun calm => ?_⟩
    obtain ⟨phase, headline, subline, time, cancelled, closedDoor, follow⟩ := board calm
    obtain ⟨soon, timed⟩ := aheadSession_soon rs tt k.absolute m
    exact ⟨phase.trans soon, headline, subline, cancelled, closedDoor, time.trans timed,
      follow.trans (followList_eq minute tt _ _)⟩
  · obtain ⟨⟨-, -, gap⟩, board⟩ := evaluation_session (n := n) (session_open (rs := rs) set none (last h))
    exact ⟨gap, board⟩

end Sys2Proof.Machine
end

section
/-! PROOFS. The second boundary after the clock's own part (R28, R118, R155, R159): the refill of the budgets, the retry waits of
the signs and the holds of the lines, each a walk over distinct signs or lines. -/

namespace Sys2Proof.Machine

variable {s : State}

/-! ### Walks over lines -/

/-- Lines of a list are changed by g, and nothing else is. -/
structure State.LinesMapped (b t : State) (ls : List LineId) (g : LineId → LineRecord → LineRecord) : Prop where
  frame : t = { b with lines := t.lines }
  own : ∀ l ∈ ls, t.line l = g l (b.line l)
  others : ∀ l, l ∉ ls → t.line l = b.line l

/-- A walk over distinct lines that changes each by g, whatever it reads of the setup. -/
theorem walked_lines {f : State → LineId → State} {g : LineId → LineRecord → LineRecord} {σ : Setup}
    (hf : ∀ t l, t.setup = σ → f t l = t.updLine l (g l)) (ls : List LineId) (once : ls.Nodup) :
    ∀ b : State, b.setup = σ → b.LinesMapped (ls.foldl f b) ls g := by
  induction ls with
  | nil => exact fun b _ => ⟨rfl, nofun, fun _ _ => rfl⟩
  | cons l ls ih =>
    intro b setup
    obtain ⟨absent, once⟩ := List.nodup_cons.1 once
    rw [List.foldl_cons, hf b l setup]
    obtain ⟨frame, own, others⟩ := ih once (b.updLine l (g l)) setup
    refine ⟨frame, fun k hk => ?_, fun k hk => ?_⟩
    · by_cases hl : k = l
      · subst hl
        exact (others k absent).trans (State.line_updLine_self b k _)
      · rw [own k ((List.mem_cons.1 hk).resolve_left hl), State.line_updLine_of_ne _ hl]
    · obtain ⟨hl, hk⟩ := not_or.1 (mt List.mem_cons.2 hk)
      exact (others k hk).trans (State.line_updLine_of_ne _ hl _)

/-- R118: every line's budget is refilled, and nothing else changes. -/
theorem State.refill_mapped (s : State) : s.LinesMapped s.refill allLines fun l ln =>
    { ln with budget := refillBudget (s.lineSetup l) ln.budget } :=
  walked_lines (σ := s.setup) (fun t l setup => by rw [State.lineSetup, setup, ← State.lineSetup]) allLines
    (List.nodup_finRange 6) s rfl

/-- R159: a line after one second boundary of its hold. -/
def LineRecord.ticked (ln : LineRecord) : LineRecord :=
  match ln.hold with
  | .waiting n => if n ≤ 1 then ln.wake else { ln with hold := .waiting (n - 1) }
  | _ => ln

/-- R159: a second boundary of a line's hold changes that line's record alone. -/
theorem State.tickLine_eq (s : State) (l : LineId) : s.tickLine l = s.updLine l LineRecord.ticked := by
  rw [State.updLine_eq, State.tickLine, LineRecord.ticked]
  cases hold : (s.line l).hold with
  | none => exact (State.setLine_line_self s l).symm
  | latched => exact (State.setLine_line_self s l).symm
  | waiting n =>
    dsimp only
    split
    · exact State.restoreLine_held (by simp [hold])
    · rfl

theorem State.tickLines_mapped (s : State) : s.LinesMapped (allLines.foldl State.tickLine s) allLines fun _ => LineRecord.ticked :=
  walked_lines (fun t l _ => t.tickLine_eq l) allLines (List.nodup_finRange 6) s rfl

/-- R159: a hold after one second boundary. -/
def Hold.ticked (x : Hold) : Hold :=
  match x with
  | .waiting n => if n ≤ 1 then .none else .waiting (n - 1)
  | x => x

/-- R145, R159: what a second boundary of a hold does to the record of its line. -/
structure LineRecord.HoldTicked (a b : LineRecord) : Prop where
  hold : b.hold = a.hold.ticked
  mode : b.mode = if a.hold = .waiting 1 ∨ a.hold = .waiting 0 then .waking else a.mode
  budget : b.budget = a.budget
  trips : b.trips = a.trips
  extras : b.extras = a.extras
  jobs : b.jobs = a.jobs
  dirty : b.dirty = a.dirty

theorem LineRecord.ticked_holdTicked (a : LineRecord) : a.HoldTicked a.ticked := by
  rw [LineRecord.ticked]
  cases hold : a.hold with
  | none => exact ⟨by simp [hold, Hold.ticked], by simp [hold], rfl, rfl, rfl, rfl, rfl⟩
  | latched => exact ⟨by simp [hold, Hold.ticked], by simp [hold], rfl, rfl, rfl, rfl, rfl⟩
  | waiting n =>
    by_cases last : n ≤ 1
    · have ends : n = 1 ∨ n = 0 := by omega
      dsimp only
      rw [if_pos last]
      exact ⟨by simp [hold, last, Hold.ticked, LineRecord.wake], by simp [hold, ends, LineRecord.wake], rfl, rfl, rfl, rfl, rfl⟩
    · have runs : ¬ (n = 1 ∨ n = 0) := by omega
      dsimp only
      rw [if_neg last]
      exact ⟨by simp [hold, last, Hold.ticked], by simp [hold, runs], rfl, rfl, rfl, rfl, rfl⟩

/-! ### The settling of other signs -/

/-- No sign gains a job, and of the signs queued only i may leave its queue. -/
structure LineRecord.LeavesOthers (a b : LineRecord) (i : SignId) : Prop where
  jobless : ∀ k, a.jobOf k = none → b.jobOf k = none
  stays : ∀ k, k ≠ i → k ∈ a.dirty → k ∈ b.dirty

theorem LineRecord.LeavesOthers.refl (a : LineRecord) (i : SignId) : a.LeavesOthers a i := ⟨fun _ h => h, fun _ _ h => h⟩

theorem LineRecord.join_leavesOthers (a : LineRecord) (i : SignId) : a.LeavesOthers (a.join i) i := by
  rw [LineRecord.join_eq]
  refine ⟨fun _ h => h, fun k _ h => ?_⟩
  dsimp only
  split
  · exact h
  · exact List.mem_append_left _ h

theorem LineRecord.leave_leavesOthers (a : LineRecord) (i : SignId) : a.LeavesOthers (a.leave i) i :=
  ⟨fun _ h => h, fun k hk h => List.mem_filter.2 ⟨h, by simpa using hk⟩⟩

theorem LineRecord.dropJob_leavesOthers (a : LineRecord) (i : SignId) : a.LeavesOthers (a.dropJob i) i := by
  refine ⟨fun k h => ?_, fun _ _ h => h⟩
  rw [LineRecord.jobOf_eq_none] at h ⊢
  exact fun mem => h ((List.Sublist.map Job.sign List.filter_sublist).subset mem)

theorem LineRecord.updJob_leavesOthers (a : LineRecord) (i : SignId) {f : Job → Job} (hf : ∀ j, (f j).sign = j.sign) :
    a.LeavesOthers (a.updJob i f) i := by
  refine ⟨fun k h => ?_, fun _ _ h => h⟩
  have signs : (a.updJob i f).jobs.map Job.sign = a.jobs.map Job.sign := by
    rw [LineRecord.updJob, List.map_map]
    refine List.map_congr_left fun j _ => ?_
    simp only [Function.comp_apply]
    split
    · exact hf j
    · rfl
  rwa [LineRecord.jobOf_eq_none, signs, ← LineRecord.jobOf_eq_none]

theorem State.updLine_leavesOthers {l : LineId} {f : LineRecord → LineRecord} {i : SignId}
    (h : (s.line l).LeavesOthers (f (s.line l)) i) (k : LineId) : (s.line k).LeavesOthers ((s.updLine l f).line k) i := by
  rw [State.line_updLine]
  split
  · next hk => exact hk ▸ h
  · exact .refl _ i

/-- R98: settling gives no sign a job, and takes no other sign out of its queue. -/
theorem State.settleSign_leavesOthers (s : State) (i : SignId) (l : LineId) :
    (s.line l).LeavesOthers ((s.settleSign i).line l) i := by
  cases hm : s.mapping i with
  | none => rw [State.settleSign, hm]; exact .refl _ i
  | some m =>
    cases hj : (s.line m.line).jobOf i with
    | some j =>
      by_cases ready : j.state = .ready
      · rw [State.settleSign_ready hm hj ready]
        split
        · exact State.updLine_leavesOthers (LineRecord.dropJob_leavesOthers _ i) l
        · refine State.updLine_leavesOthers (LineRecord.updJob_leavesOthers _ i ?_) l
          exact fun _ => rfl
      · rw [State.settleSign_flying hm hj ready]
        exact State.updLine_leavesOthers (LineRecord.join_leavesOthers _ i) l
    | none =>
      by_cases hf : (s.sign i).fault = .none
      · rw [State.settleSign_jobless hm hj hf]
        refine State.updLine_leavesOthers ?_ l
        split
        · exact LineRecord.leave_leavesOthers _ i
        · exact LineRecord.join_leavesOthers _ i
      · rw [State.settleSign_faulty hm hj hf]
        exact .refl _ i

theorem State.settleSign_frame (s : State) (i : SignId) : s.settleSign i = { s with lines := (s.settleSign i).lines } := by
  have h := State.eq_of_offBoard (State.settleSign_offBoard s i)
  have quiet := (State.settleSign_still s i).quiet
  have signs := State.settleSign_signs s i
  have evals : (s.settleSign i).evals = s.evals := State.settleSign_evals s i
  rwa [quiet, signs, evals] at h

/-! ### The retry waits of the signs -/

/-- R155: a sign's record after one second boundary of its retry timer. -/
def SignRecord.ticked (g : SignRecord) : SignRecord :=
  match g.retry with
  | .running n => if n ≤ 1 then { g with fault := .none, retry := .stopped } else { g with retry := .running (n - 1) }
  | _ => g

/-- The retry timers of signs of a list have counted a second boundary. -/
structure State.SignsTicked (b t : State) (is : List SignId) : Prop where
  frame : t = { b with signs := t.signs, lines := t.lines }
  own : ∀ i ∈ is, t.sign i = (b.sign i).ticked
  others : ∀ i, i ∉ is → t.sign i = b.sign i
  still : AllStill b t
  jobless : ∀ l i, (b.line l).jobOf i = none → (t.line l).jobOf i = none
  stays : ∀ l i, i ∉ is → i ∈ (b.line l).dirty → i ∈ (t.line l).dirty
  queued : ∀ i ∈ is, ∀ m, b.mapping i = some m → (b.sign i).retry = .running 1 → (b.line m.line).jobOf i = none →
    (b.sign i).matched = false → i ∈ (t.line m.line).dirty

theorem State.setSign_own (s : State) (i : SignId) : s.setSign i (s.sign i) = s := by
  simp [State.setSign, State.sign]

/-- R155: the record alone changes while a retry timer runs on. -/
theorem State.setSign_ticked {i : SignId} {g : SignRecord} (hg : g = (s.sign i).ticked) (later : (s.sign i).retry ≠ .running 1) :
    s.SignsTicked (s.setSign i g) [i] where
  frame := rfl
  own k hk := by
    rw [List.mem_singleton.1 hk, State.sign_setSign, if_pos rfl, hg]
  others k hk := by rw [State.sign_setSign, if_neg (by simpa using hk)]
  still := .setSign s i _
  jobless _ _ h := h
  stays _ _ _ h := h
  queued k hk _ _ last := absurd (List.mem_singleton.1 hk ▸ last) later

/-- R155: the end of a retry wait. -/
theorem State.endRetry_ticked {i : SignId} {n : Nat} (retry : (s.sign i).retry = .running n) (last : n ≤ 1) :
    s.SignsTicked (s.endRetry i) [i] := by
  have own : { s.sign i with fault := .none, retry := .stopped } = (s.sign i).ticked := by
    rw [SignRecord.ticked, retry]
    exact (if_pos last).symm
  obtain ⟨b, hb⟩ : ∃ b, s.setSign i { s.sign i with fault := .none, retry := .stopped } = b := ⟨_, rfl⟩
  have ended : s.endRetry i = b.settleSign i := by rw [← hb]; rfl
  have sign (k : SignId) : b.sign k = if k = i then (s.sign i).ticked else s.sign k := by rw [← hb, State.sign_setSign, own]
  have line (l : LineId) : b.line l = s.line l := by rw [← hb]; rfl
  have frame : b = { s with signs := b.signs } := by rw [← hb]; rfl
  refine ⟨?_, fun k hk => ?_, fun k hk => ?_, ?_, fun l k hk => ?_, fun l k hk mem => ?_, fun k hk m hm one hj dirty => ?_⟩
  · rw [ended, State.settleSign_signs]
    exact (b.settleSign_frame i).trans (congrArg (fun w : State => { w with lines := (b.settleSign i).lines }) frame)
  · rw [ended, State.settleSign_sign, sign, if_pos (List.mem_singleton.1 hk), List.mem_singleton.1 hk]
  · rw [ended, State.settleSign_sign, sign, if_neg (by simpa using hk)]
  · rw [ended]
    exact (hb ▸ AllStill.setSign s i _ : AllStill s b).trans (State.settleSign_still b i)
  · rw [ended]
    exact (b.settleSign_leavesOthers i l).jobless k (line l ▸ hk)
  · rw [ended]
    exact (b.settleSign_leavesOthers i l).stays k (by simpa using hk) (line l ▸ mem)
  · obtain rfl := List.mem_singleton.1 hk
    rw [State.endRetry_eq hm hj, dirty, State.line_setLine, if_pos rfl]
    simp only [Bool.false_eq_true, if_false]
    split
    · assumption
    · exact List.mem_append_right _ (List.mem_singleton_self k)

theorem State.tickSign_ticked (s : State) (i : SignId) : s.SignsTicked (s.tickSign i) [i] := by
  have idle {x : Retry} (retry : (s.sign i).retry = x) (h : ∀ n, x ≠ .running n) : s.SignsTicked s [i] := by
    have same : s.sign i = (s.sign i).ticked := by
      rw [SignRecord.ticked, retry]
      cases x with
      | running n => exact absurd rfl (h n)
      | _ => rfl
    have := State.setSign_ticked same (by rw [retry]; exact h 1)
    rwa [State.setSign_own] at this
  rw [State.tickSign]
  cases retry : (s.sign i).retry with
  | stopped => exact idle retry nofun
  | presence => exact idle retry nofun
  | running n =>
    dsimp only
    split
    · next last => exact State.endRetry_ticked retry last
    · next more =>
      refine State.setSign_ticked ?_ ?_
      · rw [SignRecord.ticked, retry]
        exact (if_neg more).symm
      · rw [retry]
        intro one
        cases one
        exact more (Nat.le_refl 1)

theorem walked_signs (is : List SignId) (once : is.Nodup) : ∀ b : State, b.SignsTicked (is.foldl State.tickSign b) is := by
  induction is with
  | nil => exact fun b => ⟨rfl, nofun, fun _ _ => rfl, .refl b, fun _ _ h => h, fun _ _ _ h => h, nofun⟩
  | cons i is ih =>
    intro b
    obtain ⟨absent, once⟩ := List.nodup_cons.1 once
    have head := b.tickSign_ticked i
    rw [List.foldl_cons]
    generalize b.tickSign i = c at head
    have tail := ih once c
    generalize is.foldl State.tickSign c = t at tail
    have mapping : c.mapping = b.mapping := by
      funext k
      exact (congrArg (State.mapping · k) head.frame :)
    have sign {k : SignId} (hk : k ∈ is) : c.sign k = b.sign k :=
      head.others k fun h => absent (List.mem_singleton.1 h ▸ hk)
    refine ⟨?_, fun k hk => ?_, fun k hk => ?_, head.still.trans tail.still, fun l k h => tail.jobless l k (head.jobless l k h),
      fun l k hk h => ?_, fun k hk m hm one hj dirty => ?_⟩
    · exact tail.frame.trans (congrArg (fun w : State => { w with signs := t.signs, lines := t.lines }) head.frame)
    · rcases List.mem_cons.1 hk with rfl | hk
      · exact (tail.others k absent).trans (head.own k (List.mem_singleton_self k))
      · exact (tail.own k hk).trans (congrArg SignRecord.ticked (sign hk))
    · obtain ⟨hi, hk⟩ := not_or.1 (mt List.mem_cons.2 hk)
      exact (tail.others k hk).trans (head.others k (by simpa using hi))
    · obtain ⟨hi, hk⟩ := not_or.1 (mt List.mem_cons.2 hk)
      exact tail.stays l k hk (head.stays l k (by simpa using hi) h)
    · rcases List.mem_cons.1 hk with rfl | hk
      · exact tail.stays _ k absent (head.queued k (List.mem_singleton_self k) m hm one hj dirty)
      · exact tail.queued k hk m (mapping ▸ hm) (sign hk ▸ one) (head.jobless _ k hj) (sign hk ▸ dirty)

/-! ### The second boundary, whole -/

/-- R28, R118, R155, R159: the refill of the budgets and the countdown of the retry waits. -/
theorem State.tickWaits_ticked (s : State) : Ticked s s.refill.tickWaits := by
  have refilled := s.refill_mapped
  generalize s.refill = a at refilled
  have signs := walked_signs allSigns (List.nodup_finRange 96) a
  rw [State.tickWaits]
  generalize allSigns.foldl State.tickSign a = b at signs
  have lines := b.tickLines_mapped
  generalize allLines.foldl State.tickLine b = t at lines
  have aline (l : LineId) : a.line l = { s.line l with budget := refillBudget (s.lineSetup l) (s.line l).budget } :=
    refilled.own l (List.mem_finRange l)
  have asign (i : SignId) : a.sign i = s.sign i := (congrArg (State.sign · i) refilled.frame :)
  have bline (l : LineId) : (a.line l).Still (b.line l) := signs.still.lines l
  have tline (l : LineId) : (b.line l).HoldTicked (t.line l) := by
    rw [lines.own l (List.mem_finRange l)]
    exact LineRecord.ticked_holdTicked _
  have tsign (i : SignId) : t.sign i = (s.sign i).ticked := by
    refine ((congrArg (State.sign · i) lines.frame :)).trans ?_
    rw [← asign i]
    exact signs.own i (List.mem_finRange i)
  have hold (l : LineId) : (b.line l).hold = (s.line l).hold := by rw [(bline l).hold, aline]
  have mode (l : LineId) : (b.line l).mode = (s.line l).mode := by rw [(bline l).mode, aline]
  refine ⟨?_, fun l => ?_, tsign, fun i m hm one hj dirty => ?_, fun l => ?_, fun l => ?_, fun l => ?_⟩
  · have bs : b.signs = t.signs := ((congrArg State.signs lines.frame :)).symm
    have frame := lines.frame.trans (congrArg (fun w : State => { w with lines := t.lines }) (signs.frame.trans
      (congrArg (fun w : State => { w with signs := b.signs, lines := b.lines }) refilled.frame)))
    rwa [bs] at frame
  · rw [(tline l).budget, (bline l).budget, aline]
    rfl
  · rw [(tline m.line).dirty]
    refine signs.queued i (List.mem_finRange i) m ?_ ?_ ?_ ?_
    · exact ((congrArg (State.mapping · i) refilled.frame :)).trans hm
    · rw [asign, one]
    · rw [aline]; exact hj
    · rw [asign, dirty]
  · exact (tline l).hold.trans (congrArg Hold.ticked (hold l))
  · rw [(tline l).mode, hold, mode]
  · rw [(tline l).trips, (tline l).extras, (tline l).jobs, (bline l).trips, (bline l).extras, aline]
    refine ⟨rfl, rfl, fun nodup => ?_⟩
    have flying := ((bline l).flying (by rw [aline]; exact nodup)).2
    rw [flying, aline]

/-! ### The clock's own part -/

theorem State.advanceClock_unset (unset : s.clock.isSet = false) : s.advanceClock = s := by
  rw [State.advanceClock, unset]
  rfl

/-- R28: within a minute. -/
theorem State.advanceClock_second (set : s.clock.isSet = true) (h : s.clock.second < 59) :
    s.advanceClock = { s with clock := { s.clock with second := s.clock.second + 1 } } := by
  rw [State.advanceClock]
  dsimp only
  rw [if_neg (by simp [set]), if_pos h]

/-- R29: at a minute boundary within a day. -/
theorem State.advanceClock_minute (set : s.clock.isSet = true) (h : s.clock.second = 59) (hm : s.clock.minute < 1439) :
    s.advanceClock = ({ s with clock := { s.clock with minute := s.clock.minute + 1, second := 0 } }).minuteWork := by
  rw [State.advanceClock]
  dsimp only
  rw [if_neg (by simp [set]), if_neg (by omega), if_pos hm]

/-- R30: at a day boundary. -/
theorem State.advanceClock_day (set : s.clock.isSet = true) (h : s.clock.second = 59) (hm : s.clock.minute = 1439)
    (hd : s.clock.day < 15) : s.advanceClock =
      (({ s with clock := { isSet := true, day := s.clock.day + 1, minute := 0, second := 0 } }).purge
        (s.clock.day + 1)).minuteWork := by
  rw [State.advanceClock]
  rw [if_neg (by simp [set]), if_neg (by omega), if_neg (by omega), if_pos hd, set]

/-- R31: at the end of day 15. -/
theorem State.advanceClock_end (set : s.clock.isSet = true) (h : s.clock.second = 59) (hm : s.clock.minute = 1439)
    (hd : s.clock.day = 15) : s.advanceClock = s.endOfDays := by
  rw [State.advanceClock]
  rw [if_neg (by simp [set]), if_neg (by omega), if_neg (by omega), if_neg (by omega)]

/-- Settles O33. -/
theorem secondBoundaryCounts : Obligations.SecondBoundaryCounts := by
  unfold Obligations.SecondBoundaryCounts
  intro s running plain
  refine ⟨_, congrArg Host.Outcome.next (State.whenRunning_eq _ running), ?_⟩
  have advanced : s.advanceClock =
      { s with clock := if s.clock.isSet then { s.clock with second := s.clock.second + 1 } else s.clock } := by
    cases set : s.clock.isSet with
    | false => exact State.advanceClock_unset set
    | true => exact State.advanceClock_second set (plain.resolve_left (by simp [set]))
  rw [State.boundary, advanced]
  exact State.tickWaits_ticked _

end Sys2Proof.Machine
end

section
/-! PROOFS. The minute boundary (R29, R69, R147) and the day boundaries (R20, R30, R31). -/

namespace Sys2Proof.Machine

variable {s : State}

/-! ### The entry check -/

theorem roomRests_iff (q : QuietSetup) (e : EvalRecord) :
    roomRests q e = true ↔ e.phase = .opened ∨ (e.phase = .between ∧ ∃ g ∈ e.gap, q.qEnter < g) := by
  simp [roomRests, Option.any_eq_true]

/-- R147: every enabled room lets the lines sleep. -/
theorem State.allRest_iff (s : State) :
    (allRooms.all fun r => !(s.roomSetup r).enabled || roomRests s.setup.quiet (s.eval r)) = true ↔
    ∀ r, (s.roomSetup r).enabled = true →
      (s.eval r).phase = .opened ∨ ((s.eval r).phase = .between ∧ ∃ g ∈ (s.eval r).gap, s.setup.quiet.qEnter < g) := by
  simp only [allRooms, List.all_eq_true, List.mem_finRange, forall_const]
  refine forall_congr' fun r => ?_
  rw [← roomRests_iff]
  cases (s.roomSetup r).enabled <;> simp

/-- R147: the entry check moves the quiet state alone. -/
theorem State.entryCheck_eq (s : State) : s.entryCheck = { s with quiet := entryMove s } := by
  rw [State.entryCheck, entryMove]
  simp only [s.allRest_iff]
  split
  · rw [(State.quietSettled_eq _).1, State.quietSettled_quiet]
    simp only [true_and]
    rfl
  · rfl

/-! ### The minute's work -/

/-- R29: the minute's work before its entry check: the expiry and the evaluation of every enabled room. -/
def State.minuteEvaluated (s : State) : State := (s.expireNotices s.clock.absolute).evaluateAll .clock

theorem State.minuteWork_eq (s : State) :
    s.minuteWork = { s.minuteEvaluated with quiet := entryMove s.minuteEvaluated } := State.entryCheck_eq _

/-- R29, R69: what the minute's work does before its entry check. -/
structure State.MinuteEvaluated (s v : State) : Prop where
  frame : v = { s with notices := v.notices, pressure := v.pressure, ports := v.ports, evals := v.evals, signs := v.signs
                       lines := v.lines, quiet := v.quiet }
  notices : v.notices = unexpired s.notices s.clock.absolute
  repressed : Repressed s v
  evaluated : Evaluated s v (fun _ => true) .clock false

theorem State.minuteEvaluated_spec (s : State) : s.MinuteEvaluated s.minuteEvaluated := by
  have expired := s.expireNotices_eq s.clock.absolute
  have repressed := s.expireNotices_repressed s.clock.absolute
  rw [State.minuteEvaluated]
  generalize s.expireNotices s.clock.absolute = u at expired repressed
  have board := State.evaluateAll_offBoard u .clock
  have evaluated : Evaluated u (u.evaluateAll .clock) (fun _ => true) .clock false := State.evaluateRooms_evaluated _ _ _
  generalize u.evaluateAll .clock = v at board evaluated
  have frame := State.eq_of_offBoard board
  refine ⟨?_, ?_, repressed.of_offBoard board, ?_⟩
  · have notices : v.notices = u.notices := notices_of_desk (desk_of_offBoard board)
    have pressure : v.pressure = u.pressure := pressure_of_offBoard board
    have ports : v.ports = u.ports := ports_of_offBoard board
    have whole : u = { s with notices := u.notices, pressure := u.pressure, ports := u.ports } :=
      expired.trans (by rw [(congrArg State.notices expired :)])
    rw [notices, pressure, ports]
    exact frame.trans (congrArg (fun w : State => { w with
      evals := v.evals, signs := v.signs, lines := v.lines, quiet := v.quiet }) whole)
  · exact (notices_of_desk (desk_of_offBoard board)).trans (congrArg State.notices expired :)
  · refine evaluated.of_before ?_ ?_ ?_ ?_ ?_ <;> rw [expired]

/-- R28: a boundary event of a running hub at its own moment is the second boundary. -/
theorem State.whenRunning_boundary {moment : State → Bool} (running : s.run = .running) (now : moment s = true) :
    s.whenRunning (fun s => if moment s then s.boundary else s) = s.boundary :=
  (State.whenRunning_eq _ running).trans (if_pos now)

/-- Settles O34. -/
theorem minuteBoundaryActs : Obligations.MinuteBoundaryActs := by
  unfold Obligations.MinuteBoundaryActs
  intro s running set second minute
  obtain ⟨b, hb⟩ : ∃ b, { s with clock := { s.clock with minute := s.clock.minute + 1, second := 0 } } = b := ⟨_, rfl⟩
  have advanced : s.advanceClock = { b.minuteEvaluated with quiet := entryMove b.minuteEvaluated } := by
    rw [State.advanceClock_minute set second minute, hb, State.minuteWork_eq]
  have now : s.clock.atMinute = true := by simp [Clock.atMinute, set, second, minute]
  obtain ⟨frame, notices, repressed, evaluated⟩ := b.minuteEvaluated_spec
  generalize b.minuteEvaluated = v at advanced frame notices repressed evaluated
  subst hb
  refine ⟨v, s.boundary, congrArg Host.Outcome.next (State.whenRunning_boundary (moment := fun s => s.clock.atMinute) running now),
    congrArg Host.Outcome.next (State.whenRunning_eq _ running), frame,
    notices.trans (congrArg (unexpired s.notices) (Nat.add_assoc _ _ 1).symm), ⟨repressed.level, repressed.pace⟩,
    evaluated.of_before rfl rfl rfl rfl rfl, ?_⟩
  rw [State.boundary, advanced]
  exact State.tickWaits_ticked _

/-! ### The day boundaries -/

/-- R20: a purge reaches the timetables, the pressure level and the ports alone. -/
theorem State.purge_eq (s : State) (d : Nat) : s.purge d =
    { s with timetables := purged s d, pressure := (s.purge d).pressure, ports := (s.purge d).ports } :=
  State.repress_eq _

/-- R20, R22: the level is re-evaluated after a purge. -/
theorem State.purge_repressed (s : State) (d : Nat) : Repressed s (s.purge d) := by
  have h := (s.purgeEntries d).repress_repressed
  exact ⟨h.level, h.pace⟩

theorem State.repress_setClock (s : State) (c : Clock) : ({ s with clock := c }).repress = { s.repress with clock := c } := by
  by_cases same : nextPressure s.pressure s.freeEntries s.freeCells = s.pressure
  · have kept : s.repress = s := if_pos same
    rw [kept]
    exact if_pos same
  · have moved : s.repress = ({ s with pressure := nextPressure s.pressure s.freeEntries s.freeCells }).raiseAll .pace :=
      if_neg same
    rw [moved]
    exact if_neg same

/-- R20: a purge reads no clock. -/
theorem State.purge_setClock (s : State) (c : Clock) (d : Nat) :
    ({ s with clock := c }).purge d = { s.purge d with clock := c } :=
  (s.purgeEntries d).repress_setClock c

/-- R31: the end of day 15. -/
structure State.DaysEnded (s v : State) : Prop where
  frame : v = { s with clock := { isSet := false, day := 0, minute := 0, second := 0 }, ports := v.ports, evals := v.evals
                       signs := v.signs, lines := v.lines, quiet := v.quiet }
  ports : ∀ q, v.port q = { s.port q with raised := (s.port q).raised ||| Source.flag .clock }
  evaluated : Evaluated s v (fun _ => true) .clock true

theorem State.endOfDays_spec (s : State) : s.DaysEnded s.endOfDays := by
  obtain ⟨u, hu⟩ : ∃ u, ({ s with clock := .unset }).raiseAll .clock = u := ⟨_, rfl⟩
  have raised : u = { s with clock := .unset, ports := u.ports } := by rw [← hu]; rfl
  have flags (q : Port) : u.port q = { s.port q with raised := (s.port q).raised ||| Source.flag .clock } := by
    rw [← hu]
    exact State.raiseAll_port _ .clock q
  have evaluated : Evaluated u (u.evaluateAll .clock) (fun _ => true) .clock false := State.evaluateRooms_evaluated _ _ _
  have ended : s.endOfDays = (u.evaluateAll .clock).wakeCause := by rw [State.endOfDays, hu]
  have board : s.endOfDays.offBoard = u.offBoard := by
    rw [ended, State.wakeCause_offBoard, State.evaluateAll_offBoard]
  have woken : Evaluated u s.endOfDays (fun _ => true) .clock true := ended ▸ evaluated.wakeCause
  generalize s.endOfDays = v at board woken
  have ports : v.ports = u.ports := ports_of_offBoard board
  refine ⟨?_, fun q => ?_, ?_⟩
  · rw [ports]
    exact (State.eq_of_offBoard board).trans (congrArg (fun w : State => { w with
      evals := v.evals, signs := v.signs, lines := v.lines, quiet := v.quiet }) raised)
  · exact (congrArg (·[portIndex q]) ports).trans (flags q)
  · refine woken.of_before ?_ ?_ ?_ ?_ ?_ <;> rw [raised]

/-- Settles O35. -/
theorem dayBoundariesAct : Obligations.DayBoundariesAct := by
  unfold Obligations.DayBoundariesAct
  intro s running set second minute
  refine ⟨fun day => ?_, fun day => ?_⟩
  · obtain ⟨b, hb⟩ : ∃ b, { s.purge (s.clock.day + 1) with
      clock := { isSet := true, day := s.clock.day + 1, minute := 0, second := 0 } } = b := ⟨_, rfl⟩
    have advanced : s.advanceClock = { b.minuteEvaluated with quiet := entryMove b.minuteEvaluated } := by
      rw [State.advanceClock_day set second minute day, State.purge_setClock, hb, State.minuteWork_eq]
    have now : s.clock.atDay = true := by simp [Clock.atDay, set, second, minute, day]
    have purge := s.purge_eq (s.clock.day + 1)
    have level := s.purge_repressed (s.clock.day + 1)
    generalize s.purge (s.clock.day + 1) = u at hb purge level
    obtain ⟨frame, notices, repressed, evaluated⟩ := b.minuteEvaluated_spec
    generalize b.minuteEvaluated = v at advanced frame notices repressed evaluated
    subst hb
    refine ⟨u, v, s.boundary, congrArg Host.Outcome.next (State.whenRunning_boundary (moment := fun s => s.clock.atDay) running now),
      congrArg Host.Outcome.next (State.whenRunning_eq _ running), purge, level, frame, ?_, ⟨repressed.level, repressed.pace⟩, ?_, ?_⟩
    · rw [notices, (congrArg State.notices purge :)]
      exact congrArg (unexpired s.notices) (Nat.add_zero _)
    · refine evaluated.of_before ?_ ?_ ?_ ?_ ?_ <;> rw [purge]
    · rw [State.boundary, advanced]
      exact State.tickWaits_ticked _
  · have now : s.clock.atEnd = true := by simp [Clock.atEnd, set, second, minute, day]
    have advanced := State.advanceClock_end set second minute day
    obtain ⟨frame, ports, evaluated⟩ := s.endOfDays_spec
    refine ⟨s.endOfDays, s.boundary, congrArg Host.Outcome.next (State.whenRunning_boundary (moment := fun s => s.clock.atEnd) running now),
      congrArg Host.Outcome.next (State.whenRunning_eq _ running), frame, ports, evaluated, ?_⟩
    rw [State.boundary, advanced]
    exact State.tickWaits_ticked _

end Sys2Proof.Machine
end
